-- ==== Sys2Proof/Word.lean ====
section
/-! DEFINITION. The word and byte types of the register and memory spaces, and the sparse table type. -/

namespace Sys2Proof

/-- A register (R2: every register is 32 bits wide). -/
abbrev Word := BitVec 32

/-- A byte of working memory, NV array, OTP array or packet payload. -/
abbrev Byte := BitVec 8

/-- A 10-bit native word (R12). -/
abbrev Code := BitVec 10

/-- A sparse table: keys strictly rising, no entry equal to what an unlisted key reads as. -/
abbrev Tab (α : Type) := List (Nat × α)

/-- A tenant T0 to T15. -/
abbrev Tenant := Fin 16

/-- A requester: T0 to T15, 16 for the sideband port, 17 for the test access port. -/
abbrev Requester := Fin 18

/-- A link port: 0 ILV0, 1 ILV1, 2 FRD0, 3 FRD1. -/
abbrev Port := Fin 4

/-- A host link port: 0 ILV0, 1 ILV1. -/
abbrev HostPort := Fin 2

end Sys2Proof
end

