-- ==== Sys2Proof/Syntax.lean ====
section
/-! DEFINITION. The commands of the block: one constructor per row of spec/opcode_table.json, in the table's order.
A command carries what its sender or the outside world supplies (a tenant, a written value, a sample, a received
frame); everything else it does is computed from the state. -/

namespace Sys2Proof

/-- The payload side of a request packet as the link layer hands it over (Table 15-2): VC bit, TENANT, and the
LENGTH bytes of the payload. -/
structure ReqPacket where
  vc : Bool
  tenant : Tenant
  payload : List Byte
deriving DecidableEq, Repr

/-- The ack and credit field of a flit (Table 14-3). -/
structure AckField where
  ackSeq : BitVec 10
  ackV : Bool
  nakSeq : BitVec 10
  nakV : Bool
  snap : Bool
  init : Bool
  credReq : BitVec 12
  credRsp : BitVec 12
deriving DecidableEq, Repr

/-- A flit (Tables 14-1, 14-2): its header, its ack and credit field and its LENGTH payload bytes. -/
structure Flit where
  type : BitVec 4
  vc : Bool
  tenant : Tenant
  seq : BitVec 10
  initDone : Bool
  ack : AckField
  payload : List Byte
deriving DecidableEq, Repr

/-- A received marker of one physical lane (Table 13-2): its LID symbol and whether it arrived complemented. -/
structure LaneHit where
  lid : BitVec 10
  inverted : Bool
deriving DecidableEq, Repr

/-- One marker period of a candidate offset (R275): whether every lane had its hit there, how many of the 64 codewords
decoded, and how many of those with corrections. -/
structure LockPeriod where
  hit : Bool
  decoded : Nat
  corrected : Nat
deriving DecidableEq, Repr

/-- Fill of a receive elastic buffer (R278). -/
inductive ElasticFill where
  | belowQuarter | between | aboveHalf
deriving DecidableEq, Repr

/-- A CAN frame (Table 19-3, without TIME); `remote` marks a remote frame. -/
structure CanFrame where
  id : BitVec 29
  ide : Bool
  fdf : Bool
  brs : Bool
  esi : Bool
  dlc : BitVec 4
  remote : Bool
  data : List Byte
deriving DecidableEq, Repr

/-- The kind of a CAN error, as CAN_LEC codes it (19, registers). -/
inductive CanError where
  | stuff | form | ack | bit1 | bit0 | crc
deriving DecidableEq, Repr

/-- The reply that ends an AUX transaction (R364). -/
inductive AuxReply where
  | ack (data : List Byte)
  | nack
  | defer
deriving DecidableEq, Repr

/-- `count` samples in a row of a photodiode with the same code; `rail`: the front end is at its rail (R387, R388). -/
structure PdRun where
  code : Code
  rail : Bool
  count : Nat
deriving DecidableEq, Repr

/-- A supervisor's sample of a slot (R200): the newest code, the filtered level of SEQ_PGn, and for how long the
condition it shows has lasted, in 10 µs units. -/
structure RailSample where
  slot : Fin 16
  code : Code
  pg : Bool
  held : Nat
deriving DecidableEq, Repr

/-- A domain that SYS_RST_CTRL can reset (R21). -/
inductive ResetDomain where
  | ilv0 | ilv1 | frd0 | frd1 | can0 | can1 | adc | opt
deriving DecidableEq, Repr

/-- The commands, one per row of the table of operations and events. `w` arguments are the 32-bit value a register
write carries; `t` arguments are the writing tenant or requester. -/
inductive Instr where
  /-- REGISTER_WRITE (R3); `same`: the W1C bits of the register that the device sets in the clock cycle of the write
  (R5). -/
  | registerWrite (t : Requester) (addr w same : Word)
  /-- BOUND_QUERY (R51): a write to STR_BQ_ADDR (`bit = false`) or STR_BQ_BIT (`bit = true`). -/
  | boundQuery (t : Requester) (bit : Bool) (w : Word)
  /-- POR_N_ASSERT (R18, R505): POR_N has read low for `ns` nanoseconds; `banks`: the banks powered, bit 0 VDDIO1, bit 1
  VDDIO2. -/
  | porNAssert (ns : Nat) (banks : BitVec 2)
  /-- POR_N_RELEASE (R25, R491): POR_N is high; `banks`: the banks powered, bit 0 VDDIO1, bit 1 VDDIO2. -/
  | porNRelease (banks : BitVec 2)
  /-- RST_N_ASSERT (R19): RST_N has been low for `ns` nanoseconds. -/
  | rstNAssert (ns : Nat) (soft monitor : Bool)
  /-- WARM (R14): a write of SYS_RST_CTRL with WARM set. -/
  | warm (t : Requester)
  /-- WARM_RESET_RELEASE (R26). -/
  | warmResetRelease
  /-- DEFERRED_WARM_RESET (R17). -/
  | deferredWarmReset
  /-- DOMAIN_RESET (R21): a write of SYS_RST_CTRL with the bit of `d` set. -/
  | domainReset (t : Requester) (d : ResetDomain)
  /-- DOMAIN_RESET_END (R21). -/
  | domainResetEnd (d : ResetDomain)
  /-- BACKUP_POR (R24). -/
  | backupPor
  /-- CLOCK_CHECK_WINDOW (R11): the edges counted per domain of Table 1-3 in the window, index 0 first. -/
  | clockCheckWindow (edges : List (Option Nat))
  /-- CORE_RAILS_IN_RANGE (R28). -/
  | coreRailsInRange
  /-- RAIL_WAKE_TIMEOUT (R38): the monitors of R202 that are out of their window. -/
  | railWakeTimeout (out : BitVec 7)
  /-- DOOR_BUDGET_OVER (R33). -/
  | doorBudgetOver
  /-- HELD_REQUEST_RELEASE (R35). -/
  | heldRequestRelease
  /-- OTP_LOAD_DONE (R70): the slots (bit 4g + n) that fail at margin level. -/
  | otpLoadDone (weak : BitVec 20) (selOk : BitVec 3)
  /-- STRUCTURE_VERIFY_DONE (R48). -/
  | structureVerifyDone (sel0 sel1 : Bool)
  /-- OTP_PROGRAM (R67): a write of OTP_PROG_CTRL; whether VPP_NV is in its operating range. -/
  | otpProgram (t : Requester) (w : Word) (vppOk : Bool)
  /-- OTP_PROGRAM_DONE (R68): the index of the first word whose margin verify fails, if any. -/
  | otpProgramDone (failed : Option Nat)
  /-- OPEN (R83): a write of UPD_CTRL. -/
  | updOpen (t : Requester) (w : Word)
  /-- UPDATE_ERASE_DONE (R83): whether the clone passed its program verify. -/
  | updateEraseDone (ok : Bool)
  /-- APERTURE_WRITE (R81): data bytes at an aperture address, and whether the NV program verify passes. -/
  | apertureWrite (t : Tenant) (addr : Word) (data : List Byte) (ok : Bool)
  /-- VERIFY (R85). -/
  | updVerify (t : Requester) (w : Word)
  /-- VERIFY_DONE (R85). -/
  | verifyDone
  /-- ACTIVATE (R86). -/
  | updActivate (t : Requester) (w : Word)
  /-- CONFIRM (R90). -/
  | updConfirm (t : Requester) (w : Word)
  /-- ROLLBACK (R91). -/
  | updRollback (t : Requester) (w : Word)
  /-- SELECTOR_WRITE_DONE (R88): whether the ring 0 and the ring 1 copy pass their program verify. -/
  | selectorWriteDone (ok0 ok1 : Bool)
  /-- READ_REQUEST (R315). -/
  | readRequest (p : HostPort) (q : ReqPacket)
  /-- WRITE_REQUEST (R315). -/
  | writeRequest (p : HostPort) (q : ReqPacket)
  /-- ATOMIC_REQUEST (R319). -/
  | atomicRequest (p : HostPort) (q : ReqPacket)
  /-- ECC_COUNT_CLEAR (R118). -/
  | eccCountClear (t : Requester) (w : Word)
  /-- STALE_FLAG_CLEAR (R115): a write to MEM_STALEk, or to MEM_LOSTk when `lost`. -/
  | staleFlagClear (t : Requester) (lost : Bool) (k : Fin 8) (w : Word)
  /-- BACKGROUND_ZERO (R125): the next `n` lines. -/
  | backgroundZero (n : Nat)
  /-- NV_READ_RELEASE (R122). -/
  | nvReadRelease
  /-- SUPPLY_TRIP (R129): the newest VIN_SNS and VHOLD_SNS codes. -/
  | supplyTrip (vin vhold : Code)
  /-- STORE_REGION_DONE (R131): the time since the store began in 0.1 µs units, and the fresh VHOLD_SNS sample. -/
  | storeRegionDone (time : Nat) (vhold : Code)
  /-- ENERGY_ESTIMATE (R132): time since the store began in 0.1 µs units, and the fresh VHOLD_SNS sample. -/
  | energyEstimate (time : Nat) (vhold : Code)
  /-- HORIZON_COMMIT (R135). -/
  | horizonCommit (ok : Bool)
  /-- MANUAL_STORE (R138): a write of STO_CTRL with STORE set; the VHOLD_SNS sample of the admission test. -/
  | manualStore (t : Requester) (vhold : Code)
  /-- SUPPLY_RETURN (R147): the VIN_SNS code that has stood for the supply-return time. -/
  | supplyReturn (vin : Code)
  /-- HELD_WRITE_APPLY (R136). -/
  | heldWriteApply
  /-- CLASS_A_RESTORE_DONE (R141): the words (address / 16) whose NV read failed its check (R154). -/
  | classARestoreDone (bad : List Nat)
  /-- BACKGROUND_RESTORE (R141): the next `n` lines of Class B; the words whose NV read failed. -/
  | backgroundRestore (n : Nat) (bad : List Nat)
  /-- PREERASE_START (R165). -/
  | preeraseStart
  /-- PREERASE_DONE (R158): whether the verify pass succeeded. -/
  | preeraseDone (ok : Bool)
  /-- PREERASE_RESUME (R171). -/
  | preeraseResume
  /-- SCRUB (R166): the logical block read, whether any word needs correction or fails margin, whether a word is
  poisoned. -/
  | scrub (block : Fin 768) (weak : Bool)
  /-- WEAR_MIGRATION (R167). -/
  | wearMigration
  /-- BLOCK_COPY_DONE (R166). -/
  | blockCopyDone
  /-- VOTE (R176): a write of PWR_REQ; `more`: another vote of the same CORE cycle follows (R191). -/
  | vote (t : Requester) (w : Word) (vhold : Code) (more : Bool)
  /-- DESCENT_RELEASE (R187). -/
  | descentRelease (vhold : Code)
  /-- REFUSAL_RECHECK (R186). -/
  | refusalRecheck (vhold : Code)
  /-- AUTO_P1_EXPIRY (R177). -/
  | autoP1Expiry
  /-- AUTO_P2_EXPIRY (R177). -/
  | autoP2Expiry
  /-- PORTS_DRAINED (R179): the VHOLD_SNS sample with which the entry store begins. -/
  | portsDrained (vhold : Code)
  /-- LADDER_ENTRY_DONE (R179). -/
  | ladderEntryDone
  /-- LADDER_EXIT_DONE (R181). -/
  | ladderExitDone
  /-- SELF_TEST_DONE (R193). -/
  | selfTestDone (ok : Bool)
  /-- SBP_WAKE (R258): a write to PWR_SBP_WAKE. -/
  | sbpWake (t : Requester) (w : Word)
  /-- SEQ_UP (R196): a write of SEQ_CTRL. -/
  | seqUp (t : Requester) (w : Word)
  /-- SEQ_DOWN (R199): a write of SEQ_CTRL. -/
  | seqDown (t : Requester) (w : Word)
  /-- RAIL_IN_RANGE (R197): the slot, the newest code, the filtered level of SEQ_PGn, for how long the condition has
  lasted, and the time since the enable edge, both in 10 µs units. -/
  | railInRange (slot : Fin 16) (code : Code) (pg : Bool) (held time : Nat)
  /-- STEP_DELAY_EXPIRY (R196): the time since the order began in 10 µs units. -/
  | stepDelayExpiry (time : Nat)
  /-- RISE_WINDOW_EXPIRY (R210): the last code, the elapsed time in 100 µs units. -/
  | riseWindowExpiry (code : Code) (time : Nat)
  /-- RAIL_DISCHARGED (R198): the code, the filtered level of SEQ_PGn, the step time and the time since the order began,
  in 10 µs units. -/
  | railDischarged (code : Code) (pg : Bool) (time total : Nat)
  /-- DIS_TIMEOUT (R211): the code at expiry, the step time and the time since the order began in 10 µs units. -/
  | disTimeout (code : Code) (time total : Nat)
  /-- OFF_MIN_EXPIRY (R214). -/
  | offMinExpiry
  /-- RAIL_WINDOW_FAULT (R200): the slots whose samples fail in one cycle. -/
  | railWindowFault (slots : List RailSample)
  /-- RAIL_REQUALIFY (R200). -/
  | railRequalify (e : RailSample)
  /-- CORE_RAIL_FAULT (R202): the monitors out of their windows. -/
  | coreRailFault (out : BitVec 7)
  /-- ADC_CONVERSION_DONE (R423). -/
  | adcConversionDone (ch : Fin 41) (code : Code)
  /-- SCAN_ROUND_START (R421). -/
  | scanRoundStart
  /-- ADC_CHANNEL_CONFIG (R422): a write of ADC_CHn_CFG. -/
  | adcChannelConfig (t : Requester) (n : Fin 32) (w : Word)
  /-- LOG_RECORD_CHECK (R205): whether the slot's CRC matches. -/
  | logRecordCheck (ok : Bool)
  /-- LOG_READOUT (R207): a write of LOG_RD_CTRL. -/
  | logReadout (t : Requester) (w : Word)
  /-- VBK_SWITCHOVER (R223). -/
  | vbkSwitchover
  /-- VDD_ADC_SWITCHBACK (R223). -/
  | vddAdcSwitchback
  /-- VBK_LOW (R225). -/
  | vbkLow
  /-- SWFIRST_CLEAR (R224): a write of RTC_SWFIRST_SUB. -/
  | swfirstClear (t : Requester) (w : Word)
  /-- TIME_WRITE (R228): a write of RTC_SET_HI. -/
  | timeWrite (t : Requester) (w : Word)
  /-- TIME_WRITE_APPLY (R228). -/
  | timeWriteApply
  /-- TRIM_WINDOW_START (R229). -/
  | trimWindowStart
  /-- BACKUP_TEMP_SAMPLE (R230): the sample, signed, 0.25 °C. -/
  | backupTempSample (temp : BitVec 12)
  /-- OSC_STOP_DETECT (R231). -/
  | oscStopDetect
  /-- SHIFT (R232): a write of RTC_SHIFT; `together`: in the CORE cycle of the GO write of RTC_SET_HI that is pending
  (R246). -/
  | shift (t : Requester) (w : Word) (together : Bool)
  /-- SHIFT_APPLY (R232). -/
  | shiftApply
  /-- TIME_SNAPSHOT (R233): a read of RTC_SUBSEC. -/
  | timeSnapshot (t : Requester)
  /-- RTC_WRAP (R241). -/
  | rtcWrap
  /-- EVENT_CAPTURE (R234): the input, its level after the edge, and in how many consecutive ticks it has been sampled. -/
  | eventCapture (n : Fin 4) (level : Bool) (samples : Nat)
  /-- OVF_CLEAR (R235): a write of EVT_STAT. -/
  | ovfClear (t : Requester) (w : Word)
  /-- EVENT_READOUT (R236): a write of EVT_RD_CTRL. -/
  | eventReadout (t : Requester) (w : Word)
  /-- EVENT_CONSUME (R236). -/
  | eventConsume (t : Requester)
  /-- COUNTDOWN_LOAD (R238): a write of RTC_CD_LOAD. -/
  | countdownLoad (t : Requester) (w : Word)
  /-- COUNTDOWN_EXPIRY (R238). -/
  | countdownExpiry
  /-- SBP_CS_FALL (R250): the level of SBP_SCLK. -/
  | sbpCsFall (sclk : Bool)
  /-- SBP_CS_RISE (R266). -/
  | sbpCsRise
  /-- SBP_READ (R252): the request bytes. -/
  | sbpRead (frame : List Byte) (words : Nat)
  /-- SBP_WRITE (R252): the request bytes. -/
  | sbpWrite (frame : List Byte)
  /-- SBP_WAIT_TIMEOUT (R260): the request bytes of the frame that was waiting. -/
  | sbpWaitTimeout
  /-- CDR_LOCK (R275). -/
  | cdrLock (p : Port)
  /-- ALIGN_CANDIDATE (R275): the hits per physical lane, and whether the skew is within the limit. -/
  | alignCandidate (p : Port) (hits : List LaneHit) (skewOk : Bool)
  /-- ALIGN_VERIFY_FAIL (R275). -/
  | alignVerifyFail (p : Port)
  /-- LOCK_ACQUIRED (R275): whether the markers are in training mode. -/
  | lockAcquired (p : Port) (training : Bool) (periods : List LockPeriod)
  /-- TRAINING_RECORD (R275): the 160 data bytes of a training codeword that decoded, and whether symbols were
  corrected. -/
  | trainingRecord (p : Port) (bytes : List Byte) (corrected : Bool)
  /-- LOCK_LOSS (R276). -/
  | lockLoss (p : Port) (hits : List Bool)
  /-- ATTEMPT_TIMEOUT (R280): the physical lane without clock lock if any, and whether skew prevented alignment. -/
  | attemptTimeout (p : Port) (cdrLane : Option (Fin 4)) (skew : Bool)
  /-- TRAINING_RETRY (R275). -/
  | trainingRetry (p : Port)
  /-- RETRAIN (R282): a write of PHY_CTRL. -/
  | retrain (t : Requester) (p : Port) (w : Word)
  /-- PEER_TRAINING (R283). -/
  | peerTraining (p : Port)
  /-- PEER_IDLE (R284). -/
  | peerIdle (p : Port)
  /-- LANE_ACTIVITY_WAKE (R284). -/
  | laneActivityWake (p : Port)
  /-- PHY_COUNTER_CLEAR (R280): a write of PHY_CLR. -/
  | phyCounterClear (t : Requester) (p : Port) (w : Word)
  /-- FLIT_RECEIVED (R291): a good flit with LENGTH not 0, and whether symbols of its codeword were corrected. -/
  | flitReceived (p : Port) (f : Flit) (corrected : Bool)
  /-- NULL_FLIT_RECEIVED (R291): a good flit with LENGTH 0, and whether symbols of its codeword were corrected. -/
  | nullFlitReceived (p : Port) (f : Flit) (corrected : Bool) (fill : ElasticFill)
  /-- BAD_FLIT_RECEIVED (R290): whether its codeword decoded, and then whether symbols were corrected. -/
  | badFlitReceived (p : Port) (decoded corrected : Bool)
  /-- FLIT_SEND (R295). -/
  | flitSend (p : Port)
  /-- ACK_TIMER_EXPIRY (R292). -/
  | ackTimerExpiry (p : Port)
  /-- REPLAY_TIMER_EXPIRY (R294). -/
  | replayTimerExpiry (p : Port)
  /-- CREDIT_TIMEOUT (R299). -/
  | creditTimeout (p : Port)
  /-- IDLE_POINT (R302). -/
  | idlePoint (p : Port)
  /-- SCHEDULE_RETRAIN (R302): a write of LNK_CTRL. -/
  | scheduleRetrain (t : Requester) (p : Port) (w : Word)
  /-- LINK_COUNTER_CLEAR (R309): a write of LNK_CTRL. -/
  | linkCounterClear (t : Requester) (p : Port) (w : Word)
  /-- EOI (R326): a write of INT_CTL of tenant `x`. -/
  | eoi (t : Requester) (x : Tenant) (w : Word)
  /-- INT_ROUTE (R334): a write of INT_ROUTEk. -/
  | intRoute (t : Requester) (k : Fin 4) (w : Word)
  /-- INT_ENABLE (R334): a write of INT_EN of tenant `x`. -/
  | intEnable (t : Requester) (x : Tenant) (w : Word)
  /-- TXN_COUNTER_CLEAR (R322): a write of TXN_CLR. -/
  | txnCounterClear (t : Requester) (w : Word)
  /-- FRAME_START (R343): the samples of PD0 to PD7 from the start of the frame that ended on. -/
  | frameStart (n : Fin 4) (pd : List (List PdRun))
  /-- LINE_END (R350): the columns of the line whose fetched data was missing when composed. -/
  | lineEnd (n : Fin 4) (missing : List Nat)
  /-- CHANNEL_ACTIVATE (R338): a write of CH_CTRL. -/
  | channelActivate (t : Requester) (n : Fin 4) (w : Word)
  /-- CHANNEL_DEACTIVATE (R353): a write of CH_CTRL. -/
  | channelDeactivate (t : Requester) (n : Fin 4) (w : Word)
  /-- CHANNEL_LOAD_DONE (R357). -/
  | channelLoadDone (n : Fin 4)
  /-- COMMIT (R343): a write of CH_CTRL. -/
  | commit (t : Requester) (n : Fin 4) (w : Word)
  /-- PALETTE_ENTRY_WRITE (R344): a write of CH_PAL_A. -/
  | paletteEntryWrite (t : Requester) (n : Fin 4) (w : Word)
  /-- CHANNEL_COUNTER_CLEAR (R355): a write of CH_CLR. -/
  | channelCounterClear (t : Requester) (n : Fin 4) (w : Word)
  /-- HPD_RISE (R361). -/
  | hpdRise (n : Fin 4)
  /-- HPD_IRQ (R372). -/
  | hpdIrq (n : Fin 4)
  /-- HPD_LOSS (R375). -/
  | hpdLoss (n : Fin 4)
  /-- AUX_TRANSACTION_DONE (R364). -/
  | auxTransactionDone (n : Fin 4) (r : AuxReply)
  /-- AUX_TIMEOUT (R364). -/
  | auxTimeout (n : Fin 4)
  /-- PANEL_TRAINING_RETRY (R371). -/
  | panelTrainingRetry (n : Fin 4)
  /-- OUTPUT_RETRAIN (R372): a write of OUT_CTRL. -/
  | outputRetrain (t : Requester) (n : Fin 4) (w : Word)
  /-- AUX_COMMAND (R365): a write of OUT_AUX_CMD. -/
  | auxCommand (t : Requester) (n : Fin 4) (w : Word)
  /-- SINK_CRC_READ (R367). -/
  | sinkCrcRead (n : Fin 4)
  /-- OUTPUT_COUNTER_CLEAR (R371): a write of OUT_CLR. -/
  | outputCounterClear (t : Requester) (n : Fin 4) (w : Word)
  /-- L_WINDOW_END (R389): the tell-tale and the current samples of the window, one per ms. -/
  | lWindowEnd (j : Fin 64) (samples : List Code)
  /-- BULB_CHECK_END (R382): of the display tell-tales of a channel, or of the LED-only tell-tales. -/
  | bulbCheckEnd (n : Option (Fin 4))
  /-- PROOF_DEADLINE (R391). -/
  | proofDeadline (j : Fin 64)
  /-- T1_ALIVE_KICK (R381): a write of TT_T1_ALIVE. -/
  | t1AliveKick (t : Requester) (w : Word)
  /-- T1_ALIVE_TIMEOUT (R381). -/
  | t1AliveTimeout
  /-- T1_REQUEST (R381): a write of TT_T1_REQk. -/
  | t1Request (t : Requester) (k : Fin 4) (w : Word)
  /-- PRESENCE_PERIOD (R392). -/
  | presencePeriod
  /-- LED_FAULT_FLAG (R400): sink n flags SHORT when `short`, OPEN otherwise. -/
  | ledFaultFlag (n : Fin 32) (short : Bool)
  /-- LED_RETRY (R400). -/
  | ledRetry (n : Fin 32)
  /-- CAN_FRAME_RECEIVED (R405): the frame, CANx_TIME at its end, the CANMAP records whose SRC_TIMEOUT expires in the same
  CORE cycle (R413), and a TT of the flock that arrives in it, with its port (R458). -/
  | canFrameReceived (c : Fin 2) (f : CanFrame) (time : Word) (expired : List (Fin 256)) (report : Option (Fin 2 × List Byte))
  /-- CAN_TX_REQUEST (R408): a write of CAN_MB_CTRLn with REQ set. -/
  | canTxRequest (t : Requester) (c : Fin 2) (n : Fin 64) (w : Word)
  /-- CAN_TX_ABORT (R408): a write of CAN_MB_CTRLn with ABORT set; `onBus`: the buffer is on the bus. -/
  | canTxAbort (t : Requester) (c : Fin 2) (n : Fin 64) (w : Word) (onBus : Bool)
  /-- CAN_TX_DONE (R408): CANx_TIME at success, and the measured transmitter delay in CANC periods. -/
  | canTxDone (c : Fin 2) (time : Word) (delay : Nat)
  /-- CAN_TX_ERROR (R417); the transmitter delay, where the attempt measured it (R404). -/
  | canTxError (c : Fin 2) (e : CanError) (delay : Option Nat)
  /-- BUS_OFF_RECOVERY (R417). -/
  | busOffRecovery (c : Fin 2)
  /-- SOURCE_TIMEOUT (R413): the CANMAP record. -/
  | sourceTimeout (r : Fin 256)
  /-- CAN_SYNC (R419). -/
  | canSync (c : Fin 2)
  /-- CAN_ACTIVITY_WAKE (R420). -/
  | canActivityWake (c : Fin 2)
  /-- CAN_COUNTER_CLEAR (R418): a write of CAN_CTRL. -/
  | canCounterClear (t : Requester) (c : Fin 2) (w : Word)
  /-- ALS_WINDOW_END (R426): the PD, and its samples in the window as runs of equal codes. -/
  | alsWindowEnd (p : Fin 8) (samples : List PdRun)
  /-- PWM_CYCLE_START (R427). -/
  | pwmCycleStart (n : Fin 4)
  /-- BKL_DELAY_EXPIRY (R429). -/
  | bklDelayExpiry (n : Fin 4)
  /-- BKL_SETTLE_EXPIRY (R429). -/
  | bklSettleExpiry (n : Fin 4)
  /-- HELLO (R441): received on port `p`, the payload bytes. -/
  | flkHello (p : Fin 2) (bytes : List Byte)
  /-- STATE (R448), and a TT that arrives in the same CORE cycle, with its port (R458). -/
  | flkState (p : Fin 2) (bytes : List Byte) (tt : Option (Fin 2 × List Byte))
  /-- TT (R443). -/
  | flkTt (p : Fin 2) (bytes : List Byte)
  /-- TIME (R447). -/
  | flkTime (p : Fin 2) (bytes : List Byte)
  /-- ROLE_REQ (R451). -/
  | flkRoleReq (p : Fin 2) (bytes : List Byte)
  /-- ROLE_ACK (R451). -/
  | flkRoleAck (p : Fin 2) (bytes : List Byte)
  /-- HELLO_TIMER (R439). -/
  | helloTimer
  /-- STATE_TIMER (R439). -/
  | stateTimer
  /-- TIME_TIMER (R447). -/
  | timeTimer
  /-- SWAP (R451): a write of FLK_CTRL. -/
  | swap (t : Requester) (w : Word)
  /-- ROLE_TIMEOUT (R454). -/
  | roleTimeout
  /-- MEMBER_LOSS (R462): the rank of the member. -/
  | memberLoss (r : Fin 4)
  /-- SAFE_RELEASE (R470): a write of FLT_SAFE_CTRL. -/
  | safeRelease (t : Requester) (w : Word)
  /-- WATCHDOG_KICK (R472): a write of FLT_WDG_KICK, `ms` after the previous kick. -/
  | watchdogKick (t : Requester) (w : Word) (ms : Nat)
  /-- WATCHDOG_LATE (R472). -/
  | watchdogLate
  /-- HEARTBEAT_LOSS (R473). -/
  | heartbeatLoss
  /-- SMO_CHECK_WINDOW (R474): the SMO periods counted over 1,024 REF periods. -/
  | smoCheckWindow (count : Nat)
  /-- CLOCK_RECHECK (R483): whether the clock of source `d` is still out of tolerance. -/
  | clockRecheck (d : Fin 4) (out : Bool)
  /-- STARVATION (R479): the waiting class and its wait in µs. -/
  | starvation (k : Fin 7) (us : Nat)
  /-- FAULT_QUERY (R477): a write of FLT_QSRC. -/
  | faultQuery (t : Requester) (w : Word)
  /-- ARB_COUNTER_CLEAR (R479): a write of ARB_CLR. -/
  | arbCounterClear (t : Requester) (w : Word)
  /-- BACKUP_POR_RELEASE (R24). -/
  | backupPorRelease
  /-- BK32_RESUME (R247). -/
  | bk32Resume
  /-- VBK_RETURN (R225). -/
  | vbkReturn
  /-- CORE_RAIL_REQUALIFY (R202): the monitor. -/
  | coreRailRequalify (m : Fin 7)
  /-- TAP_RESET (R15). -/
  | tapReset
  /-- TRAINING_READ_INTERVAL (R362). -/
  | trainingReadInterval (n : Fin 4)
  /-- AUX_DEFER_RETRY (R364). -/
  | auxDeferRetry (n : Fin 4)
  /-- PRESENCE_HOLDOFF_EXPIRY (R392). -/
  | presenceHoldoffExpiry
  /-- CAN_RX_ERROR (R417): the error kind; `heavy`: the receiver's dominant bit after its error flag, or a bit error
  while sending an active error or overload flag (ISO 11898-1 adds 8 instead of 1). -/
  | canRxError (c : Fin 2) (e : CanError) (heavy : Bool)
  /-- ARB_BW_WINDOW (R465): per class 1 to 7, the bandwidth granted in 0.01 GB/s and the longest wait in µs. -/
  | arbBwWindow (k : List (Nat × Nat))
deriving DecidableEq, Repr

end Sys2Proof
end

