-- ==== Sys2Proof/Decode.lean ====
section
/-! DEFINITION. The table of commands gives no row any bits: a command reaches the block as a register write, a packet,
a frame or an event, never as an encoded word. So no word spells a command. -/

namespace Sys2Proof

/-- The command that an `nbits`-bit word `w` spells by the table's bits: none, for no row of the table gives bits.
(log 5 DESIGN CHOICE) -/
def decodeTableWord (_nbits _w : Nat) : Option Instr := none

end Sys2Proof
end

