-- ==== Sys2Proof/Machine/State.lean ====
section
/-! DEFINITION. The state of the block: every register, buffer, counter, mode and pin the spec gives it, as plain
data, the queue of waiting commands, and the state after reset. A register that the spec numbers has its home in
`State.regs`, by its address; the structures below hold what no register shows. -/

namespace Sys2Proof.Machine

/-- The block has no stop of this kind: the spec gives every command an effect in every state, so no meaning raises
a fault. Safe: no run ends here. (log 6 DEDUCED) -/
inductive Fault where
deriving DecidableEq, Repr

/-- Why a command has no meaning. (log 6 DEDUCED) -/
inductive Refusal where
  /-- A command without a meaning yet, by its mnemonic; raised only in exec's arms. Safe: the run stops. -/
  | notModelled (mnemonic : String)
deriving DecidableEq, Repr

/-! ### The records of an applied structure image (Tables 3-4 to 3-15) -/

structure TenantRec where
  tenant : Nat
  portMask : Nat
  tagQuota : Nat
  creditQuota : Nat
  intPin : Nat
  flags : Nat
  regRd : Nat
  regWr : Nat
deriving DecidableEq, Repr

structure RegionRec where
  base : Nat
  size : Nat
  owner : Nat
  cls : Nat
  priority : Nat
  shareRd : Nat
  shareWr : Nat
  flags : Nat
deriving DecidableEq, Repr

structure LayerRec where
  fbBase : Nat
  pitch : Nat
  format : Nat
  owner : Nat
  x : Nat
  y : Nat
  w : Nat
  h : Nat
deriving DecidableEq, Repr

structure ChannelRec where
  channel : Nat
  outMode : Nat
  edpLanes : Nat
  edpRate : Nat
  pixclk : Nat
  hactive : Nat
  hfp : Nat
  hsync : Nat
  hbp : Nat
  vactive : Nat
  vfp : Nat
  vsync : Nat
  vbp : Nat
  fill : Nat
  layerCount : Nat
  flags : Nat
  bkl : Nat
  bklDelay : Nat
  bklSettle : Nat
  railMask : Nat
  layers : List LayerRec
deriving DecidableEq, Repr

structure TelltaleRec where
  index : Nat
  channel : Nat
  methods : Nat
  flags : Nat
  glyph : Nat
  variants : Nat
  pd : Nat
  x : Nat
  y : Nat
  led : Nat
  ledCurrent : Nat
  expCrc : List Nat
deriving DecidableEq, Repr

structure RailRec where
  slot : Nat
  upOrder : Nat
  downOrder : Nat
  senseKind : Nat
  sense : Nat
  dis : Nat
  riseWindow : Nat
  vLo : Nat
  vHi : Nat
  delay : Nat
  disTimeout : Nat
deriving DecidableEq, Repr

structure CanctlRec where
  ctrl : Nat
  flags : Nat
  nbrp : Nat
  ntseg1 : Nat
  ntseg2 : Nat
  nsjw : Nat
  dbrp : Nat
  dtseg1 : Nat
  dtseg2 : Nat
  dsjw : Nat
  tdco : Nat
  presenceId : Nat
deriving DecidableEq, Repr

structure CanmapRec where
  id : Nat
  ctrl : Nat
  byte : Nat
  bit : Nat
  width : Nat
  tt : Nat
  onValue : Nat
  srcTimeout : Nat
deriving DecidableEq, Repr

structure LadderRec where
  deepest : Nat
  wakeP5 : Nat
  holdCap : Nat
  vholdMin : Nat
  vholdMax : Nat
  restorePace : Nat
  autoP1 : Nat
  autoP2 : Nat
deriving DecidableEq, Repr

structure FlockRec where
  members : Nat
  ports : Nat
  maxRev : Nat
  flockId : Nat
deriving DecidableEq, Repr

structure LinkRec where
  port : Nat
  lanes : Nat
  rate : Nat
  flags : Nat
  ackTimer : Nat
  replayTimer : Nat
  creditTimeout : Nat
  poolMin : Nat
deriving DecidableEq, Repr

structure TrimRec where
  addr : Nat
  value : Nat
deriving DecidableEq, Repr

structure BoundRec where
  addr : Nat
  lsb : Nat
  width : Nat
  writers : Nat
  min : Nat
  max : Nat
deriving DecidableEq, Repr

structure FaultRec where
  source : Nat
  reaction : Nat
  param : Nat
deriving DecidableEq, Repr

structure PaletteRec where
  channel : Nat
  layer : Nat
  entries : Nat
  data : List Nat
deriving DecidableEq, Repr

/-- The decoded content of a structure image: what R49 applies. -/
structure Image where
  version : Nat
  len : Nat
  glyphHash : List Byte
  digest : List Byte
  tenants : List TenantRec
  regions : List RegionRec
  channels : List ChannelRec
  telltales : List TelltaleRec
  rails : List RailRec
  canctls : List CanctlRec
  canmaps : List CanmapRec
  ladder : Option LadderRec
  flock : Option FlockRec
  links : List LinkRec
  trims : List TrimRec
  bounds : List BoundRec
  faults : List FaultRec
  palettes : List PaletteRec
deriving DecidableEq, Repr

/-! ### Control, start and door flow -/

/-- The path a start takes (R25, R26). -/
inductive StartPath where
  | cold | restore | warm
deriving DecidableEq, Repr

/-- Where the core stands between power-off and run (Table 2-1, Table 9-4). (log 35 DEDUCED) -/
inductive Phase where
  /-- no core power: P5, P6, or a withdrawn wake (R38) -/
  | off
  /-- core held in cold or warm reset -/
  | reset
  /-- phase 1: waiting for the core rails -/
  | rails
  /-- phase 2: OTP load -/
  | otp
  /-- cold-start path: self-test -/
  | selfTest
  /-- phase 3: verification of `pair`; `second` when the other pair has already failed; `trial` when the pair in
  force was in trial (R89) -/
  | verify (pair second trial : Bool)
  /-- phase 4: Class A restore -/
  | classA
  /-- configured or unconfigured, and serving -/
  | run
deriving DecidableEq, Repr

/-- What the test access port permits (Table 4-4). (log 206 DESIGN CHOICE) -/
inductive TapRule where
  | opened | locked | boundaryOnly
deriving DecidableEq, Repr

structure Ctl where
  phase : Phase
  path : StartPath
  /-- level of POR_N -/
  porHigh : Bool
  /-- every core rail has qualified since the last wake request (R202) -/
  railsOk : Bool
  /-- PMIC_ON pin -/
  pmicOn : Bool
  /-- banks whose supply is present while PMIC_ON is high: bit 0 VDDIO1, bit 1 VDDIO2 (R491) -/
  banks : BitVec 2
  /-- the fixed monitors declare departures (R202) -/
  monitorsArmed : Bool
  /-- the power-loss flow runs (R129) -/
  lossFlow : Bool
  /-- the power-loss flow has ended and the supply has not returned (R17, R202) -/
  lossOver : Bool
  /-- the supply has returned since the trip (R147) -/
  supplyBack : Bool
  /-- causes (bits of SYS_RST_CAUSE) of the deferred warm reset (R17, R75, R95); 0 none -/
  warmDeferred : Nat
  /-- causes of the warm reset that follows the exit of the ladder state (R20, R481); 0 none -/
  warmAfterExit : Nat
  /-- the safety monitor holds the core in reset (R478) -/
  halted : Bool
  tapRule : TapRule
  /-- the test access port is in its reset state -/
  tapReset : Bool
  /-- clock re-checks pending for sources 0 to 3 (R483) -/
  recheck : BitVec 4
  /-- domain clocks the device has gated (R10), by the index of Table 1-3 -/
  gated : BitVec 25
  /-- a warm reset of the safety monitor for one of sources 0 to 3 waits (R483) -/
  clockReset : Bool
  /-- time on SMO since POR_N, in the units of the idle tick (R478) -/
  smo : Nat
  /-- stamps in that time of the monitor's warm resets in the sliding window of R478 -/
  monitorResets : List Nat
deriving DecidableEq, Repr

structure DoorSt where
  /-- the door times are being counted (from the wake tick) -/
  counting : Bool
  /-- BK32 ticks since the wake tick -/
  ticks : Nat
  /-- channels that have sent their first restored line -/
  lines : BitVec 4
  /-- channels that the start path found marked active (R32, R357) -/
  channels : BitVec 4
deriving DecidableEq, Repr

/-! ### OTP -/

/-- Reading or choice: log 21 DEDUCED -/
structure OtpForce where
  devid : Nat
  rank : Nat
  analog : List Byte
  turnover : Int
  coeff : Nat
  offset : Int
  keyHash : Option (List Byte)
  holdCap : Nat
  vholdMin : Nat
  vholdMax : Nat
  /-- 0 BLANK, 1 FACTORY, 2 FIELD, 3 RETIRED (R66, R78) -/
  life : Nat
deriving DecidableEq, Repr

structure OtpProg where
  group : Nat
  slot : Nat
  /-- payload, CRC and seal bytes, as programmed -/
  image : List Byte
deriving DecidableEq, Repr

structure OtpSt where
  /-- the array (Table 4-1) -/
  array : Tab Byte
  /-- values in force since the last load (R64) -/
  force : OtpForce
  /-- the program operation that runs (R68) -/
  prog : Option OtpProg
deriving DecidableEq, Repr

/-! ### Image update -/

/-- A slot-selector record (Table 5-3); `ok` is false for a copy that failed its program verify or was torn, whose bytes
`junk` then gives. (log 54 DESIGN CHOICE) -/
structure SelRec where
  gen : Nat
  active : Bool
  state : Nat
  bootsLeft : Nat
  version : Nat
  versionPrev : Nat
  cause : Nat
  ok : Bool
  junk : Nat
deriving DecidableEq, Repr

inductive UpdOp where
  | none
  | erase
  | verify (rollback : Bool)
  | write (rec : SelRec)
deriving DecidableEq, Repr

/-! ### Working memory and NV array -/

/-- Fill state of a line that is not valid (06, Banking and ECC). -/
inductive Fill where
  | toZero
  /-- to-restore, from store area A (false) or B (true) -/
  | toRestore (area : Bool)
deriving DecidableEq, Repr

/-- A run of lines [lo, hi) with one fill state. -/
structure FillRun where
  lo : Nat
  hi : Nat
  kind : Fill
deriving DecidableEq, Repr

structure MemSt where
  /-- working-memory bytes by address; an unlisted byte reads 0 -/
  wm : Tab Byte
  /-- words (address / 16) holding a double-bit error -/
  poison : List Nat
  /-- words holding a single-bit error -/
  weak : List Nat
  /-- lines not valid, in rising order -/
  fill : List FillRun
  /-- the area of the newest store committed since the last restore: its lines still to-restore date from before (R133) -/
  newStore : Option Bool
deriving DecidableEq, Repr

inductive BlockState where
  | dirty | preerasing | erased | quarantined | bad | mapped
deriving DecidableEq, Repr

/-- One entry of the block map (R162), by logical block. -/
structure Block where
  phys : Nat
  state : BlockState
  wear : Nat
  progTime : Nat
deriving DecidableEq, Repr

/-- A horizon entry (Table 7-4). -/
structure HEntry where
  base : Nat
  size : Nat
  owner : Nat
  cls : Nat
  priority : Nat
  /-- 1 COMMITTED, 2 UNTOUCHED -/
  state : Nat
deriving DecidableEq, Repr

/-- A store horizon (Tables 7-3, 7-4). -/
structure Horizon where
  gen : Nat
  area : Bool
  cause : Nat
  outcome : Nat
  ladder : Nat
  notStored : Nat
  rtc : Nat
  vTrip : Nat
  vEnd : Nat
  duration : Nat
  units : Nat
  flags : Nat
  hash : List Byte
  entries : List HEntry
deriving DecidableEq, Repr

/-- The body of a journal record (Table 8-4). -/
inductive JBody where
  | eraseIntent (block sectors reason : Nat)
  | eraseDone (block sectors wear : Nat)
  | map (gen : Nat) (pairs : List (Nat × Nat))
  | horizon (h : Horizon)
  | quarantine (block cause : Nat)
  | retire (block cause : Nat)
  | checkpoint (half lastSeq : Nat)
deriving DecidableEq, Repr

/-- A journal record with its SEQ, the log sector it lies in (0 to 29) and its offset there; `ok` is false for a record
that failed its verify or was torn, whose body `junk` then gives. (log 82 DESIGN CHOICE) -/
structure JRec where
  seq : Nat
  sector : Nat
  offset : Nat
  body : JBody
  ok : Bool
  junk : Nat
deriving DecidableEq, Repr

/-- The housekeeping operation that runs (R165 to R167). -/
inductive HkOp where
  | none
  | preerase (logical attempts : Nat)
  /-- a copy of a MAPPED block into a pool block: scrub refresh, or migration -/
  | copy (logical target : Nat) (migrate : Bool)
deriving DecidableEq, Repr

structure NvSt where
  /-- array bytes by physical address (block × 262,144 + offset); an unlisted byte is unprogrammed and reads 0 -/
  cells : Tab Byte
  poison : List Nat
  weak : List Nat
  /-- block map by logical block -/
  blocks : Tab Block
  journal : List JRec
  jseq : Nat
  jsector : Nat
  joffset : Nat
  /-- checkpoints in map half 0 and half 1: newest SEQ included and the map -/
  ckpt0 : Option (Nat × Tab Block)
  ckpt1 : Option (Nat × Tab Block)
  mapsSinceCkpt : Nat
  hk : HkOp
  /-- log sectors out of use (R170) -/
  badSectors : List Nat
  /-- selector rings whose erase has not completed: they read poison (08, Edges) -/
  ringTorn : BitVec 2
  /-- failures of fixed blocks still to report (R170) -/
  lost : Nat
deriving DecidableEq, Repr

/-- The selector records that a start writes (R89, R101): what stood in the array before them, each record with the
ring it goes into (`true`: ring 1), and the next journal SEQ after them. (log 54 DESIGN CHOICE) -/
structure StartWrites where
  nv : NvSt
  ring0 : List SelRec
  ring1 : List SelRec
  recs : List (Bool × SelRec)
  jseq : Nat
deriving DecidableEq, Repr

structure UpdSt where
  op : UpdOp
  /-- parts the last OPEN opened: bit 0 structure, bit 1 glyph -/
  parts : BitVec 2
  cloned : Bool
  /-- aperture byte offsets written since OPEN, as ranges [lo, hi) -/
  written : List (Nat × Nat)
  /-- the two selector rings, in record order; positions count up to 1,024 (R88) -/
  ring0 : List SelRec
  ring1 : List SelRec
  /-- the selector records that this start has written (R99); none once the start has ended -/
  starting : Option StartWrites
deriving DecidableEq, Repr

/-! ### Store, restore and power -/

/-- A delivered request that waits for its execution. -/
structure Delivered where
  port : HostPort
  type : BitVec 4
  req : ReqPacket
  /-- its port has left UP since (R331) -/
  again : Bool
  /-- its port was reset since: its completions are discarded (R332) -/
  gone : Bool
deriving DecidableEq, Repr

structure StoSt where
  gen : Nat
  area : Bool
  cause : Nat
  outcome : Nat
  ladder : Nat
  flags : Nat
  rtc : Nat
  vTrip : Nat
  /-- metering runs (R131; not after a supply return, R147) -/
  metered : Bool
  /-- a trip after the supply return: metering runs again from the next region on (R147) -/
  meterNext : Bool
  /-- region indices still to take, in store order -/
  todo : List Nat
  /-- region being stored -/
  cur : Option Nat
  /-- time at which it was started -/
  curStart : Nat
  /-- a region has reached the checks of R131 in this store (R143) -/
  checked : Bool
  entries : List HEntry
  /-- substitutions made: logical block of the target area and the pool slot that took it -/
  subst : List (Nat × Nat)
  /-- blocks of the target area written in this store -/
  taken : List Nat
  /-- newest energy estimates: time in 0.1 µs and E_avail in units of 1/32 fJ -/
  estimates : List (Nat × Nat)
  time : Nat
  /-- requests held until a line of the region being stored has been read (R136) -/
  heldWrites : List Delivered
  /-- NV read-window reads held (R122), and the requests of their ports delivered after them (R318) -/
  heldReads : List Delivered
  /-- the regions as the newest restore has resolved them: its order, which a new image does not change (R26) -/
  plan : List RegionRec
deriving DecidableEq, Repr

/-- The step an entry sequence stands at (Table 9-3). -/
inductive EntryStep where
  | drain | store | black | last
deriving DecidableEq, Repr

structure PwrSt where
  /-- votes by tenant: 0 to 6, 7 withdrawn -/
  votes : Tab Nat
  /-- entry that runs: target state and step -/
  entry : Option (Nat × EntryStep)
  /-- past the commit point of the entry -/
  committed : Bool
  /-- a wake source that waits for the entry: its code, and the raw tick in which it came -/
  lateWake : Option (Nat × Nat)
  /-- raw tick of the newest recorded wake (R246) -/
  wakeTick : Option Nat
  /-- state being left -/
  exiting : Option Nat
  /-- ports closed to new requests (Table 9-3) -/
  portsClosed : Bool
  /-- the target of a refused descent -/
  refused : Option Nat
  /-- the automatic entry into P2 is held (R187) -/
  dozeHeld : Bool
  /-- ports trained or up at entry: ILV0, ILV1, FRD0, FRD1 -/
  upAtEntry : BitVec 4
  /-- the area of the newest committed store, in the ladder state holder (R135) -/
  holdArea : Bool
  /-- the CAN activity detectors that the entry into P5 left enabled: CANCTL FLAGS bit 2 by controller (Table 9-2) -/
  canDetect : BitVec 2
deriving DecidableEq, Repr

/-! ### Sequencer, log and backup domain -/

inductive SeqStep where
  | idle | rise | delay | fall
deriving DecidableEq, Repr

structure SeqSt where
  /-- cause of the order that runs (Table 10-4, SEQ_DONE) -/
  cause : Nat
  step : SeqStep
  slot : Nat
  /-- slots of the running order still to take, after the running one -/
  todo : List Nat
  /-- slots handled by the running order -/
  done : BitVec 16
  timeouts : Nat
  /-- BLANKING was entered from UP with the order complete (R214) -/
  wasUp : Bool
  /-- cause of the held up trigger -/
  heldCause : Nat
  /-- OFF_MIN runs before the held or supply-return power-up order -/
  offWait : Bool
  dis : BitVec 8
  pg : BitVec 16
  supervised : BitVec 16
  /-- a power-up order has completed since the start (R382) -/
  everUp : Bool
  /-- the automatic up trigger of the start is still due (R220) -/
  autoDue : Bool
  /-- raw tick in which the adoption of R220 is judged after a warm reset -/
  adopt : Option Nat
  /-- the newest supply trip found the sequencer away from OFF, or in the OFF_MIN wait (R214) -/
  atTrip : Bool
deriving DecidableEq, Repr

inductive Verdict where
  | unchecked | good | torn
deriving DecidableEq, Repr

/-- A supervision-log record (Table 10-2) and the verdict of its check (R205). -/
structure LogRec where
  seq : Nat
  type : Nat
  seconds : Nat
  subsec : Nat
  ladder : Nat
  data : List Byte
  verdict : Verdict
deriving DecidableEq, Repr

structure LogSt where
  /-- oldest first, at most 256 -/
  recs : List LogRec
  next : Nat
  head : Nat
deriving DecidableEq, Repr

structure Snapshot where
  sec : Nat
  sub : Nat
  cdNow : Nat
deriving DecidableEq, Repr

/-- A requester context (11, Model). -/
structure Ctx where
  snap : Option Snapshot
  evtCtl : Word
  evtWin : List Byte
  evtShown : List Nat
  logCtl : Word
  logWin : List Byte
  /-- SEQ of the first record of the span and its length -/
  logSpan : Option (Nat × Nat)
deriving DecidableEq, Repr

/-- Reading or choice: log 121 DEDUCED -/
structure RtcSt where
  /-- 33-bit seconds -/
  sec : Nat
  /-- 15-bit subseconds -/
  sub : Nat
  /-- raw BK32 ticks since the backup POR -/
  raw : Nat
  /-- trim-window counter, 20 bits -/
  win : Nat
  winDue : Bool
  /-- N of the current window -/
  trimN : Int
  /-- raw ticks left of the running countdown -/
  cdLeft : Option Nat
  cdx : Bool
  /-- raw tick of the newest expiry (R245) -/
  cdAt : Option Nat
  /-- a time write not yet loaded: raw ticks at its write, seconds and subseconds -/
  pendTime : Option (Nat × Nat × Nat)
  /-- a shift not yet applied: raw ticks at its write, retard, and its amount -/
  pendShift : Option (Nat × Bool × Nat)
  /-- what is pending is a correction by a TIME of the flock (R447) -/
  flkTimed : Bool
  /-- countdown loads not yet in effect, oldest first: raw ticks at the write, and the count -/
  pendCd : List (Nat × Nat)
  stopped : Bool
  /-- raw ticks since the latest switch to VDD_ADC -/
  runRaw : Nat
  /-- the backup supply is below the POR threshold -/
  por : Bool
deriving DecidableEq, Repr

structure EvtEntry where
  id : Nat
  sec : Nat
  sub : Nat
  level : Bool
  noclk : Bool
  osf : Bool
  wake : Bool
  cdx : Bool
deriving DecidableEq, Repr

/-- Reading or choice: log 122 DESIGN CHOICE -/
structure EvtSt where
  queues : Tab (List EvtEntry)
  /-- debounced level of each pin, tracked also with EDGE 0 (R234) -/
  level : BitVec 4
  nextId : Nat
deriving DecidableEq, Repr

structure SbpSt where
  open_ : Bool
  mode3 : Bool
  /-- the snapshot of the transaction has been taken (R233) -/
  snapped : Bool
  stagedLo : Option Word
  /-- a core-space frame that waits -/
  wait : Option (List Byte)
  /-- response bytes of the newest frame, less WAIT bytes -/
  resp : List Byte
  /-- request bytes of the newest frame -/
  reqLen : Nat
  /-- the READ frame whose words are still to be launched, and the index of the next one (R255) -/
  burst : Option (List Byte × Nat)
  scratch : Word
deriving DecidableEq, Repr

/-! ### Links and transactions -/

structure PhySt where
  /-- sends training markers and records -/
  training : Bool
  /-- a write of PHY_CTRL.RETRAIN has started the training that runs -/
  retrain : Bool
  /-- transmitters in electrical idle -/
  elecIdle : Bool
  /-- valid records received from the peer -/
  recvValid : Nat
  recvSeen : Nat
  sentSeen : Nat
  /-- transmit scrambler registers by logical lane, bit i the line bit sent i + 1 bits ago; 58 ones at reset (R272) -/
  scr : Tab (BitVec 58)
  /-- codewords sent since the last marker -/
  codewords : Nat
  /-- line bits of the newest codeword and its marker, by physical lane -/
  line : List (List Bool)
  /-- marker periods without a hit since the last one with a hit (R276) -/
  misses : Nat
  /-- markers still to be sent before electrical idle (R284) -/
  idleMarks : Option Nat
  /-- fill of the receive elastic buffer at the newest null flit (R278) -/
  fill : ElasticFill
deriving DecidableEq, Repr

/-- A packet of the transaction layer on its way out: TYPE, VC, TENANT, payload, the tag it completes, whether it
carries LAST. -/
structure Packet where
  type : BitVec 4
  vc : Bool
  tenant : Tenant
  payload : List Byte
  tag : Option Nat
  last : Bool
deriving DecidableEq, Repr

/-- A sent packet in the replay buffer, with its SEQ. -/
structure Sent where
  seq : Nat
  pkt : Packet
deriving DecidableEq, Repr

structure LnkSt where
  replay : List Sent
  retx : List Nat
  held : List Flit
  naks : List Nat
  marked : List Nat
  ackDue : Bool
  ackTimer : Bool
  accSince : Nat
  /-- newest SEQ covered by an ACK_V sent -/
  ackedTo : Nat
  sentReq : Nat
  sentRsp : Nat
  relReq : Nat
  relRsp : Nat
  leakReq : Nat
  leakRsp : Nat
  rcntReq : Nat
  rcntRsp : Nat
  newReq : Nat
  newRsp : Nat
  sinceSnap : Nat
  peerInit : Bool
  peerDone : Bool
  initSent : Bool
  seqSent : Bool
  alive : Bool
  expiries : Nat
  /-- received flits since the window counting began, and the indices of the bad ones -/
  flits : Nat
  badCrc : List Nat
  badUnc : List Nat
  /-- packets waiting to be sent: Response and Request -/
  qRsp : List Packet
  qReq : List Packet
  /-- completions behind a completion that a held request still owes since before the link left UP (R331) -/
  qLate : List Packet
  /-- no good sequenced flit has arrived for one ack-timer period (R302) -/
  quiet : Bool
  /-- flit codewords sent since the newest null flit (R278) -/
  sinceNull : Nat
  /-- newest flit put on the link -/
  tx : Option Flit
deriving DecidableEq, Repr

/-- A held request or register access (R35, R55, R57, R180). (log 56 DEDUCED, 126 DEDUCED) -/
inductive Held where
  | packet (p : HostPort) (type : BitVec 4) (q : ReqPacket)
  | reg (t : Requester) (addr w : Word)
  /-- a read of RTC_SUBSEC, or of the last word of the requester's event window when `consume` -/
  | read (t : Requester) (consume : Bool)
  /-- the writes of a sideband core frame, from a core address on, whose transaction has ended (R264) -/
  | burst (addr : Word) (ws : List Word)
  /-- a write to the update aperture (R57) -/
  | aperture (t : Tenant) (addr : Word) (data : List Byte) (ok : Bool)
deriving DecidableEq, Repr

structure TxnSt where
  /-- HELD tags: tag and (port, tenant) -/
  tags : Tab (Nat × Nat)
  held : List Held
  armed : BitVec 16
  /-- summaries S_t at the last evaluation -/
  lastS : BitVec 16
  /-- tenants whose MSG waits for a port -/
  msgWait : List Nat
deriving DecidableEq, Repr

/-! ### Display, proof, CAN, measurement, flock, faults -/

structure ChanSt where
  /-- working set of the layer registers, by register offset -/
  work : Tab Word
  /-- shadow and working palettes, by layer × 1024 + entry: A, R, G, B of 10 bits each -/
  palShadow : Tab (BitVec 40)
  palWork : Tab (BitVec 40)
  /-- a full black frame has been sent since the last composed pixel -/
  blackSent : Bool
  /-- frame starts still to pass before the black frame of BLANKING or STOPPING is complete -/
  blackLeft : Nat
  /-- ACTIVE was cleared while a blank trigger ran (R353) -/
  stopAfter : Bool
  resume : Bool
  /-- result of the layer stages of the last line composed without substitution -/
  lastGood : Option (List Nat)
  /-- egress pixels of the current frame's composed lines, where TEST_CRC is needed (R385) -/
  egress : List (List Nat)
  /-- the current frame has a substituted line -/
  frameSubst : Bool
  /-- channel safe-display in effect -/
  safe : Bool
  /-- BKL_DELAY has elapsed since READY and RUN -/
  bklDelay : Bool
  bklSettle : Bool
  bklOn : Bool
  /-- panel-live has been reached since the channel entered RUN (R30) -/
  live : Bool
  /-- TEST_CRC kept for the last four frames: frame tag and 48-bit value -/
  testCrc : List (Nat × Nat)
  /-- sink CRC read accepted: frame tag and 48-bit value, for the frame that ended -/
  sinkCrc : Option (Nat × Nat)
  /-- PIXn clock faulted (R356) -/
  pixFault : Bool
  /-- a PIXn clock fault has stopped the timing, which resumes at the next frame start (R356) -/
  resync : Bool
  /-- the line that was being sent at a blank trigger still completes (R350) -/
  lineDue : Bool
deriving DecidableEq, Repr

/-- The step of an output's own AUX sequence (R362, R366, R367, R372). -/
inductive AuxStep where
  | none
  | caps
  /-- write `k` of the link configuration -/
  | config (k : Nat)
  /-- reads made so far at swing level `level` -/
  | crPattern (n level : Nat) | crWait (n level : Nat) | crRead (n level : Nat)
  | eqPattern (n : Nat) | eqWait (n : Nat) | eqRead (n : Nat)
  | patternOff
  | crcMisc | crcStart | crcRead
  | linkCheck
deriving DecidableEq, Repr

/-- An AUX transaction on the wire. -/
structure AuxOp where
  firmware : Bool
  write : Bool
  addr : Nat
  len : Nat
  /-- bytes of a write -/
  data : List Byte
  retries : Nat
  defers : Nat
  /-- waiting the 400 µs after an AUX_DEFER -/
  waiting : Bool
deriving DecidableEq, Repr

structure OutSt where
  step : AuxStep
  /-- a write of OUT_CTRL.RETRAIN has started the training that runs -/
  retrain : Bool
  aux : Option AuxOp
  /-- a firmware command that waits behind the device's own transactions -/
  fw : Option AuxOp
  caps : List Byte
  /-- TEST_CRC_COUNT of the last accepted read -/
  crcCount : Option Nat
  /-- device sequences to start when the wire is free, oldest first -/
  want : List AuxStep
  serFault : Bool
  /-- OUT_LANE and OUT_INV as they are in effect (R369) -/
  lane : Word
  inv : Word
deriving DecidableEq, Repr

/-- One frame of a photodiode (R387): F_k in units of 1/64 code, and whether a sample was at the rail or at code 1,023.
(log 173 DESIGN CHOICE) -/
structure PdFrame where
  f : Nat
  saturated : Bool
deriving DecidableEq, Repr

structure TtSt where
  /-- bulb-check runs -/
  bulb : Bool
  bulbDone : Bool
  /-- frames seen of the open E, S and O windows; `none`: no window open -/
  eWin : Option Nat
  eBad : Bool
  sWin : Option Nat
  sFail : Bool
  sUnread : Bool
  oWin : Option (List PdFrame)
  /-- frames of the O window before it, whose samples lag behind its last frame (R387); empty: none -/
  oTail : List PdFrame
  lWin : Bool
  lBad : Bool
  eInc : Nat
  sInc : Nat
  oInc : Nat
  lInc : Nat
  /-- the deadline of this ON episode has been reported -/
  dlDone : Bool
  /-- drawn in the current frame, with its variant -/
  drawn : Bool
deriving DecidableEq, Repr

structure ProofSt where
  /-- glyph store, words of it with a double-bit and with a single-bit error -/
  glyphs : Tab Byte
  glyphPoison : List Nat
  glyphWeak : List Nat
  t1Alive : Bool
  /-- presence frame: SEQ per controller, hold-off runs, a change waits -/
  presSeq : Tab Nat
  holdoff : Bool
  change : Bool
  /-- payload content (codes and FLAGS) last sent -/
  lastCodes : List Nat
  /-- sinks switched off after a fault, waiting for the retry -/
  ledRetry : BitVec 32
deriving DecidableEq, Repr

structure CanSt where
  /-- consecutive transmit attempts ended by an ACK error (R411) -/
  ackErrors : Nat
  /-- bus access suspended until the controller restarts (R415) -/
  suspended : Bool
  /-- the buffer that ABORT has met on the bus: it finishes its attempt (R408) -/
  onBus : Option Nat
  /-- it finishes the frame that is on the bus, and leaves the bus then (R415) -/
  leaving : Bool
deriving DecidableEq, Repr

structure AdcSt where
  /-- the 50 slots of the running round on ADC0 and on ADC1, each with the channel it converts; 41 for none (R421) -/
  slots0 : List Nat
  slots1 : List Nat
  /-- the first slot of the running round still to come, per converter -/
  pos0 : Nat
  pos1 : Nat
  /-- rounds begun since the block's reset -/
  round : Nat
  /-- consecutive readings at or above HIGH, by die sensor -/
  hotRun : Tab Nat
  /-- conversions stopped by a domain reset -/
  stopped : Bool
deriving DecidableEq, Repr

/-- What a peer has announced (Table 21-3). -/
structure Member where
  devid : Nat
  local_ : Nat
  osf : Bool
  descending : Bool
  fstate : Nat
  leader : Nat
  runtime : Nat
  maxRev : Nat
  codes : List Byte
  t1Req : List Byte
  t1Alive : Bool
  srcs : Tab Nat
deriving DecidableEq, Repr

/-- Reading or choice: log 192 DEDUCED -/
structure FlkSt where
  members : Tab Member
  /-- last MSEQ accepted per DEVID -/
  mseqs : List (Nat × Nat)
  mseq : Nat
  /-- DEVID asked in the pending swap -/
  pending : Option Nat
  /-- DEVIDs of disagreeing peers reported -/
  disagree : List Nat
  /-- content of the newest STATE and TT sent (R439, R443) -/
  lastState : List Nat
  lastTt : List Nat
  /-- joined a running flock whose leader has not announced itself yet (R444) -/
  adopting : Bool
deriving DecidableEq, Repr

structure FltSt where
  /-- per-source counts -/
  counts : Tab Nat
deriving DecidableEq, Repr

/-- The machine. -/
structure State where
  /-- every numbered register, by address; an unlisted register holds its reset value -/
  regs : Tab Word
  ctl : Ctl
  door : DoorSt
  otp : OtpSt
  upd : UpdSt
  /-- the applied image; none before R49 and in the unconfigured state -/
  cfg : Option Image
  mem : MemSt
  nv : NvSt
  sto : StoSt
  pwr : PwrSt
  seq : SeqSt
  log : LogSt
  ctxs : Tab Ctx
  rtc : RtcSt
  evt : EvtSt
  sbp : SbpSt
  phy : Tab PhySt
  lnk : Tab LnkSt
  txn : TxnSt
  chan : Tab ChanSt
  out : Tab OutSt
  tt : Tab TtSt
  proof : ProofSt
  can : Tab CanSt
  /-- CANMAP source states by record: 0 AWAITING, 1 FRESH_OFF, 2 FRESH_ON, 3 STALE -/
  srcs : Tab Nat
  adc : AdcSt
  /-- backlight settings in effect, by register address (R427) -/
  bkl : Tab Word
  flk : FlkSt
  flt : FltSt
  /-- completion status of the newest register access (Table 15-3); the model's own -/
  lastStatus : BitVec 4
  /-- how many free values have been drawn; the model's own -/
  freeCount : Nat
  /-- commands waiting, first in, first out; the model's own -/
  pending : List Instr
deriving DecidableEq, Repr

/-! ### Reset values -/

def OtpForce.reset : OtpForce :=
  { devid := 0, rank := 3, analog := [], turnover := 0, coeff := 0, offset := 0, keyHash := none,
    holdCap := 0, vholdMin := 0, vholdMax := 0, life := 2 }

def Ctl.reset : Ctl :=
  { phase := .reset, path := .cold, porHigh := false, railsOk := false, pmicOn := true, banks := 3, monitorsArmed := false,
    lossFlow := false, lossOver := false, supplyBack := false, warmDeferred := 0, warmAfterExit := 0, halted := false,
    tapRule := .locked, tapReset := true, recheck := 0, gated := 0, clockReset := false, smo := 0,
    monitorResets := [] }

def DoorSt.reset : DoorSt := { counting := false, ticks := 0, lines := 0, channels := 0 }

/-- The array as Tarnal delivers it (04, Lifecycle): IDENT slot 0, TRIM slot 0, and LIFE slot 0 with FACTORY and
DEBUG_LOCK 0. The spec gives neither the DEVID nor the trims of a device: their payloads are 0.
(log 49 DESIGN CHOICE) -/
def OtpSt.delivered : Tab Byte :=
  [(0x10, 0xEA), (0x11, 0x9A), (0x12, 0x70), (0x13, 0x42), (0x14, 0x3C), (0x15, 0x5A), (0x16, 0xA5), (0x17, 0xC3),
   (0xF8, 0xE3), (0xF9, 0xF1), (0xFA, 0x9A), (0xFB, 0xF6), (0xFC, 0x3C), (0xFD, 0x5A), (0xFE, 0xA5), (0xFF, 0xC3),
   (0x360, 0x01), (0x364, 0x7F), (0x365, 0xE1), (0x366, 0x22), (0x367, 0x95), (0x368, 0x3C), (0x369, 0x5A), (0x36A, 0xA5),
   (0x36B, 0xC3)]

/-- Reading or choice: log 49 DESIGN CHOICE -/
def OtpSt.reset : OtpSt := { array := OtpSt.delivered, force := OtpForce.reset, prog := none }

def UpdSt.reset : UpdSt :=
  { op := .none, parts := 0, cloned := false, written := [], ring0 := [], ring1 := [], starting := none }

/-- The whole of working memory to-zero (R125). -/
def MemSt.reset : MemSt :=
  { wm := [], poison := [], weak := [], fill := [{ lo := 0, hi := 0x100000, kind := .toZero }], newStore := none }

/-- Reading or choice: log 80 DESIGN CHOICE -/
def NvSt.reset : NvSt :=
  { cells := [], poison := [], weak := [], blocks := [], journal := [], jseq := 0, jsector := 0, joffset := 0,
    ckpt0 := none, ckpt1 := none, mapsSinceCkpt := 0, hk := .none, badSectors := [],
    ringTorn := 0, lost := 0 }

def StoSt.reset : StoSt :=
  { gen := 0, area := false, cause := 0, outcome := 0, ladder := 0, flags := 0, rtc := 0, vTrip := 0,
    metered := false, meterNext := false, todo := [], cur := none, curStart := 0, checked := false,
    entries := [], subst := [], taken := [], estimates := [], time := 0, heldWrites := [], heldReads := [], plan := [] }

def PwrSt.reset : PwrSt :=
  { votes := [], entry := none, committed := false, lateWake := none, wakeTick := none, exiting := none,
    portsClosed := false, refused := none, dozeHeld := false, upAtEntry := 0, holdArea := false, canDetect := 0 }

def SeqSt.reset : SeqSt :=
  { cause := 0, step := .idle, slot := 0, todo := [], done := 0, timeouts := 0, wasUp := false, heldCause := 0,
    offWait := false, dis := 0, pg := 0, supervised := 0, everUp := false, autoDue := false,
    adopt := none, atTrip := false }

def LogSt.reset : LogSt := { recs := [], next := 0, head := 0 }

def Ctx.reset : Ctx :=
  { snap := none, evtCtl := 0, evtWin := [], evtShown := [], logCtl := 0, logWin := [], logSpan := none }

def RtcSt.reset : RtcSt :=
  { sec := 0, sub := 0, raw := 0, win := 0, winDue := true, trimN := 0, cdLeft := none, cdx := false, cdAt := none,
    pendTime := none, pendShift := none, flkTimed := false, pendCd := [], stopped := false, runRaw := 0, por := false }

def EvtSt.reset : EvtSt := { queues := [], level := 0, nextId := 0 }

def SbpSt.reset : SbpSt :=
  { open_ := false, mode3 := false, snapped := false, stagedLo := none, wait := none, resp := [], reqLen := 0, burst := none,
    scratch := 0 }

def PhySt.reset : PhySt :=
  { training := false, retrain := false, elecIdle := true, recvValid := 0, recvSeen := 0, sentSeen := 0, scr := [], codewords := 0,
    line := [], misses := 0, idleMarks := none, fill := .between }

def LnkSt.reset : LnkSt :=
  { replay := [], retx := [], held := [], naks := [], marked := [], ackDue := false, ackTimer := false,
    accSince := 0, ackedTo := 1023, sentReq := 0, sentRsp := 0, relReq := 0, relRsp := 0, leakReq := 0,
    leakRsp := 0, rcntReq := 0, rcntRsp := 0, newReq := 0, newRsp := 0, sinceSnap := 0, peerInit := false,
    peerDone := false, initSent := false, seqSent := false, alive := false, expiries := 0, flits := 0, badCrc := [],
    badUnc := [], qRsp := [], qReq := [], qLate := [], quiet := true, sinceNull := 0, tx := none }

def TxnSt.reset : TxnSt :=
  { tags := [], held := [], armed := 0xFFFF, lastS := 0, msgWait := [] }

def ChanSt.reset : ChanSt :=
  { work := [], palShadow := [], palWork := [], blackSent := true, blackLeft := 0, stopAfter := false,
    resume := false, lastGood := none, egress := [], frameSubst := false, safe := false, bklDelay := false,
    bklSettle := false, bklOn := false, live := false, testCrc := [], sinkCrc := none, pixFault := false,
    resync := false, lineDue := false }

def OutSt.reset : OutSt :=
  { step := .none, retrain := false, aux := none, fw := none, caps := [], crcCount := none, want := [], serFault := false,
    lane := 0xE4, inv := 0 }

def TtSt.reset : TtSt :=
  { bulb := false, bulbDone := false, eWin := none, eBad := false, sWin := none, sFail := false, sUnread := false,
    oWin := none, oTail := [], lWin := false, lBad := false, eInc := 0, sInc := 0, oInc := 0, lInc := 0, dlDone := false,
    drawn := false }

def ProofSt.reset : ProofSt :=
  { glyphs := [], glyphPoison := [], glyphWeak := [], t1Alive := false, presSeq := [], holdoff := false, change := false,
    lastCodes := [], ledRetry := 0 }

def CanSt.reset : CanSt := { ackErrors := 0, suspended := false, onBus := none, leaving := false }

/-- The round that runs from the release of reset: the two rotation slots alone (R437). -/
def AdcSt.reset : AdcSt :=
  { slots0 := List.replicate 49 41 ++ [40], slots1 := List.replicate 49 41 ++ [32], pos0 := 0, pos1 := 0, round := 0,
    hotRun := [], stopped := false }

def FlkSt.reset : FlkSt :=
  { members := [], mseqs := [], mseq := 0, pending := none, disagree := [], lastState := [], lastTt := [],
    adopting := false }

/-- The machine right after reset: the backup domain has come out of its POR (R24), POR_N is still low, every
register holds the reset value of its field table. The first thing that happens is POR_N_RELEASE.
(log 2 DESIGN CHOICE, 16 DESIGN CHOICE) -/
def State.reset : State :=
  { regs := [], ctl := Ctl.reset, door := DoorSt.reset, otp := OtpSt.reset, upd := UpdSt.reset, cfg := none,
    mem := MemSt.reset, nv := NvSt.reset, sto := StoSt.reset, pwr := PwrSt.reset, seq := SeqSt.reset,
    log := LogSt.reset, ctxs := [], rtc := RtcSt.reset, evt := EvtSt.reset, sbp := SbpSt.reset, phy := [], lnk := [],
    txn := TxnSt.reset, chan := [], out := [], tt := [], proof := ProofSt.reset, can := [], srcs := [],
    adc := AdcSt.reset, bkl := [], flk := FlkSt.reset, flt := { counts := [] }, lastStatus := 0, freeCount := 0, pending := [] }

end Sys2Proof.Machine
end

