-- ==== Sys2Proof/Machine/Balls.lean ====
section
/-! DEFINITION. The ball names and the function of each ball (25, R506, R507, Tables 25-3 to 25-7), which are constants of
the device, and the IO banks of the pins (24, Table 24-1, R491). -/

namespace Sys2Proof.Machine

/-- A signal of the device; `neg` is the N pin of a pair. -/
inductive Pin where
  | outD (n k : Nat) (neg : Bool) | outAux (n : Nat) (neg : Bool) | outHpd (n : Nat)
  | ilvTx (p k : Nat) (neg : Bool) | ilvRx (p k : Nat) (neg : Bool)
  | frdTx (p k : Nat) (neg : Bool) | frdRx (p k : Nat) (neg : Bool)
  | led (n : Nat) | ain (n : Nat) | pd (n : Nat) | vinSns | vholdSns
  | xin25 | xout25 | xin32 | xout32 | sbpCsN | sbpSclk | sbpSdi | sbpSdo | evt (n : Nat) | pmicOn
  | canTx (n : Nat) | canRx (n : Nat) | intN (n : Nat) | bkl (n : Nat) | tck | tms | tdi | tdo | trstN | porN | rstN
  | seqEn (n : Nat) | seqPg (n : Nat) | dis (n : Nat)
deriving DecidableEq, Repr

/-- What a ball carries. -/
inductive Ball where
  | signal (p : Pin)
  | vss | vddCore | vddMem | vddaPhy | vddPhy | vddNv | vppNv | vddAdc | vddio1 | vddio2 | vddioBk | vbk
deriving DecidableEq, Repr

/-- The row letters in the order of their row index, 1 to 42 (Table 0-1, 25 Model). -/
def rowNames : List String :=
  ["A", "B", "C", "D", "E", "F", "G", "H", "J", "K", "L", "M", "N", "P", "T", "U", "V", "W", "Y"] ++
    ["AA", "AB", "AC", "AD", "AE", "AF", "AG", "AH", "AJ", "AK", "AL", "AM", "AN", "AP", "AT", "AU", "AV", "AW", "AY"] ++
    ["BA", "BB", "BC", "BD"]

/-- The row index of a row letter, or 0 for a letter that names no row (R506). -/
def rowIndex (row : String) : Nat := if row ∈ rowNames then rowNames.idxOf row + 1 else 0

/-- Depth of the ball at row index `i`, column `j`. -/
def ballDepth (i j : Nat) : Nat := min (min (i - 1) (42 - i)) (min (j - 1) (42 - j))

/-- Power zone, depths 5 to 16 (R507); VPP_NV stands in row K. -/
def powerBall (i j : Nat) : Ball :=
  let d := ballDepth i j
  if (i + j) % 2 = 0 then .vss
  else if d = 5 then .vddPhy
  else if d = 6 then .vddaPhy
  else if d ≤ 8 then .vddMem
  else if d = 9 then (if i = 10 then .vppNv else .vddNv)
  else .vddCore

/-- Panel bands (Table 25-4): `e` counts the rows from the edge inwards, 0 for A and BD; `o` is the offset from the base
column of output `n`. -/
def panelBall (n e o : Nat) : Ball :=
  if o % 2 = 1 ∨ e = 2 then .vss
  else if e ≤ 1 then .signal (.outD n (o / 2) (e = 1))
  else if o < 8 then .signal (.outD n (o / 2 + 8) (e = 4))
  else if o = 8 then .signal (.outAux n (e = 4))
  else if o = 10 ∧ e = 3 then .signal (.outHpd n)
  else .vddaPhy

/-- Left band (Table 25-5): `m` counts the even rows from F on. -/
def leftBall (m j : Nat) : Ball :=
  let p := m / 8
  let r := m % 8
  if j = 3 then .vss
  else if j ≤ 2 then .signal (if r < 4 then .ilvTx p r (j = 2) else .ilvRx p (r - 4) (j = 2))
  else if r < 2 then .signal (.frdTx p r (j = 5))
  else if r < 4 then .signal (.frdRx p (r - 2) (j = 5))
  else if r < 6 then .vddaPhy
  else .vddPhy

/-- Right band (Table 25-6). -/
def rightBall (i j : Nat) : Ball :=
  if j = 42 then .signal (.led (i - 6))
  else if j = 40 then .signal (.ain (i - 6))
  else if j ≠ 38 ∨ i % 2 = 1 then .vss
  else if i < 22 then .signal (.pd ((i - 6) / 2))
  else if i = 22 then .signal .vinSns
  else if i = 24 then .signal .vholdSns
  else .vddAdc

/-- The corners (Table 25-7), by row from A or AY on, in ascending columns. -/
def cornerTL : List (List Ball) :=
  [[.vss, .signal .xin25, .signal .xout25, .vss, .vbk],
   [.signal .xin32, .vss, .vss, .vbk, .vddioBk],
   [.signal .xout32, .vss, .signal .sbpCsN, .signal .sbpSclk, .vss],
   [.signal (.evt 0), .signal (.evt 1), .signal .sbpSdi, .signal .sbpSdo, .vss],
   [.signal (.evt 2), .signal (.evt 3), .signal .pmicOn, .vss, .vss]]

def cornerTR : List (List Ball) :=
  [[.signal (.canTx 0), .signal (.canRx 0), .vss, .signal (.canTx 1), .signal (.canRx 1)],
   [.signal (.intN 0), .signal (.intN 1), .signal (.intN 2), .signal (.intN 3), .vddio1],
   [.signal (.bkl 0), .signal (.bkl 1), .signal (.bkl 2), .signal (.bkl 3), .vddio1],
   [.signal .tck, .signal .tms, .signal .tdi, .signal .tdo, .vss],
   [.signal .trstN, .signal .porN, .signal .rstN, .vddio2, .vss]]

def cornerBL (r k : Nat) : Ball :=
  if k = 4 then (if r = 0 ∨ r = 2 then .vddio2 else .vss)
  else .signal (if r < 4 then .seqEn (4 * r + k) else .dis k)

def cornerBR (r k : Nat) : Ball :=
  if k = 0 then (if r = 0 ∨ r = 2 then .vddio2 else .vss)
  else .signal (if r < 4 then .seqPg (4 * r + k - 1) else .dis (3 + k))

/-- The function of the ball at row index `i` and column `j`; none where there is no ball (R506, R507).
(log 206 DESIGN CHOICE) -/
def ballAt (i j : Nat) : Option Ball :=
  if i = 0 ∨ 42 < i ∨ j = 0 ∨ 42 < j then none
  else
    let d := ballDepth i j
    if 17 ≤ d then none
    else if 5 ≤ d then some (powerBall i j)
    else if i ≤ 5 then
      some (if j ≤ 5 then (cornerTL.getD (i - 1) []).getD (j - 1) .vss
        else if 38 ≤ j then (cornerTR.getD (i - 1) []).getD (j - 38) .vss
        else panelBall ((j - 6) / 16) (i - 1) ((j - 6) % 16))
    else if 38 ≤ i then
      some (if j ≤ 5 then cornerBL (i - 38) (j - 1)
        else if 38 ≤ j then cornerBR (i - 38) (j - 38)
        else panelBall (2 + (j - 6) / 16) (42 - i) ((j - 6) % 16))
    else if j ≤ 5 then some (if i % 2 = 1 then .vss else leftBall ((i - 6) / 2) j)
    else some (rightBall i j)

/-- The function of the ball that a row letter and a column name (R506). (log 206 DESIGN CHOICE) -/
def ball (row : String) (col : Nat) : Option Ball := ballAt (rowIndex row) col

/-! ### IO banks (Table 24-1, R491) -/

/-- The bank of a pin, of those that can be unpowered: 0 VDDIO1, 1 VDDIO2. -/
def bankOf : Pin → Option Nat
  | .canTx _ | .canRx _ | .intN _ | .bkl _ => some 0
  | .seqEn _ | .seqPg _ | .dis _ | .porN | .rstN | .outHpd _ | .tck | .tms | .tdi | .tdo | .trstN => some 1
  | _ => none

/-- The bank of pin `p` is powered: its supply comes from the PMIC while PMIC_ON is high. (log 28 DESIGN CHOICE) -/
def State.powered (s : State) (p : Pin) : Bool :=
  match bankOf p with
  | none => true
  | some b => s.ctl.pmicOn && s.ctl.banks.getLsbD b

/-- What the core reads of an input whose level is `level`: 0 while its bank is unpowered. (log 28 DESIGN CHOICE) -/
def State.pinIn (s : State) (p : Pin) (level : Bool) : Bool := level && s.powered p

/-- What an output drives whose level is `level`: nothing while its bank is unpowered. (log 28 DESIGN CHOICE) -/
def State.pinOut (s : State) (p : Pin) (level : Bool) : Option Bool := if s.powered p then some level else none

end Sys2Proof.Machine
end

