-- ==== Sys2Proof/Config.lean ====
section
/-! DEFINITION. What an implementation fixes and the values the spec leaves open: constants without a body, so that no
proof can see a value of them. -/

namespace Sys2Proof

/-- Filter time of POR_N and RST_N in ns; the part's own value lies between 50 and 200 (Table 1-5). (log 15 DEDUCED) -/
opaque Config.resetFilter : Nat

/-- A free value, by the number of free values drawn before it. (log 1 DESIGN CHOICE) -/
opaque Config.freeValue : Nat → Nat

/-- A frame's TEST_CRC over the egress pixels, as VESA eDP 1.4b defines it: R, G and B of 16 bits each in 48 bits. The
spec names the standard and gives no polynomial. (log 170 DESIGN CHOICE) -/
opaque Config.testCrc : List (List Nat) → Nat

/-- The conversion of a temperature sensor's ADC code to 0.25 °C units (R424), by sensor, code and the ANALOG trims:
the trims are "Tarnal analogue trims" whose use the spec does not give. (log 48 DESIGN CHOICE, 186 DESIGN CHOICE) -/
opaque Config.temperature : Nat → Nat → List Byte → Int

/-- The STATE byte of a checkpoint entry (R162) by the block's state: the spec names the states and gives no codes.
(log 81 DESIGN CHOICE) -/
opaque Config.blockStateCode : Nat → Nat

/-- Whether the verify pass of an erase that no command carries fails (R158, R169, R170), by the block, its sectors and
its erase cycles so far: the spec gives no rate. (log 88 DESIGN CHOICE) -/
opaque Config.eraseFails : Nat → Nat → Nat → Bool

end Sys2Proof
end

