-- ==== Sys2Proof/Machine/Table.lean ====
section
/-! DEFINITION. Sparse tables in canonical form (keys strictly rising, no entry equal to what its key reads as when
unlisted), the operations over them, and the byte-order and bit-field helpers every other file uses (R1). -/

namespace Sys2Proof.Machine

variable {α : Type}

/-- What key `k` holds; `d` where the table lists nothing. -/
def tget (d : α) : Tab α → Nat → α
  | [], _ => d
  | (j, v) :: t, k => if j = k then v else tget d t k

/-- The entry of key `k`, if listed. -/
def tfind : Tab α → Nat → Option α
  | [], _ => none
  | (j, v) :: t, k => if j = k then some v else tfind t k

/-- The table without key `k`. -/
def tdel : Tab α → Nat → Tab α
  | [], _ => []
  | (j, w) :: t, k => if j = k then tdel t k else (j, w) :: tdel t k

/-- The table with `v` listed at key `k`, keys rising. -/
def tput : Tab α → Nat → α → Tab α
  | [], k, v => [(k, v)]
  | (j, w) :: t, k, v =>
    if k < j then (k, v) :: (j, w) :: t
    else if j = k then (k, v) :: t
    else (j, w) :: tput t k v

/-- The table in which key `k` reads `v`: an entry equal to the default `d` is not listed. -/
def tset [DecidableEq α] (d : α) (t : Tab α) (k : Nat) (v : α) : Tab α :=
  if v = d then tdel t k else tput t k v

/-- Change what key `k` holds. -/
def tmod [DecidableEq α] (d : α) (t : Tab α) (k : Nat) (f : α → α) : Tab α := tset d t k (f (tget d t k))

/-- The entries whose key lies in [lo, hi). -/
def tslice (t : Tab α) (lo hi : Nat) : Tab α := t.filter fun e => lo ≤ e.1 && e.1 < hi

/-- The table with nothing listed in [lo, hi). -/
def tcut (t : Tab α) (lo hi : Nat) : Tab α := t.filter fun e => e.1 < lo || hi ≤ e.1

/-- The table whose entries in [dst, dst + n) are those of `src` in [off, off + n), moved. -/
def tcopy (t : Tab α) (dst : Nat) (src : Tab α) (off n : Nat) : Tab α :=
  t.filter (fun e => e.1 < dst) ++ (tslice src off (off + n)).map (fun e => (e.1 - off + dst, e.2)) ++
    t.filter (fun e => dst + n ≤ e.1)

/-- Store a list of values at `k` and the keys after it. -/
def tsetAll [DecidableEq α] (d : α) (t : Tab α) (k : Nat) : List α → Tab α
  | [] => t
  | v :: vs => tsetAll d (tset d t k v) (k + 1) vs

/-- The values at `k` and the keys after it. -/
def tgetAll (d : α) (t : Tab α) (k : Nat) (n : Nat) : List α := (List.range n).map fun i => tget d t (k + i)

/-- The canonical form: keys strictly rising, no entry equal to the default of its key. -/
abbrev Canon [DecidableEq α] (d : Nat → α) (t : Tab α) : Prop :=
  (t.map Prod.fst).Pairwise (· < ·) ∧ ∀ e ∈ t, e.2 ≠ d e.1

/-- Insert by key before the first element with a larger key. -/
def insertBy (key : α → Nat) (x : α) : List α → List α
  | [] => [x]
  | y :: ys => if key x < key y then x :: y :: ys else y :: insertBy key x ys

/-- The list in rising order of key; equal keys keep their order. -/
def sortBy (key : α → Nat) (l : List α) : List α := l.foldl (fun acc x => insertBy key x acc) []

/-! ### Bytes and bits -/

/-- The `n` low bytes of `v`, least significant first (R1). -/
def leBytes : Nat → Nat → List Byte
  | 0, _ => []
  | n + 1, v => BitVec.ofNat 8 v :: leBytes n (v / 256)

/-- The value of bytes stored least significant first (R1). -/
def ofLe : List Byte → Nat
  | [] => 0
  | b :: bs => b.toNat + 256 * ofLe bs

/-- Bits [lsb + width - 1 : lsb] of a number. -/
def bits (v lsb width : Nat) : Nat := v / 2 ^ lsb % 2 ^ width

/-- Bit `i` of a number. -/
def bit (v i : Nat) : Bool := v / 2 ^ i % 2 = 1

/-- The number whose bits [lsb + width - 1 : lsb] are `x`, the others those of `v`. -/
def putBits (v lsb width x : Nat) : Nat :=
  v - v / 2 ^ lsb % 2 ^ width * 2 ^ lsb + x % 2 ^ width * 2 ^ lsb

/-- The `n` bits of `v`, lowest first. -/
def bitList (n v : Nat) : List Bool := (List.range n).map (bit v)

/-- The value of a list of bits, lowest first. -/
def ofBits : List Bool → Nat
  | [] => 0
  | b :: bs => (if b then 1 else 0) + 2 * ofBits bs

/-- A flag as a number. -/
def b2n (b : Bool) : Nat := if b then 1 else 0

/-- The two's-complement number of `w` bits that `v` spells. -/
def toSigned (w v : Nat) : Int := if 2 * (v % 2 ^ w) < 2 ^ w then (v % 2 ^ w : Nat) else (v % 2 ^ w : Nat) - (2 ^ w : Nat)

/-- A signed number as `w` bits of two's complement. -/
def ofSigned (w : Nat) (i : Int) : Nat := (i % (2 ^ w : Nat)).toNat

/-- Addition that saturates at the largest value of `w` bits. -/
def satAdd (w a b : Nat) : Nat := min (a + b) (2 ^ w - 1)

/-- A signed number held inside [lo, hi]. -/
def clampInt (lo hi i : Int) : Int := max lo (min hi i)

/-- The list with element `i` replaced. -/
def lput (l : List α) (i : Nat) (v : α) : List α := l.set i v

/-- Nearest integer, halves away from zero, of a / b with b > 0. -/
def divRound (a b : Nat) : Nat := (a + b / 2) / b

/-- The positions below `n` whose bit is set. -/
def bitsSet (n v : Nat) : List Nat := (List.range n).filter (bit v)

/-- The number whose set bits are the listed positions. -/
def ofPositions (l : List Nat) : Nat := l.eraseDups.foldl (fun a i => a + 2 ^ i) 0

end Sys2Proof.Machine
end

