-- ==== Sys2Proof/Machine/Regs.lean ====
section
/-! DEFINITION. The register map (23, Tables 23-1 and 23-2, and the field tables of every chapter): which fields the
register at an address has, with their access codes (Table 0-2) and reset values, and the operations that read and
write a register or one field of it. -/

namespace Sys2Proof.Machine

/-- The access codes of Table 0-2. -/
inductive Acc where
  | ro | rw | w1c | w1s | sc | wo | rb
deriving DecidableEq, Repr

/-- A register field: its lowest bit, its width, its access code and its reset value. -/
structure Field where
  lsb : Nat
  width : Nat
  acc : Acc
  reset : Nat
deriving DecidableEq, Repr

/-- SYS block (01, 02). -/
def sysFields : Nat → List Field
  | 0x00 => [⟨16, 16, .ro, 0x4816⟩, ⟨8, 8, .ro, 0xB0⟩]
  | 0x04 => [⟨0, 32, .ro, 0⟩]
  | 0x08 => [⟨0, 32, .ro, 0⟩]
  | 0x10 => [⟨0, 1, .w1c, 1⟩, ⟨1, 1, .w1c, 0⟩, ⟨2, 1, .w1c, 0⟩, ⟨3, 1, .w1c, 0⟩, ⟨4, 1, .w1c, 0⟩, ⟨5, 1, .w1c, 0⟩,
      ⟨6, 1, .w1c, 0⟩]
  | 0x14 => [⟨0, 1, .sc, 0⟩, ⟨1, 1, .sc, 0⟩, ⟨2, 1, .sc, 0⟩, ⟨3, 1, .sc, 0⟩, ⟨4, 1, .sc, 0⟩, ⟨5, 1, .sc, 0⟩,
      ⟨6, 1, .sc, 0⟩, ⟨7, 1, .sc, 0⟩, ⟨8, 1, .sc, 0⟩]
  | 0x20 => [⟨0, 12, .ro, 0⟩, ⟨14, 6, .ro, 0⟩, ⟨22, 2, .ro, 0⟩]
  | 0x24 => [⟨0, 12, .w1c, 0⟩, ⟨14, 6, .w1c, 0⟩, ⟨22, 2, .w1c, 0⟩]
  | 0x30 => [⟨0, 1, .ro, 0⟩, ⟨1, 1, .w1c, 0⟩, ⟨2, 1, .w1c, 0⟩, ⟨3, 1, .w1c, 0⟩, ⟨4, 4, .ro, 0⟩]
  | o => if 0x34 ≤ o ∧ o ≤ 0x50 then [⟨0, 24, .ro, 0⟩] else []

/-- OTP block (04). -/
def otpFields : Nat → List Field
  | 0x00 => [⟨0, 3, .ro, 7⟩, ⟨3, 3, .ro, 7⟩, ⟨6, 3, .ro, 7⟩, ⟨9, 3, .ro, 7⟩, ⟨12, 3, .ro, 7⟩, ⟨15, 1, .ro, 0⟩,
      ⟨16, 2, .ro, 2⟩, ⟨18, 1, .ro, 1⟩, ⟨19, 1, .w1c, 0⟩, ⟨20, 1, .ro, 0⟩]
  | 0x04 => [⟨0, 20, .ro, 0⟩]
  | 0x08 => [⟨0, 3, .rw, 0⟩, ⟨8, 1, .sc, 0⟩, ⟨16, 16, .wo, 0⟩]
  | 0x0C => [⟨0, 1, .ro, 0⟩, ⟨8, 8, .ro, 0⟩, ⟨16, 3, .ro, 0⟩]
  | o => if 0x40 ≤ o ∧ o ≤ 0xBC ∨ 0x100 ≤ o ∧ o ≤ 0x17C then [⟨0, 32, .rw, 0⟩]
      else if 0x1000 ≤ o ∧ o ≤ 0x1FFF then [⟨0, 32, .ro, 0⟩] else []

/-- STR block (03). -/
def strFields : Nat → List Field
  | 0x00 => [⟨0, 2, .ro, 1⟩, ⟨2, 1, .ro, 0⟩, ⟨3, 1, .ro, 0⟩, ⟨4, 1, .w1c, 0⟩, ⟨5, 1, .w1c, 0⟩]
  | 0x04 => [⟨0, 8, .ro, 0⟩, ⟨8, 5, .ro, 0⟩, ⟨13, 1, .ro, 0⟩, ⟨16, 16, .ro, 0⟩]
  | 0x34 => [⟨0, 4, .ro, 0⟩, ⟨4, 4, .ro, 0⟩, ⟨8, 8, .ro, 0⟩, ⟨16, 16, .ro, 0⟩]
  | 0x40 => [⟨0, 32, .rw, 0⟩]
  | 0x44 => [⟨0, 5, .rw, 0⟩]
  | 0x48 => [⟨0, 1, .ro, 0⟩, ⟨3, 5, .ro, 0⟩, ⟨8, 6, .ro, 0⟩, ⟨16, 16, .ro, 0⟩]
  | o => if 0x08 ≤ o ∧ o ≤ 0x30 ∨ o = 0x4C ∨ o = 0x50 then [⟨0, 32, .ro, 0⟩] else []

/-- UPD block (05). -/
def updFields : Nat → List Field
  | 0x00 => [⟨0, 1, .sc, 0⟩, ⟨1, 1, .sc, 0⟩, ⟨2, 1, .sc, 0⟩, ⟨3, 1, .sc, 0⟩, ⟨4, 1, .sc, 0⟩, ⟨8, 2, .rw, 3⟩,
      ⟨10, 1, .rw, 0⟩, ⟨16, 4, .rw, 3⟩, ⟨24, 8, .wo, 0⟩]
  | 0x04 => [⟨0, 3, .ro, 0⟩, ⟨8, 8, .ro, 0⟩, ⟨16, 1, .ro, 0⟩, ⟨17, 2, .ro, 0⟩, ⟨20, 4, .ro, 0⟩, ⟨24, 1, .w1c, 0⟩,
      ⟨25, 1, .w1c, 0⟩]
  | 0x08 => [⟨0, 8, .ro, 0⟩, ⟨8, 5, .ro, 0⟩, ⟨13, 1, .ro, 0⟩, ⟨16, 16, .ro, 0⟩]
  | 0x0C => [⟨0, 32, .ro, 0⟩]
  | 0x10 => [⟨0, 32, .ro, 0⟩]
  | 0x14 => [⟨0, 22, .ro, 0⟩]
  | _ => []

/-- MEM block (06). -/
def memFields : Nat → List Field
  | 0x00 => [⟨0, 2, .ro, 0⟩, ⟨2, 1, .ro, 0⟩, ⟨8, 9, .ro, 0⟩]
  | 0x04 => [⟨0, 1, .sc, 0⟩]
  | 0x08 => [⟨0, 16, .ro, 0⟩, ⟨16, 16, .ro, 0⟩]
  | 0x0C => [⟨0, 32, .ro, 0⟩]
  | 0x10 => [⟨0, 32, .ro, 0⟩]
  | 0x14 => [⟨0, 4, .ro, 0⟩, ⟨4, 3, .ro, 0⟩]
  | o => if 0x18 ≤ o ∧ o ≤ 0x20 then [⟨0, 11, .ro, 0⟩]
      else if 0x40 ≤ o ∧ o ≤ 0x7C then [⟨0, 32, .w1c, 0⟩] else []

/-- STO block (07). -/
def stoFields : Nat → List Field
  | 0x00 => [⟨0, 1, .sc, 0⟩]
  | 0x04 => [⟨0, 3, .ro, 0⟩, ⟨3, 1, .ro, 0⟩, ⟨4, 4, .ro, 0⟩, ⟨8, 1, .ro, 0⟩, ⟨9, 1, .w1c, 0⟩, ⟨10, 1, .w1c, 0⟩,
      ⟨11, 1, .w1c, 0⟩, ⟨12, 1, .w1c, 0⟩, ⟨13, 1, .w1c, 0⟩, ⟨14, 1, .w1c, 0⟩]
  | 0x08 => [⟨0, 10, .rb, 0x230⟩, ⟨16, 10, .rb, 0x20⟩, ⟨31, 1, .ro, 0⟩]
  | 0x0C => [⟨0, 16, .rb, 0xBB8⟩, ⟨16, 8, .rb, 0x50⟩]
  | 0x10 => [⟨0, 16, .rb, 0⟩]
  | 0x14 => [⟨0, 32, .ro, 0⟩]
  | 0x18 => [⟨0, 16, .ro, 0⟩, ⟨16, 16, .ro, 0⟩]
  | 0x1C => [⟨0, 10, .ro, 0⟩, ⟨16, 10, .ro, 0⟩]
  | 0x20 => [⟨0, 24, .ro, 0⟩]
  | 0x24 => [⟨0, 32, .ro, 0⟩]
  | 0x28 => [⟨0, 8, .ro, 0⟩, ⟨8, 8, .ro, 0⟩, ⟨16, 9, .ro, 0⟩]
  | 0x2C => [⟨0, 32, .ro, 0⟩]
  | 0x30 => [⟨0, 11, .ro, 0⟩]
  | 0x34 => [⟨0, 11, .ro, 0⟩]
  | 0x38 => [⟨0, 32, .ro, 0⟩]
  | _ => []

/-- NVH block (08). -/
def nvhFields : Nat → List Field
  | 0x00 => [⟨0, 2, .ro, 0⟩, ⟨2, 1, .ro, 0⟩, ⟨3, 1, .ro, 0⟩, ⟨4, 1, .w1c, 0⟩, ⟨5, 1, .ro, 0⟩]
  | 0x04 => [⟨0, 8, .ro, 0⟩, ⟨8, 8, .ro, 0⟩, ⟨16, 8, .ro, 0⟩, ⟨24, 8, .ro, 0⟩]
  | 0x08 => [⟨0, 10, .ro, 0⟩]
  | 0x0C => [⟨0, 10, .ro, 0⟩]
  | 0x10 => [⟨0, 1, .rb, 0⟩]
  | 0x14 => [⟨0, 16, .rb, 0x64⟩, ⟨16, 16, .rb, 0x16D⟩]
  | 0x18 => [⟨0, 16, .rb, 0x1000⟩]
  | 0x1C => [⟨0, 32, .ro, 0⟩]
  | 0x20 => [⟨0, 16, .ro, 0⟩, ⟨16, 5, .ro, 0⟩]
  | _ => []

/-- PWR block (09); 0x40 to 0x57 lie in the backup domain. -/
def pwrFields : Nat → List Field
  | 0x00 => [⟨0, 3, .ro, 0⟩, ⟨4, 3, .ro, 0⟩, ⟨8, 1, .ro, 0⟩, ⟨9, 1, .ro, 0⟩, ⟨10, 1, .ro, 0⟩, ⟨12, 4, .ro, 0⟩,
      ⟨16, 1, .w1c, 0⟩, ⟨17, 1, .w1c, 0⟩, ⟨18, 1, .w1c, 0⟩]
  | 0x04 => [⟨0, 3, .rw, 0⟩]
  | 0x08 => [⟨0, 32, .ro, 0⟩]
  | 0x0C => [⟨0, 32, .ro, 0⟩]
  | 0x10 => [⟨0, 32, .rb, 0⟩]
  | 0x14 => [⟨0, 32, .rb, 0⟩]
  | 0x18 => [⟨0, 3, .ro, 0⟩]
  | 0x40 => [⟨0, 8, .rb, 0⟩]
  | 0x44 => [⟨0, 4, .ro, 0⟩, ⟨4, 3, .ro, 0⟩, ⟨8, 16, .ro, 0⟩]
  | 0x48 => [⟨0, 3, .ro, 6⟩, ⟨3, 1, .ro, 0⟩, ⟨4, 1, .ro, 0⟩]
  | 0x4C => [⟨0, 32, .ro, 0⟩]
  | 0x50 => [⟨0, 32, .ro, 0⟩]
  | 0x54 => [⟨0, 1, .sc, 0⟩]
  | _ => []

/-- SEQ block (10). -/
def seqFields : Nat → List Field
  | 0x00 => [⟨0, 1, .sc, 0⟩, ⟨1, 1, .sc, 0⟩]
  | 0x04 => [⟨0, 3, .ro, 0⟩, ⟨3, 1, .w1c, 0⟩, ⟨4, 4, .ro, 0⟩, ⟨8, 1, .ro, 0⟩, ⟨16, 16, .ro, 0⟩]
  | 0x08 => [⟨0, 16, .w1c, 0⟩, ⟨16, 16, .w1c, 0⟩]
  | 0x0C => [⟨0, 10, .rb, 0⟩]
  | o => if 0x40 ≤ o ∧ o ≤ 0x7C then [⟨0, 10, .ro, 0⟩, ⟨16, 1, .ro, 0⟩, ⟨17, 1, .ro, 0⟩]
      else if 0x80 ≤ o ∧ o ≤ 0xBC then [⟨0, 16, .ro, 0⟩, ⟨16, 16, .ro, 0⟩] else []

/-- SUP block (10). -/
def supFields : Nat → List Field
  | 0x00 => [⟨0, 10, .rb, 0xA⟩]
  | 0x04 => [⟨0, 16, .ro, 0⟩, ⟨16, 7, .ro, 0⟩]
  | 0x08 => [⟨0, 16, .w1c, 0⟩, ⟨16, 7, .w1c, 0⟩]
  | _ => []

/-- RTC block (11). -/
def rtcFields : Nat → List Field
  | 0x00 => [⟨0, 1, .rw, 0⟩, ⟨1, 1, .rw, 0⟩]
  | 0x04 => [⟨0, 1, .ro, 1⟩, ⟨1, 1, .ro, 0⟩, ⟨2, 1, .ro, 0⟩, ⟨3, 1, .w1c, 0⟩, ⟨4, 1, .w1c, 0⟩, ⟨5, 1, .w1c, 0⟩,
      ⟨6, 1, .w1c, 0⟩, ⟨7, 1, .ro, 0⟩]
  | 0x08 => [⟨0, 15, .ro, 0⟩, ⟨16, 1, .ro, 0⟩]
  | 0x0C => [⟨0, 32, .ro, 0⟩]
  | 0x10 => [⟨0, 8, .ro, 0⟩, ⟨8, 8, .ro, 0⟩, ⟨16, 8, .ro, 0⟩]
  | 0x14 => [⟨0, 8, .ro, 0⟩, ⟨8, 8, .ro, 0⟩, ⟨16, 8, .ro, 0⟩, ⟨24, 1, .ro, 0⟩, ⟨28, 3, .ro, 0⟩]
  | 0x18 => [⟨0, 24, .ro, 0⟩]
  | 0x20 => [⟨0, 32, .rw, 0⟩]
  | 0x24 => [⟨0, 31, .rw, 0⟩, ⟨31, 1, .sc, 0⟩]
  | 0x28 => [⟨0, 10, .rw, 0⟩]
  | 0x2C => [⟨0, 10, .ro, 0⟩, ⟨15, 1, .ro, 0⟩, ⟨16, 12, .ro, 0⟩]
  | 0x30 => [⟨0, 15, .rw, 0⟩, ⟨15, 1, .rw, 0⟩, ⟨31, 1, .sc, 0⟩]
  | 0x38 => [⟨0, 24, .rw, 0⟩]
  | 0x3C => [⟨0, 24, .rw, 0⟩]
  | 0x40 => [⟨0, 32, .ro, 0⟩]
  | 0x44 => [⟨0, 15, .ro, 0⟩, ⟨16, 1, .ro, 0⟩, ⟨17, 1, .ro, 0⟩, ⟨31, 1, .w1c, 0⟩]
  | 0x48 => [⟨0, 16, .ro, 0⟩]
  | 0x4C => [⟨0, 32, .ro, 0⟩]
  | 0x50 => [⟨0, 1, .w1c, 0⟩, ⟨1, 1, .w1c, 1⟩, ⟨2, 1, .w1c, 0⟩, ⟨3, 1, .w1c, 0⟩]
  | 0x54 => [⟨0, 4, .rw, 0⟩]
  | _ => []

/-- EVT block (11). -/
def evtFields : Nat → List Field
  | 0x10 => [⟨0, 4, .ro, 0⟩, ⟨4, 4, .w1c, 0⟩, ⟨8, 3, .ro, 0⟩, ⟨11, 3, .ro, 0⟩, ⟨14, 3, .ro, 0⟩, ⟨17, 3, .ro, 0⟩]
  | 0x14 => [⟨0, 8, .ro, 0⟩, ⟨8, 8, .ro, 0⟩, ⟨16, 8, .ro, 0⟩, ⟨24, 8, .ro, 0⟩]
  | 0x20 => [⟨0, 2, .rw, 0⟩, ⟨4, 3, .rw, 0⟩, ⟨8, 1, .rw, 0⟩]
  | o => if o ≤ 0x0C then [⟨0, 2, .rw, 0⟩, ⟨2, 1, .rw, 0⟩, ⟨16, 9, .rw, 0⟩]
      else if 0x40 ≤ o ∧ o ≤ 0x67 then [⟨0, 32, .ro, 0⟩] else []

/-- LOG block (10). -/
def logFields : Nat → List Field
  | 0x00 => [⟨0, 9, .ro, 0⟩, ⟨16, 8, .ro, 0⟩, ⟨24, 1, .w1c, 0⟩, ⟨25, 1, .ro, 0⟩]
  | 0x04 => [⟨0, 16, .ro, 0⟩]
  | 0x08 => [⟨0, 9, .ro, 0⟩]
  | 0x10 => [⟨0, 16, .rw, 0⟩, ⟨16, 9, .rw, 0⟩]
  | o => if 0x1000 ≤ o ∧ o ≤ 0x300F then [⟨0, 32, .ro, 0⟩] else []

/-- A link port block, ILVn or FRDn (13, 14). -/
def portFields : Nat → List Field
  | 0x00 => [⟨0, 1, .sc, 0⟩, ⟨8, 4, .rb, 0⟩, ⟨12, 1, .rb, 0⟩]
  | 0x04 => [⟨0, 4, .ro, 0⟩, ⟨4, 3, .ro, 0⟩, ⟨8, 3, .ro, 0⟩, ⟨11, 1, .ro, 0⟩, ⟨12, 4, .ro, 0⟩, ⟨16, 2, .ro, 0⟩,
      ⟨18, 1, .ro, 0⟩]
  | 0x08 => [⟨0, 8, .ro, 0⟩, ⟨8, 4, .ro, 0⟩]
  | 0x0C => [⟨0, 32, .ro, 0⟩]
  | 0x10 => [⟨0, 32, .ro, 0⟩]
  | 0x14 => [⟨0, 16, .ro, 0⟩, ⟨16, 8, .ro, 0⟩, ⟨24, 8, .ro, 0⟩]
  | 0x18 => [⟨0, 16, .ro, 0⟩, ⟨16, 16, .ro, 0⟩]
  | 0x1C => [⟨0, 1, .sc, 0⟩]
  | 0x20 => [⟨0, 32, .ro, 0⟩]
  | 0x24 => [⟨0, 32, .ro, 0⟩]
  | 0x40 => [⟨0, 1, .sc, 0⟩, ⟨1, 1, .sc, 0⟩]
  | 0x44 => [⟨0, 2, .ro, 0⟩, ⟨2, 1, .ro, 0⟩, ⟨3, 1, .ro, 0⟩, ⟨4, 1, .ro, 0⟩, ⟨5, 1, .w1c, 0⟩, ⟨6, 1, .w1c, 0⟩,
      ⟨8, 4, .ro, 0⟩]
  | 0x48 => [⟨0, 10, .ro, 0⟩, ⟨16, 10, .ro, 0⟩]
  | 0x4C => [⟨0, 4, .ro, 0⟩, ⟨8, 5, .ro, 0⟩]
  | 0x50 => [⟨0, 10, .ro, 0⟩, ⟨16, 16, .ro, 0⟩]
  | 0x54 => [⟨0, 16, .ro, 0⟩, ⟨16, 16, .ro, 0⟩]
  | 0x58 => [⟨0, 32, .ro, 0⟩]
  | 0x5C => [⟨0, 11, .ro, 0⟩, ⟨16, 11, .ro, 0⟩]
  | 0x60 => [⟨0, 11, .ro, 0⟩, ⟨16, 11, .ro, 0x400⟩]
  | 0x64 => [⟨0, 16, .ro, 0⟩, ⟨16, 16, .ro, 0⟩]
  | 0x68 => [⟨0, 11, .ro, 0⟩, ⟨16, 11, .ro, 0⟩]
  | 0x6C => [⟨0, 16, .ro, 0⟩, ⟨16, 16, .ro, 0⟩]
  | 0x70 => [⟨0, 6, .ro, 4⟩, ⟨16, 10, .ro, 0x14⟩]
  | 0x74 => [⟨0, 14, .ro, 0xC8⟩, ⟨16, 9, .ro, 0x40⟩]
  | _ => []

/-- TXN block (15). -/
def txnFields : Nat → List Field
  | 0x00 => [⟨0, 10, .ro, 0⟩, ⟨16, 1, .w1c, 0⟩]
  | 0x04 => [⟨0, 4, .ro, 0⟩, ⟨4, 4, .ro, 0⟩, ⟨8, 2, .ro, 0⟩, ⟨12, 4, .ro, 0⟩, ⟨16, 9, .ro, 0⟩]
  | 0x08 => [⟨0, 32, .ro, 0⟩]
  | 0x0C => [⟨0, 16, .ro, 0⟩, ⟨16, 16, .ro, 0⟩]
  | 0x10 => [⟨0, 16, .ro, 0⟩, ⟨16, 16, .ro, 0⟩]
  | 0x14 => [⟨0, 1, .sc, 0⟩]
  | _ => []

/-- TEN block (15), tenant t at 0x10 t. -/
def tenFields (o : Nat) : List Field :=
  if 0x100 ≤ o then [] else
  match o % 0x10 with
  | 0x0 => [⟨0, 9, .ro, 0⟩, ⟨16, 10, .ro, 0⟩]
  | 0x4 => [⟨0, 10, .ro, 0⟩, ⟨16, 10, .ro, 0⟩]
  | 0x8 => [⟨0, 16, .ro, 0⟩, ⟨16, 4, .ro, 0⟩]
  | 0xC => [⟨0, 2, .ro, 0⟩, ⟨4, 3, .ro, 7⟩, ⟨8, 1, .ro, 0⟩, ⟨9, 1, .ro, 0⟩, ⟨16, 11, .ro, 0⟩]
  | _ => []

/-- A channel block CHn (16). -/
def chFields : Nat → List Field
  | 0x00 => [⟨0, 1, .rb, 0⟩, ⟨1, 1, .sc, 0⟩, ⟨4, 2, .rb, 1⟩]
  | 0x04 => [⟨0, 3, .ro, 0⟩, ⟨8, 1, .ro, 0⟩, ⟨9, 1, .w1c, 0⟩, ⟨12, 3, .ro, 0⟩, ⟨16, 6, .ro, 0⟩]
  | 0x08 => [⟨0, 16, .ro, 0⟩, ⟨16, 16, .ro, 0⟩]
  | 0x0C => [⟨0, 16, .ro, 0⟩, ⟨16, 16, .ro, 0⟩]
  | 0x10 => [⟨0, 30, .rb, 0⟩]
  | 0x14 => [⟨0, 4, .rw, 0⟩]
  | 0x18 => [⟨0, 1, .w1c, 0⟩, ⟨1, 1, .w1c, 0⟩, ⟨2, 1, .w1c, 0⟩, ⟨3, 1, .w1c, 0⟩]
  | 0x1C => [⟨0, 1, .sc, 0⟩]
  | 0x20 => [⟨0, 16, .ro, 0⟩, ⟨16, 16, .ro, 0⟩]
  | 0x200 => [⟨0, 10, .rw, 0⟩, ⟨16, 3, .rw, 0⟩]
  | 0x204 => [⟨0, 30, .rb, 0⟩]
  | 0x208 => [⟨0, 10, .rb, 0⟩]
  | o => if 0x100 ≤ o ∧ o < 0x1C0 then
      match o % 0x20 with
      | 0x00 => [⟨0, 1, .rb, 0⟩, ⟨16, 10, .rb, 0x3FF⟩]
      | 0x04 => [⟨0, 32, .rb, 0⟩]
      | 0x08 => [⟨0, 16, .rb, 0⟩, ⟨16, 16, .rb, 0⟩]
      | 0x0C => [⟨0, 16, .rb, 0⟩, ⟨16, 16, .rb, 0⟩]
      | 0x10 => [⟨0, 8, .ro, 0⟩, ⟨8, 4, .ro, 0⟩, ⟨16, 16, .ro, 0⟩]
      | _ => []
    else []

/-- An output block OUTn (17). -/
def outFields : Nat → List Field
  | 0x00 => [⟨0, 1, .sc, 0⟩]
  | 0x04 => [⟨0, 3, .ro, 0⟩, ⟨8, 1, .ro, 0⟩, ⟨9, 1, .ro, 0⟩, ⟨10, 1, .ro, 0⟩, ⟨11, 1, .ro, 0⟩, ⟨12, 1, .ro, 0⟩,
      ⟨16, 4, .ro, 0⟩]
  | 0x08 => [⟨0, 8, .rb, 0xE4⟩, ⟨16, 1, .rb, 0⟩, ⟨17, 1, .rb, 0⟩]
  | 0x0C => [⟨0, 12, .rb, 0⟩, ⟨12, 1, .rb, 0⟩]
  | 0x10 => [⟨0, 16, .ro, 0⟩, ⟨16, 16, .ro, 0⟩]
  | 0x14 => [⟨0, 8, .ro, 0⟩, ⟨8, 8, .ro, 0⟩]
  | 0x18 => [⟨0, 16, .ro, 0⟩, ⟨16, 16, .ro, 0⟩]
  | 0x1C => [⟨0, 16, .ro, 0⟩, ⟨16, 16, .ro, 0⟩]
  | 0x20 => [⟨0, 16, .ro, 0⟩, ⟨16, 16, .ro, 0⟩]
  | 0x24 => [⟨0, 16, .ro, 0⟩, ⟨16, 16, .ro, 0⟩]
  | 0x28 => [⟨0, 4, .rw, 0⟩]
  | 0x2C => [⟨0, 1, .w1c, 0⟩, ⟨1, 1, .w1c, 0⟩, ⟨2, 1, .w1c, 0⟩, ⟨3, 1, .w1c, 0⟩]
  | 0x30 => [⟨0, 1, .sc, 0⟩]
  | 0x40 => [⟨0, 20, .rw, 0⟩, ⟨20, 5, .rw, 0⟩, ⟨28, 1, .rw, 0⟩, ⟨31, 1, .sc, 0⟩]
  | 0x44 => [⟨0, 1, .ro, 0⟩, ⟨4, 4, .ro, 0⟩, ⟨8, 5, .ro, 0⟩]
  | o => if 0x50 ≤ o ∧ o ≤ 0x5C then [⟨0, 32, .rw, 0⟩] else []

/-- TT block (18). -/
def ttFields : Nat → List Field
  | 0x00 => [⟨0, 1, .ro, 0⟩, ⟨1, 1, .ro, 0⟩, ⟨8, 8, .ro, 0⟩, ⟨16, 8, .ro, 0⟩]
  | 0x04 => [⟨0, 4, .rb, 2⟩, ⟨4, 4, .rb, 3⟩, ⟨8, 8, .rb, 0x14⟩]
  | 0x08 => [⟨0, 16, .rb, 0x3E8⟩]
  | 0x0C => [⟨0, 16, .rb, 0xBB8⟩]
  | 0x10 => [⟨0, 2, .rb, 0⟩, ⟨2, 2, .rb, 0⟩, ⟨4, 2, .rb, 0⟩, ⟨6, 2, .rb, 0⟩]
  | 0x14 => [⟨0, 16, .rb, 0⟩]
  | 0x18 => [⟨0, 1, .sc, 0⟩]
  | 0x1C => [⟨0, 16, .rb, 0x64⟩]
  | 0x30 => [⟨0, 32, .w1c, 0⟩]
  | 0x34 => [⟨0, 32, .w1c, 0⟩]
  | 0x38 => [⟨0, 4, .rw, 0⟩]
  | 0x3C => [⟨0, 1, .w1c, 0⟩, ⟨1, 1, .w1c, 0⟩, ⟨2, 1, .w1c, 0⟩, ⟨3, 1, .w1c, 0⟩]
  | o => if 0x20 ≤ o ∧ o ≤ 0x2C then [⟨0, 32, .ro, 0⟩]
      else if 0x40 ≤ o ∧ o ≤ 0x4C then (List.range 16).map fun j => ⟨2 * j, 2, .rw, 0⟩
      else if 0x100 ≤ o ∧ o < 0x200 then
        [⟨0, 3, .ro, 0⟩, ⟨4, 3, .ro, 0⟩, ⟨8, 2, .ro, 0⟩, ⟨10, 2, .ro, 0⟩, ⟨12, 2, .ro, 0⟩, ⟨14, 2, .ro, 0⟩,
          ⟨16, 4, .ro, 0⟩, ⟨20, 2, .ro, 0⟩, ⟨24, 8, .ro, 0⟩]
      else if 0x200 ≤ o ∧ o < 0x300 then [⟨0, 32, .ro, 0⟩] else []

/-- OPT block (18, 20). -/
def optFields : Nat → List Field
  | 0x00 => [⟨0, 8, .ro, 0⟩, ⟨8, 8, .ro, 0⟩]
  | 0x04 => [⟨0, 4, .rb, 3⟩, ⟨4, 2, .rb, 0⟩]
  | 0x08 => [⟨0, 2, .rw, 0⟩]
  | 0x0C => [⟨0, 1, .w1c, 0⟩, ⟨1, 1, .w1c, 0⟩]
  | 0x20 => [⟨0, 10, .rb, 0x64⟩]
  | o => if 0x40 ≤ o ∧ o < 0x140 then
      match o % 0x20 with
      | 0x00 => [⟨0, 2, .rb, 1⟩]
      | 0x04 => [⟨0, 10, .rb, 0x10⟩, ⟨16, 10, .rb, 0x3C0⟩]
      | 0x08 => [⟨0, 16, .rb, 0x200⟩, ⟨16, 16, .rb, 0x80⟩]
      | 0x0C => [⟨0, 16, .rb, 0x100⟩]
      | 0x10 => [⟨0, 16, .ro, 0⟩, ⟨16, 16, .ro, 0⟩]
      | 0x14 => [⟨0, 10, .ro, 0⟩, ⟨12, 2, .ro, 0⟩, ⟨16, 4, .ro, 0⟩, ⟨20, 4, .ro, 0⟩]
      | 0x18 => [⟨0, 16, .ro, 0⟩, ⟨16, 16, .ro, 0⟩]
      | _ => []
    else if 0x140 ≤ o ∧ o < 0x160 then [⟨0, 16, .ro, 0⟩, ⟨31, 1, .ro, 0⟩] else []

/-- LED block (18). -/
def ledFields : Nat → List Field
  | 0x00 => [⟨0, 10, .rb, 0x20⟩]
  | 0x04 => [⟨0, 32, .w1c, 0⟩]
  | 0x08 => [⟨0, 32, .w1c, 0⟩]
  | 0x0C => [⟨0, 2, .rw, 0⟩]
  | o => if 0x100 ≤ o ∧ o < 0x180 then
      [⟨0, 10, .rb, 0⟩, ⟨16, 10, .ro, 0⟩, ⟨28, 1, .ro, 0⟩, ⟨29, 1, .ro, 0⟩, ⟨31, 1, .ro, 0⟩] else []

/-- A CAN controller block CANx (19). -/
def canFields : Nat → List Field
  | 0x00 => [⟨0, 1, .sc, 0⟩]
  | 0x04 => [⟨0, 2, .ro, 0⟩, ⟨2, 1, .ro, 0⟩, ⟨3, 1, .ro, 0⟩]
  | 0x08 => [⟨0, 9, .ro, 0⟩, ⟨16, 8, .ro, 0⟩]
  | 0x0C => [⟨0, 3, .ro, 0⟩]
  | 0x10 => [⟨0, 10, .ro, 0⟩, ⟨10, 8, .ro, 0⟩, ⟨18, 7, .ro, 0⟩, ⟨25, 7, .ro, 0⟩]
  | 0x14 => [⟨0, 5, .ro, 0⟩, ⟨5, 5, .ro, 0⟩, ⟨10, 4, .ro, 0⟩, ⟨14, 4, .ro, 0⟩, ⟨18, 7, .ro, 0⟩]
  | 0x18 => [⟨0, 7, .ro, 0⟩, ⟨7, 1, .w1c, 0⟩]
  | 0x1C => [⟨0, 32, .ro, 0⟩]
  | 0x20 => [⟨0, 16, .ro, 0⟩, ⟨16, 16, .ro, 0⟩]
  | 0x24 => [⟨0, 16, .ro, 0⟩, ⟨16, 16, .ro, 0⟩]
  | 0x28 => [⟨0, 16, .ro, 0⟩, ⟨16, 16, .ro, 0⟩]
  | 0x2C => [⟨0, 7, .rw, 0⟩]
  | 0x30 => [⟨0, 1, .w1c, 0⟩, ⟨1, 1, .w1c, 0⟩, ⟨2, 1, .w1c, 0⟩, ⟨3, 1, .w1c, 0⟩, ⟨4, 1, .w1c, 0⟩, ⟨5, 1, .w1c, 0⟩,
      ⟨6, 1, .w1c, 0⟩]
  | o => if 0x40 ≤ o ∧ o ≤ 0x7C then [⟨0, 32, .ro, 0⟩]
      else if 0x100 ≤ o ∧ o < 0x200 then
        [⟨0, 2, .rb, if o = 0x100 then 2 else 0⟩, ⟨4, 1, .sc, 0⟩, ⟨5, 1, .sc, 0⟩, ⟨8, 1, .w1c, 0⟩, ⟨9, 1, .w1c, 0⟩,
          ⟨10, 1, .w1c, 0⟩, ⟨11, 1, .w1c, 0⟩, ⟨12, 1, .w1c, 0⟩]
      else if 0x800 ≤ o ∧ o < 0x1000 then
        match o % 0x10 with
        | 0x0 => [⟨0, 29, .rb, 0⟩, ⟨29, 1, .rb, 0⟩, ⟨31, 1, .rb, 0⟩]
        | 0x4 => [⟨0, 29, .rb, 0⟩]
        | 0x8 => [⟨0, 6, .rb, 0⟩]
        | _ => []
      else if 0x1000 ≤ o ∧ o < 0x2400 then
        match (o - 0x1000) % 0x50 / 4 with
        | 0 => [⟨0, 29, .rw, 0⟩, ⟨29, 1, .rw, 0⟩, ⟨30, 1, .rw, 0⟩, ⟨31, 1, .rw, 0⟩]
        | 1 => [⟨0, 4, .rw, 0⟩, ⟨4, 1, .rw, 0⟩]
        | 19 => []
        | _ => [⟨0, 32, .rw, 0⟩]
      else []

/-- ADC block (20). -/
def adcFields : Nat → List Field
  | 0x00 => [⟨0, 6, .ro, 0x31⟩, ⟨8, 6, .ro, 0x31⟩, ⟨16, 1, .w1c, 0⟩, ⟨17, 1, .w1c, 0⟩]
  | 0x04 => [⟨0, 3, .rw, 0⟩]
  | 0x08 => [⟨0, 1, .w1c, 0⟩, ⟨1, 1, .w1c, 0⟩, ⟨2, 1, .w1c, 0⟩]
  | 0x10 => [⟨0, 12, .rb, 0x26C⟩, ⟨16, 12, .rb, 0x14⟩]
  | 0x14 => [⟨0, 6, .ro, 0⟩]
  | o => if 0x40 ≤ o ∧ o ≤ 0x58 then [⟨0, 12, .ro, 0⟩]
      else if 0x100 ≤ o ∧ o ≤ 0x17C then [⟨0, 1, .rw, 0⟩, ⟨1, 3, .rw, 0⟩]
      else if 0x200 ≤ o ∧ o ≤ 0x2A0 then [⟨0, 10, .ro, 0⟩, ⟨16, 8, .ro, 0⟩, ⟨31, 1, .ro, 0⟩] else []

/-- BKL block (20). -/
def bklFields : Nat → List Field
  | 0x00 => [⟨0, 4, .ro, 0⟩, ⟨4, 4, .ro, 0⟩, ⟨8, 4, .ro, 0⟩]
  | 0x04 => [⟨0, 2, .rw, 0⟩]
  | 0x08 => [⟨0, 1, .w1c, 0⟩, ⟨1, 1, .w1c, 0⟩]
  | o => if 0x10 ≤ o ∧ o < 0x50 then
      match o % 0x10 with
      | 0x0 => [⟨0, 10, .rb, 0x200⟩]
      | 0x4 => [⟨0, 19, .rb, 0x9C40⟩]
      | 0x8 => [⟨0, 1, .rb, 0⟩, ⟨1, 1, .rb, 1⟩, ⟨2, 1, .rb, 0⟩, ⟨8, 8, .rb, 0x20⟩, ⟨16, 12, .rb, 0⟩]
      | _ => []
    else []

/-- FLK block (21). -/
def flkFields : Nat → List Field
  | 0x00 => [⟨0, 1, .sc, 0⟩, ⟨8, 2, .rw, 0⟩]
  | 0x04 => [⟨0, 2, .ro, 0⟩, ⟨2, 1, .ro, 0⟩, ⟨4, 2, .ro, 0⟩, ⟨8, 4, .ro, 0⟩, ⟨12, 2, .ro, 0⟩, ⟨14, 1, .ro, 0⟩,
      ⟨15, 1, .ro, 0⟩, ⟨16, 4, .ro, 0⟩, ⟨20, 4, .ro, 0⟩, ⟨24, 1, .ro, 0⟩]
  | 0x08 => [⟨0, 4, .ro, 0⟩, ⟨4, 4, .ro, 0⟩, ⟨8, 4, .ro, 0⟩, ⟨12, 4, .ro, 0⟩]
  | 0x0C => [⟨0, 3, .ro, 0⟩, ⟨4, 3, .ro, 0⟩]
  | 0x40 => [⟨0, 8, .rb, 1⟩, ⟨8, 8, .rb, 8⟩, ⟨16, 1, .rb, 0⟩]
  | 0x44 => [⟨0, 16, .ro, 0⟩, ⟨16, 16, .ro, 0⟩]
  | 0x48 => [⟨0, 16, .ro, 0⟩, ⟨16, 16, .ro, 0⟩]
  | 0x50 => [⟨0, 5, .rw, 0⟩]
  | 0x54 => [⟨0, 1, .w1c, 0⟩, ⟨1, 1, .w1c, 0⟩, ⟨2, 1, .w1c, 0⟩, ⟨3, 1, .w1c, 0⟩, ⟨4, 1, .w1c, 0⟩]
  | o => if 0x10 ≤ o ∧ o ≤ 0x3C then [⟨0, 32, .ro, 0⟩] else []

/-- ARB block (22). -/
def arbFields : Nat → List Field
  | 0x00 => [⟨0, 7, .ro, 0⟩]
  | 0x04 => [⟨0, 16, .rb, 0x64⟩]
  | 0x08 => [⟨0, 1, .rw, 0⟩]
  | 0x0C => [⟨0, 1, .w1c, 0⟩]
  | 0x30 => [⟨0, 1, .sc, 0⟩]
  | o => if 0x10 ≤ o ∧ o ≤ 0x28 then [⟨0, 16, .ro, 0⟩, ⟨16, 16, .ro, 0⟩] else []

/-- FLT block (22). -/
def fltFields : Nat → List Field
  | 0x00 => [⟨0, 7, .ro, 0⟩, ⟨8, 3, .ro, 0⟩]
  | 0x04 => [⟨0, 32, .ro, 0⟩]
  | 0x08 => [⟨0, 1, .ro, 0⟩, ⟨4, 4, .ro, 0⟩, ⟨8, 7, .ro, 0⟩, ⟨16, 1, .w1c, 0⟩, ⟨17, 3, .ro, 0⟩]
  | 0x0C => [⟨0, 1, .sc, 0⟩]
  | 0x10 => [⟨0, 32, .w1c, 0⟩]
  | 0x14 => [⟨0, 32, .w1c, 0⟩]
  | 0x18 => [⟨0, 32, .w1c, 0⟩]
  | 0x1C => [⟨0, 32, .w1c, 0⟩]
  | 0x20 => [⟨0, 7, .rw, 0⟩]
  | 0x24 => [⟨0, 3, .ro, 0⟩, ⟨4, 3, .ro, 0⟩, ⟨7, 1, .ro, 0⟩, ⟨8, 4, .ro, 0⟩, ⟨16, 16, .ro, 0⟩]
  | 0x30 => [⟨0, 16, .rb, 0⟩, ⟨16, 16, .rb, 0⟩]
  | 0x34 => [⟨0, 1, .sc, 0⟩]
  | 0x38 => [⟨0, 16, .ro, 0⟩, ⟨16, 1, .w1c, 0⟩, ⟨17, 1, .w1c, 0⟩]
  | 0x40 => [⟨0, 2, .rw, 0⟩]
  | 0x44 => [⟨0, 1, .w1c, 0⟩, ⟨1, 1, .w1c, 0⟩]
  | _ => []

/-- INT block (15); the source-0 field of INT_ROUTE0 reads 0. -/
def intFields (o : Nat) : List Field :=
  if o = 0 then (List.range 7).map fun j => ⟨4 * j + 4, 4, .rw, 0⟩
  else if o ≤ 0x0C then (List.range 8).map fun j => ⟨4 * j, 4, .rw, 0⟩
  else if o = 0x10 then [⟨0, 4, .ro, 0⟩]
  else if 0x100 ≤ o ∧ o < 0x300 then
    match o % 0x20 with
    | 0x00 => [⟨0, 32, .ro, 0⟩]
    | 0x04 => [⟨0, 32, .rw, 0⟩]
    | 0x08 => [⟨0, 1, .sc, 0⟩, ⟨1, 1, .ro, 1⟩]
    | 0x0C => [⟨0, 32, .rw, 0⟩]
    | 0x10 => [⟨0, 32, .rw, 0⟩]
    | _ => []
  else []

/-- The fields of block index `b` (Table 23-1) at offset `o`. -/
def blockFields (b o : Nat) : List Field :=
  match b with
  | 0 => sysFields o
  | 1 => otpFields o
  | 2 => strFields o
  | 3 => updFields o
  | 4 => memFields o
  | 5 => stoFields o
  | 6 => nvhFields o
  | 7 => pwrFields o
  | 8 => seqFields o
  | 9 => supFields o
  | 10 => rtcFields o
  | 11 => evtFields o
  | 12 => logFields o
  | 16 => portFields o
  | 17 => portFields o
  | 18 => portFields o
  | 19 => portFields o
  | 20 => txnFields o
  | 21 => tenFields o
  | 32 => chFields o
  | 33 => chFields o
  | 34 => chFields o
  | 35 => chFields o
  | 36 => outFields o
  | 37 => outFields o
  | 38 => outFields o
  | 39 => outFields o
  | 48 => ttFields o
  | 49 => optFields o
  | 50 => ledFields o
  | 64 => canFields o
  | 65 => canFields o
  | 80 => adcFields o
  | 81 => bklFields o
  | 96 => flkFields o
  | 112 => arbFields o
  | 113 => fltFields o
  | 114 => intFields o
  | _ => []

/-- The first address of the core register space. -/
def regBase : Nat := 0x80000000

/-- The block index of a core address: address bits [22:16] (23, Model). -/
def blockOf (a : Nat) : Nat := a / 0x10000 % 0x80

/-- The block indices Table 23-1 lists (R485). -/
def listedBlock (b : Nat) : Bool :=
  b ≤ 12 || (16 ≤ b && b ≤ 21) || (32 ≤ b && b ≤ 39) || (48 ≤ b && b ≤ 50) || b == 64 || b == 65 || b == 80 ||
    b == 81 || b == 96 || (112 ≤ b && b ≤ 114)

/-- The fields of the register at core address `a`; none where no register is defined (R4). (log 2 DESIGN CHOICE) -/
def regFields (a : Nat) : List Field :=
  if regBase ≤ a ∧ a < 0x80800000 ∧ a % 4 = 0 then blockFields (blockOf a) (a % 0x10000) else []

/-- The reset value of the register at `a`: its fields' reset values (R3), reserved bits 0 (R4). -/
def regReset (a : Nat) : Word :=
  BitVec.ofNat 32 ((regFields a).foldl (fun v f => v + f.reset % 2 ^ f.width * 2 ^ f.lsb) 0)

/-- Registers of the backup domain: SYS_RST_CAUSE, PWR 0x40 to 0x57, RTC, EVT and LOG (Table 1-4, R486). -/
def isBackup (a : Nat) : Bool :=
  a = 0x80000010 || (0x80070040 ≤ a && a < 0x80070058) || (0x800A0000 ≤ a && a < 0x800D0000)

/-! ### Reading and writing registers in the state -/

/-- The value register `a` holds. -/
def State.reg (s : State) (a : Nat) : Word := tget (regReset a) s.regs a

/-- The state in which register `a` holds `v`. -/
def State.setReg (s : State) (a : Nat) (v : Word) : State := { s with regs := tset (regReset a) s.regs a v }

/-- Bits [lsb + width - 1 : lsb] of register `a`. -/
def State.fld (s : State) (a lsb width : Nat) : Nat := bits (s.reg a).toNat lsb width

/-- The state in which bits [lsb + width - 1 : lsb] of register `a` are `x`. -/
def State.setFld (s : State) (a lsb width x : Nat) : State :=
  s.setReg a (BitVec.ofNat 32 (putBits (s.reg a).toNat lsb width x))

/-- Bit `i` of register `a`. -/
def State.flag (s : State) (a i : Nat) : Bool := s.fld a i 1 = 1

/-- The state in which bit `i` of register `a` is 1. -/
def State.raise (s : State) (a i : Nat) : State := s.setFld a i 1 1

/-- The state in which bit `i` of register `a` is 0. -/
def State.lower (s : State) (a i : Nat) : State := s.setFld a i 1 0

/-- The state in which bit `i` of register `a` is `b`. -/
def State.putFlag (s : State) (a i : Nat) (b : Bool) : State := s.setFld a i 1 (b2n b)

/-- A counter field advanced by `n`, saturating. -/
def State.bump (s : State) (a lsb width n : Nat) : State :=
  s.setFld a lsb width (satAdd width (s.fld a lsb width) n)

/-- The bits of the fields with access code in `l`, as a mask. -/
def accMask (l : List Acc) (a : Nat) : Nat :=
  (regFields a).foldl (fun v f => if f.acc ∈ l then v + (2 ^ f.width - 1) * 2 ^ f.lsb else v) 0

/-- The value of register `a` after a plain write of `w` (Table 0-2): RW and RB fields store, each 1 in a W1C field
clears, each 1 in a W1S field sets, all others keep. SC and WO fields act in the meaning of the command.
(log 9 DEDUCED, 10 DEDUCED) -/
def plainWrite (a : Nat) (old w : Word) : Word :=
  let store := BitVec.ofNat 32 (accMask [.rw, .rb] a)
  let clear := w &&& BitVec.ofNat 32 (accMask [.w1c] a)
  let set := w &&& BitVec.ofNat 32 (accMask [.w1s] a)
  (((old &&& ~~~store) ||| (w &&& store)) &&& ~~~clear) ||| set

/-- A plain write of `w` to register `a`. -/
def State.write (s : State) (a : Nat) (w : Word) : State := s.setReg a (plainWrite a (s.reg a) w)

/-- A list of field values `(lsb, width, value)` put into register `a`. -/
def State.setFlds (s : State) (a : Nat) (l : List (Nat × Nat × Nat)) : State :=
  l.foldl (fun s e => s.setFld a e.1 e.2.1 e.2.2) s

end Sys2Proof.Machine
end

