-- ==== Sys2Proof/Machine/Addr.lean ====
section
/-! DEFINITION. The addresses of the registers (Tables 23-1 and 23-2). Registers of an array take their index; blocks
of several instances take the instance (ports: 0 ILV0, 1 ILV1, 2 FRD0, 3 FRD1). -/

namespace Sys2Proof.Machine

/-! SYS block -/
def SYS_ID : Nat := 0x80000000
def SYS_DEVID_LO : Nat := 0x80000004
def SYS_DEVID_HI : Nat := 0x80000008
def SYS_RST_CAUSE : Nat := 0x80000010
def SYS_RST_CTRL : Nat := 0x80000014
def SYS_CLK_STAT : Nat := 0x80000020
def SYS_CLK_FAULT : Nat := 0x80000024
def SYS_DOOR_STAT : Nat := 0x80000030
def SYS_DOOR_PH1 : Nat := 0x80000034
def SYS_DOOR_PH2 : Nat := 0x80000038
def SYS_DOOR_PH3 : Nat := 0x8000003C
def SYS_DOOR_PH4 : Nat := 0x80000040
def SYS_DOOR_LINE : Nat := 0x80000044
def SYS_DOOR_EPROOF : Nat := 0x80000048
def SYS_DOOR_OPROOF : Nat := 0x8000004C
def SYS_DOOR_FULL : Nat := 0x80000050

/-! OTP block -/
def OTP_STAT : Nat := 0x80010000
def OTP_USED : Nat := 0x80010004
def OTP_PROG_CTRL : Nat := 0x80010008
def OTP_PROG_STAT : Nat := 0x8001000C
def OTP_BUF (i : Nat) : Nat := 0x80010040 + 4 * i
def OTP_AUTH (i : Nat) : Nat := 0x80010100 + 4 * i
def OTP_ARRAY (i : Nat) : Nat := 0x80011000 + 4 * i

/-! STR block -/
def STR_STAT : Nat := 0x80020000
def STR_ERR : Nat := 0x80020004
def STR_VER : Nat := 0x80020008
def STR_LEN : Nat := 0x8002000C
def STR_HASH (i : Nat) : Nat := 0x80020010 + 4 * i
def STR_BERR_ADDR : Nat := 0x80020030
def STR_BERR_INFO : Nat := 0x80020034
def STR_BQ_ADDR : Nat := 0x80020040
def STR_BQ_BIT : Nat := 0x80020044
def STR_BQ_RES : Nat := 0x80020048
def STR_BQ_MIN : Nat := 0x8002004C
def STR_BQ_MAX : Nat := 0x80020050

/-! UPD block -/
def UPD_CTRL : Nat := 0x80030000
def UPD_STAT : Nat := 0x80030004
def UPD_ERR : Nat := 0x80030008
def UPD_SEL_GEN : Nat := 0x8003000C
def UPD_VER : Nat := 0x80030010
def UPD_WRCNT : Nat := 0x80030014

/-! MEM block -/
def MEM_STAT : Nat := 0x80040000
def MEM_ECC_CTRL : Nat := 0x80040004
def MEM_ECC_CNT : Nat := 0x80040008
def MEM_CE_ADDR : Nat := 0x8004000C
def MEM_UE_ADDR : Nat := 0x80040010
def MEM_UE_INFO : Nat := 0x80040014
def MEM_CLASS_A : Nat := 0x80040018
def MEM_CLASS_B : Nat := 0x8004001C
def MEM_CLASS_C : Nat := 0x80040020
def MEM_STALE (i : Nat) : Nat := 0x80040040 + 4 * i
def MEM_LOST (i : Nat) : Nat := 0x80040060 + 4 * i

/-! STO block -/
def STO_CTRL : Nat := 0x80050000
def STO_STAT : Nat := 0x80050004
def STO_DET : Nat := 0x80050008
def STO_LOAD : Nat := 0x8005000C
def STO_PACE : Nat := 0x80050010
def STO_HOLD : Nat := 0x80050014
def STO_VLIM : Nat := 0x80050018
def STO_SNS : Nat := 0x8005001C
def STO_EST : Nat := 0x80050020
def STO_GEN : Nat := 0x80050024
def STO_LAST : Nat := 0x80050028
def STO_LAST_TIME : Nat := 0x8005002C
def STO_LAST_UNITS : Nat := 0x80050030
def STO_RST : Nat := 0x80050034
def STO_TOUCH : Nat := 0x80050038

/-! NVH block -/
def NVH_STAT : Nat := 0x80060000
def NVH_POOL : Nat := 0x80060004
def NVH_AVAIL : Nat := 0x80060008
def NVH_NEED : Nat := 0x8006000C
def NVH_CTRL : Nat := 0x80060010
def NVH_SCRUB : Nat := 0x80060014
def NVH_WL : Nat := 0x80060018
def NVH_WEAR : Nat := 0x8006001C
def NVH_JSTAT : Nat := 0x80060020

/-! PWR block -/
def PWR_STAT : Nat := 0x80070000
def PWR_REQ : Nat := 0x80070004
def PWR_VOTE0 : Nat := 0x80070008
def PWR_VOTE1 : Nat := 0x8007000C
def PWR_AUTO_P1 : Nat := 0x80070010
def PWR_AUTO_P2 : Nat := 0x80070014
def PWR_DEEPEST : Nat := 0x80070018
def PWR_WAKE_EN : Nat := 0x80070040
def PWR_WAKE_SRC : Nat := 0x80070044
def PWR_HOLD : Nat := 0x80070048
def PWR_HOLD_GEN : Nat := 0x8007004C
def PWR_HOLD_PGEN : Nat := 0x80070050
def PWR_SBP_WAKE : Nat := 0x80070054

/-! SEQ block -/
def SEQ_CTRL : Nat := 0x80080000
def SEQ_STAT : Nat := 0x80080004
def SEQ_TOUT : Nat := 0x80080008
def SEQ_CFG : Nat := 0x8008000C
def SEQ_SENSE (i : Nat) : Nat := 0x80080040 + 4 * i
def SEQ_TIME (i : Nat) : Nat := 0x80080080 + 4 * i

/-! SUP block -/
def SUP_CTRL : Nat := 0x80090000
def SUP_STAT : Nat := 0x80090004
def SUP_FAULT : Nat := 0x80090008

/-! RTC block -/
def RTC_CFG : Nat := 0x800A0000
def RTC_STAT : Nat := 0x800A0004
def RTC_SUBSEC : Nat := 0x800A0008
def RTC_SEC : Nat := 0x800A000C
def RTC_CAL_TIME : Nat := 0x800A0010
def RTC_CAL_DATE : Nat := 0x800A0014
def RTC_CD_NOW : Nat := 0x800A0018
def RTC_SET_LO : Nat := 0x800A0020
def RTC_SET_HI : Nat := 0x800A0024
def RTC_TRIM : Nat := 0x800A0028
def RTC_TRIM_STAT : Nat := 0x800A002C
def RTC_SHIFT : Nat := 0x800A0030
def RTC_CD_LOAD : Nat := 0x800A0038
def RTC_CD_RELOAD : Nat := 0x800A003C
def RTC_SWFIRST_SEC : Nat := 0x800A0040
def RTC_SWFIRST_SUB : Nat := 0x800A0044
def RTC_SWCOUNT : Nat := 0x800A0048
def RTC_RUNTIME : Nat := 0x800A004C
def RTC_ISTAT : Nat := 0x800A0050
def RTC_IEN : Nat := 0x800A0054

/-! EVT block -/
def EVT_CFG (i : Nat) : Nat := 0x800B0000 + 4 * i
def EVT_STAT : Nat := 0x800B0010
def EVT_DROP : Nat := 0x800B0014
def EVT_RD_CTRL : Nat := 0x800B0020
def EVT_RD_WIN : Nat := 0x800B0040

/-! LOG block -/
def LOG_STAT : Nat := 0x800C0000
def LOG_SEQ : Nat := 0x800C0004
def LOG_SKIP : Nat := 0x800C0008
def LOG_RD_CTRL : Nat := 0x800C0010
def LOG_RD_WIN : Nat := 0x800C1000

/-! TXN block -/
def TXN_STAT : Nat := 0x80140000
def TXN_ERR_LAST : Nat := 0x80140004
def TXN_ERR_ADDR : Nat := 0x80140008
def TXN_CNT : Nat := 0x8014000C
def TXN_RESENT : Nat := 0x80140010
def TXN_CLR : Nat := 0x80140014

/-! TT block -/
def TT_STAT : Nat := 0x80300000
def TT_CFG : Nat := 0x80300004
def TT_DEADLINE : Nat := 0x80300008
def TT_BULB : Nat := 0x8030000C
def TT_VAR : Nat := 0x80300010
def TT_T1_TMO : Nat := 0x80300014
def TT_T1_ALIVE : Nat := 0x80300018
def TT_CAN_PERIOD : Nat := 0x8030001C
def TT_ON (i : Nat) : Nat := 0x80300020 + 4 * i
def TT_PROVEN (i : Nat) : Nat := 0x80300028 + 4 * i
def TT_FAIL (i : Nat) : Nat := 0x80300030 + 4 * i
def TT_IEN : Nat := 0x80300038
def TT_ISTAT : Nat := 0x8030003C
def TT_T1_REQ (i : Nat) : Nat := 0x80300040 + 4 * i
def TT_S (i : Nat) : Nat := 0x80300100 + 4 * i
def TT_ECRC (i : Nat) : Nat := 0x80300200 + 4 * i

/-! OPT block -/
def OPT_STAT : Nat := 0x80310000
def OPT_CFG : Nat := 0x80310004
def OPT_IEN : Nat := 0x80310008
def OPT_ISTAT : Nat := 0x8031000C
def OPT_ALS : Nat := 0x80310020

/-! LED block -/
def LED_CFG : Nat := 0x80320000
def LED_OPEN : Nat := 0x80320004
def LED_SHORT : Nat := 0x80320008
def LED_IEN : Nat := 0x8032000C
def LED_CUR (i : Nat) : Nat := 0x80320100 + 4 * i

/-! ADC block -/
def ADC_STAT : Nat := 0x80500000
def ADC_IEN : Nat := 0x80500004
def ADC_ISTAT : Nat := 0x80500008
def ADC_TALARM : Nat := 0x80500010
def ADC_HOT : Nat := 0x80500014
def ADC_TEMP (i : Nat) : Nat := 0x80500040 + 4 * i
def ADC_CH_CFG (i : Nat) : Nat := 0x80500100 + 4 * i
def ADC_RES (i : Nat) : Nat := 0x80500200 + 4 * i

/-! BKL block -/
def BKL_STAT : Nat := 0x80510000
def BKL_IEN : Nat := 0x80510004
def BKL_ISTAT : Nat := 0x80510008

/-! FLK block -/
def FLK_CTRL : Nat := 0x80600000
def FLK_STAT : Nat := 0x80600004
def FLK_MEMBERS : Nat := 0x80600008
def FLK_FLOOR : Nat := 0x8060000C
def FLK_PEER (i : Nat) : Nat := 0x80600010 + 8 * i
def FLK_CODES (i : Nat) : Nat := 0x80600030 + 4 * i
def FLK_CFG : Nat := 0x80600040
def FLK_CNT : Nat := 0x80600044
def FLK_TIME : Nat := 0x80600048
def FLK_IEN : Nat := 0x80600050
def FLK_ISTAT : Nat := 0x80600054

/-! ARB block -/
def ARB_STAT : Nat := 0x80700000
def ARB_CFG : Nat := 0x80700004
def ARB_IEN : Nat := 0x80700008
def ARB_ISTAT : Nat := 0x8070000C
def ARB_BW (i : Nat) : Nat := 0x80700010 + 4 * i
def ARB_CLR : Nat := 0x80700030

/-! FLT block -/
def FLT_LAST : Nat := 0x80710000
def FLT_COUNT : Nat := 0x80710004
def FLT_SAFE : Nat := 0x80710008
def FLT_SAFE_CTRL : Nat := 0x8071000C
def FLT_SEEN (i : Nat) : Nat := 0x80710010 + 4 * i
def FLT_QSRC : Nat := 0x80710020
def FLT_QRES : Nat := 0x80710024
def FLT_WDG_CFG : Nat := 0x80710030
def FLT_WDG_KICK : Nat := 0x80710034
def FLT_WDG_STAT : Nat := 0x80710038
def FLT_IEN : Nat := 0x80710040
def FLT_ISTAT : Nat := 0x80710044

/-! INT block -/
def INT_ROUTE (i : Nat) : Nat := 0x80720000 + 4 * i
def INT_PIN_STAT : Nat := 0x80720010

/-! PHY registers of an instance -/
def PHY_CTRL (n : Nat) : Nat := 0x80100000 + 0x10000 * n
def PHY_STAT (n : Nat) : Nat := 0x80100004 + 0x10000 * n
def PHY_LANEMAP (n : Nat) : Nat := 0x80100008 + 0x10000 * n
def PHY_CORR (n : Nat) : Nat := 0x8010000C + 0x10000 * n
def PHY_UNCORR (n : Nat) : Nat := 0x80100010 + 0x10000 * n
def PHY_LOCK (n : Nat) : Nat := 0x80100014 + 0x10000 * n
def PHY_TRAIN (n : Nat) : Nat := 0x80100018 + 0x10000 * n
def PHY_CLR (n : Nat) : Nat := 0x8010001C + 0x10000 * n
def PHY_PEER_LO (n : Nat) : Nat := 0x80100020 + 0x10000 * n
def PHY_PEER_HI (n : Nat) : Nat := 0x80100024 + 0x10000 * n

/-! LNK registers of an instance -/
def LNK_CTRL (n : Nat) : Nat := 0x80100040 + 0x10000 * n
def LNK_STAT (n : Nat) : Nat := 0x80100044 + 0x10000 * n
def LNK_SEQ (n : Nat) : Nat := 0x80100048 + 0x10000 * n
def LNK_WIN (n : Nat) : Nat := 0x8010004C + 0x10000 * n
def LNK_REPLAY (n : Nat) : Nat := 0x80100050 + 0x10000 * n
def LNK_NAK (n : Nat) : Nat := 0x80100054 + 0x10000 * n
def LNK_RETX (n : Nat) : Nat := 0x80100058 + 0x10000 * n
def LNK_CRED (n : Nat) : Nat := 0x8010005C + 0x10000 * n
def LNK_LEAK (n : Nat) : Nat := 0x80100060 + 0x10000 * n
def LNK_SNAP (n : Nat) : Nat := 0x80100064 + 0x10000 * n
def LNK_POOL (n : Nat) : Nat := 0x80100068 + 0x10000 * n
def LNK_DOWNS (n : Nat) : Nat := 0x8010006C + 0x10000 * n
def LNK_CFG0 (n : Nat) : Nat := 0x80100070 + 0x10000 * n
def LNK_CFG1 (n : Nat) : Nat := 0x80100074 + 0x10000 * n

/-! CH registers of an instance -/
def CH_CTRL (n : Nat) : Nat := 0x80200000 + 0x10000 * n
def CH_STAT (n : Nat) : Nat := 0x80200004 + 0x10000 * n
def CH_POS (n : Nat) : Nat := 0x80200008 + 0x10000 * n
def CH_UNDERRUN (n : Nat) : Nat := 0x8020000C + 0x10000 * n
def CH_FILL (n : Nat) : Nat := 0x80200010 + 0x10000 * n
def CH_IEN (n : Nat) : Nat := 0x80200014 + 0x10000 * n
def CH_ISTAT (n : Nat) : Nat := 0x80200018 + 0x10000 * n
def CH_CLR (n : Nat) : Nat := 0x8020001C + 0x10000 * n
def CH_TOTAL (n : Nat) : Nat := 0x80200020 + 0x10000 * n
def CH_PAL_IDX (n : Nat) : Nat := 0x80200200 + 0x10000 * n
def CH_PAL_RGB (n : Nat) : Nat := 0x80200204 + 0x10000 * n
def CH_PAL_A (n : Nat) : Nat := 0x80200208 + 0x10000 * n

/-! OUT registers of an instance -/
def OUT_CTRL (n : Nat) : Nat := 0x80240000 + 0x10000 * n
def OUT_STAT (n : Nat) : Nat := 0x80240004 + 0x10000 * n
def OUT_LANE (n : Nat) : Nat := 0x80240008 + 0x10000 * n
def OUT_INV (n : Nat) : Nat := 0x8024000C + 0x10000 * n
def OUT_TRAIN (n : Nat) : Nat := 0x80240010 + 0x10000 * n
def OUT_VS (n : Nat) : Nat := 0x80240014 + 0x10000 * n
def OUT_SCRC_R (n : Nat) : Nat := 0x80240018 + 0x10000 * n
def OUT_SCRC_B (n : Nat) : Nat := 0x8024001C + 0x10000 * n
def OUT_SCRC_CNT (n : Nat) : Nat := 0x80240020 + 0x10000 * n
def OUT_HPD_CNT (n : Nat) : Nat := 0x80240024 + 0x10000 * n
def OUT_IEN (n : Nat) : Nat := 0x80240028 + 0x10000 * n
def OUT_ISTAT (n : Nat) : Nat := 0x8024002C + 0x10000 * n
def OUT_CLR (n : Nat) : Nat := 0x80240030 + 0x10000 * n
def OUT_AUX_CMD (n : Nat) : Nat := 0x80240040 + 0x10000 * n
def OUT_AUX_STAT (n : Nat) : Nat := 0x80240044 + 0x10000 * n

/-! CAN registers of an instance -/
def CAN_CTRL (n : Nat) : Nat := 0x80400000 + 0x10000 * n
def CAN_STAT (n : Nat) : Nat := 0x80400004 + 0x10000 * n
def CAN_ERRC (n : Nat) : Nat := 0x80400008 + 0x10000 * n
def CAN_LEC (n : Nat) : Nat := 0x8040000C + 0x10000 * n
def CAN_BTN (n : Nat) : Nat := 0x80400010 + 0x10000 * n
def CAN_BTD (n : Nat) : Nat := 0x80400014 + 0x10000 * n
def CAN_TDC (n : Nat) : Nat := 0x80400018 + 0x10000 * n
def CAN_TIME (n : Nat) : Nat := 0x8040001C + 0x10000 * n
def CAN_CNT (n : Nat) : Nat := 0x80400020 + 0x10000 * n
def CAN_ECNT (n : Nat) : Nat := 0x80400024 + 0x10000 * n
def CAN_MAP (n : Nat) : Nat := 0x80400028 + 0x10000 * n
def CAN_IEN (n : Nat) : Nat := 0x8040002C + 0x10000 * n
def CAN_ISTAT (n : Nat) : Nat := 0x80400030 + 0x10000 * n

/-! Registers with two indices -/
def CH_L_CTRL (n m : Nat) : Nat := 0x80200100 + 0x10000 * n + 0x20 * m
def CH_L_BASE (n m : Nat) : Nat := 0x80200104 + 0x10000 * n + 0x20 * m
def CH_L_POS (n m : Nat) : Nat := 0x80200108 + 0x10000 * n + 0x20 * m
def CH_L_SIZE (n m : Nat) : Nat := 0x8020010C + 0x10000 * n + 0x20 * m
def CH_L_INFO (n m : Nat) : Nat := 0x80200110 + 0x10000 * n + 0x20 * m
def OUT_AUX_DATA (n k : Nat) : Nat := 0x80240050 + 0x10000 * n + 4 * k
def CAN_SRC (x k : Nat) : Nat := 0x80400040 + 0x10000 * x + 4 * k
def CAN_MB_CTRL (x n : Nat) : Nat := 0x80400100 + 0x10000 * x + 4 * n
def CAN_FLT_ID (x k : Nat) : Nat := 0x80400800 + 0x10000 * x + 16 * k
def CAN_FLT_MASK (x k : Nat) : Nat := 0x80400804 + 0x10000 * x + 16 * k
def CAN_FLT_BUF (x k : Nat) : Nat := 0x80400808 + 0x10000 * x + 16 * k
def CAN_MB (x n w : Nat) : Nat := 0x80401000 + 0x10000 * x + 0x50 * n + 4 * w
def TEN_TAG (t : Nat) : Nat := 0x80150000 + 0x10 * t
def TEN_HELD (t : Nat) : Nat := 0x80150004 + 0x10 * t
def TEN_ERR (t : Nat) : Nat := 0x80150008 + 0x10 * t
def TEN_CFG (t : Nat) : Nat := 0x8015000C + 0x10 * t
def INT_PEND (t : Nat) : Nat := 0x80720100 + 0x20 * t
def INT_EN (t : Nat) : Nat := 0x80720104 + 0x20 * t
def INT_CTL (t : Nat) : Nat := 0x80720108 + 0x20 * t
def INT_MSG_ADDR (t : Nat) : Nat := 0x8072010C + 0x20 * t
def INT_MSG_DATA (t : Nat) : Nat := 0x80720110 + 0x20 * t
def OPT_GAIN (p : Nat) : Nat := 0x80310040 + 0x20 * p
def OPT_AMB (p : Nat) : Nat := 0x80310044 + 0x20 * p
def OPT_THR (p : Nat) : Nat := 0x80310048 + 0x20 * p
def OPT_NOISE (p : Nat) : Nat := 0x8031004C + 0x20 * p
def OPT_RES (p : Nat) : Nat := 0x80310050 + 0x20 * p
def OPT_LAST (p : Nat) : Nat := 0x80310054 + 0x20 * p
def OPT_CNT (p : Nat) : Nat := 0x80310058 + 0x20 * p
def ALS_P (p : Nat) : Nat := 0x80310140 + 4 * p
def BKL_DUTY (n : Nat) : Nat := 0x80510010 + 0x10 * n
def BKL_PER (n : Nat) : Nat := 0x80510014 + 0x10 * n
def BKL_CTRL (n : Nat) : Nat := 0x80510018 + 0x10 * n

end Sys2Proof.Machine
end

