-- ==== Sys2Proof/Machine/Crypto.lean ====
section
/-! DEFINITION. The checks the spec names by their standards (Table 0-4): CRC-32C (R46), CRC-16/CCITT (10), CRC-8,
SHA-256 and ECDSA over NIST P-256 (R47). PRESUMED: the constants of SHA-256 and of P-256 are those of FIPS 180-4 and
FIPS 186-4, which the spec names and does not print. -/

namespace Sys2Proof.Machine

/-- One bit of a reflected CRC register with polynomial `p`. -/
def crcBitR (p : Nat) (c : Nat) : Nat := if c % 2 = 1 then (c / 2) ^^^ p else c / 2

/-- One byte into a reflected CRC register, least-significant bit first. -/
def crcByteR (p : Nat) (c : Nat) (b : Byte) : Nat :=
  (List.range 8).foldl (fun c _ => crcBitR p c) (c ^^^ b.toNat)

/-- CRC-32C of a byte sequence (R46). (log 34 PRESUMED) -/
def crc32c (l : List Byte) : Nat := l.foldl (crcByteR 0x82F63B78) 0xFFFFFFFF ^^^ 0xFFFFFFFF

/-- One bit, most-significant bit first, into a CRC register of `w` bits with polynomial `p`. -/
def crcBitM (w p : Nat) (c : Nat) (b : Bool) : Nat :=
  let top := bit c (w - 1) != b
  let c := c * 2 % 2 ^ w
  if top then c ^^^ p else c

/-- One byte, most-significant bit first. -/
def crcByteM (w p : Nat) (c : Nat) (b : Byte) : Nat :=
  ((List.range 8).map fun i => bit b.toNat (7 - i)).foldl (crcBitM w p) c

/-- CRC-16/CCITT with polynomial 0x1021 and the given initial register (Table 0-4). (log 34 PRESUMED) -/
def crc16 (init : Nat) (l : List Byte) : Nat := l.foldl (crcByteM 16 0x1021) init

/-- CRC-8 with the given polynomial, initial register and final XOR. -/
def crc8 (p init fin : Nat) (l : List Byte) : Nat := l.foldl (crcByteM 8 p) init ^^^ fin

/-! ### SHA-256 -/

/-- The first 32 fraction bits of the cube roots of the primes from 2 to 311, eight to a number, the first one highest.
-/
def shaRoots : List Nat :=
  [0x428a2f9871374491b5c0fbcfe9b5dba53956c25b59f111f1923f82a4ab1c5ed5,
   0xd807aa9812835b01243185be550c7dc372be5d7480deb1fe9bdc06a7c19bf174,
   0xe49b69c1efbe47860fc19dc6240ca1cc2de92c6f4a7484aa5cb0a9dc76f988da,
   0x983e5152a831c66db00327c8bf597fc7c6e00bf3d5a7914706ca635114292967,
   0x27b70a852e1b21384d2c6dfc53380d13650a7354766a0abb81c2c92e92722c85,
   0xa2bfe8a1a81a664bc24b8b70c76c51a3d192e819d6990624f40e3585106aa070,
   0x19a4c1161e376c082748774c34b0bcb5391c0cb34ed8aa4a5b9cca4f682e6ff3,
   0x748f82ee78a5636f84c878148cc7020890befffaa4506cebbef9a3f7c67178f2]

/-- The 32-bit parts of a 256-bit number, the highest first. -/
def eighths (n : Nat) : List (BitVec 32) := ((List.range 8).map fun i => BitVec.ofNat 32 (bits n (32 * (7 - i)) 32))

/-- The working variables a to h of SHA-256. -/
structure ShaRegs where
  a : BitVec 32
  b : BitVec 32
  c : BitVec 32
  d : BitVec 32
  e : BitVec 32
  f : BitVec 32
  g : BitVec 32
  h : BitVec 32
deriving DecidableEq, Repr

/-- The chaining value before the first block: the first 32 fraction bits of the square roots of the primes from 2 to
19. -/
def shaStart : Nat := 0x6a09e667bb67ae853c6ef372a54ff53a510e527f9b05688c1f83d9ab5be0cd19

/-- The working variables that a chaining value loads. -/
def ShaRegs.load (n : Nat) : ShaRegs :=
  let x := fun i => BitVec.ofNat 32 (bits n (32 * (7 - i)) 32)
  { a := x 0, b := x 1, c := x 2, d := x 3, e := x 4, f := x 5, g := x 6, h := x 7 }

/-- The message schedule held newest first, extended by one word. -/
def shaNext (w : List (BitVec 32)) : List (BitVec 32) :=
  let x := w.getD 14 0
  let y := w.getD 1 0
  let s0 := x.rotateRight 7 ^^^ x.rotateRight 18 ^^^ (x >>> 3)
  let s1 := y.rotateRight 17 ^^^ y.rotateRight 19 ^^^ (y >>> 10)
  (w.getD 15 0 + s0 + w.getD 6 0 + s1) :: w

/-- One round with round constant `k` and schedule word `w`. -/
def shaRound (r : ShaRegs) (kw : BitVec 32 × BitVec 32) : ShaRegs :=
  let s1 := r.e.rotateRight 6 ^^^ r.e.rotateRight 11 ^^^ r.e.rotateRight 25
  let ch := (r.e &&& r.f) ^^^ (~~~r.e &&& r.g)
  let t1 := r.h + s1 + ch + kw.1 + kw.2
  let s0 := r.a.rotateRight 2 ^^^ r.a.rotateRight 13 ^^^ r.a.rotateRight 22
  let maj := (r.a &&& r.b) ^^^ (r.a &&& r.c) ^^^ (r.b &&& r.c)
  ⟨t1 + (s0 + maj), r.a, r.b, r.c, r.d + t1, r.e, r.f, r.g⟩

/-- The 16 big-endian words of a 64-byte block. -/
def shaWords : Nat → List Byte → List (BitVec 32)
  | 0, _ => []
  | n + 1, l => BitVec.ofNat 32 (ofLe ((l.take 4).reverse)) :: shaWords n (l.drop 4)

/-- The compression of one block. -/
def shaBlock (r : ShaRegs) (l : List Byte) : ShaRegs :=
  let w := ((List.range 48).foldl (fun w _ => shaNext w) (shaWords 16 l).reverse).reverse
  let z := ((shaRoots.flatMap eighths).zip w).foldl shaRound r
  ⟨r.a + z.a, r.b + z.b, r.c + z.c, r.d + z.d, r.e + z.e, r.f + z.f, r.g + z.g, r.h + z.h⟩

/-- `n` blocks. -/
def shaBlocks : Nat → ShaRegs → List Byte → ShaRegs
  | 0, r, _ => r
  | n + 1, r, l => shaBlocks n (shaBlock r (l.take 64)) (l.drop 64)

/-- SHA-256, the digest bytes in the standard's order. (log 34 PRESUMED) -/
def sha256 (l : List Byte) : List Byte :=
  let len := l.length
  let zeros := (119 - len % 64) % 64
  let m := l ++ [0x80] ++ List.replicate zeros 0 ++ (leBytes 8 (8 * len)).reverse
  let r := shaBlocks (m.length / 64) (ShaRegs.load shaStart) m
  [r.a, r.b, r.c, r.d, r.e, r.f, r.g, r.h].flatMap fun x => (leBytes 4 x.toNat).reverse

/-! ### ECDSA over P-256 -/

def p256P : Nat := 0xffffffff00000001000000000000000000000000ffffffffffffffffffffffff
def p256N : Nat := 0xffffffff00000000ffffffffffffffffbce6faada7179e84f3b9cac2fc632551
def p256B : Nat := 0x5ac635d8aa3a93e7b3ebbd55769886bc651d06b0cc53b0f63bce3c3e27d2604b
def p256Gx : Nat := 0x6b17d1f2e12c4247f8bce6e563a440f277037d812deb33a0f4a13945d898c296
def p256Gy : Nat := 0x4fe342e2fe1a7f9b8ee7eb4a7c0f9e162bce33576b315ececbb6406837bf51f5

/-- `b` to the power `e` (of `n` bits) modulo `m`. -/
def powMod (m b e n : Nat) : Nat :=
  ((List.range n).reverse).foldl (fun a i => if bit e i then a * a % m * b % m else a * a % m) 1

/-- The inverse modulo a 256-bit prime. -/
def invMod (m a : Nat) : Nat := powMod m a (m - 2) 256

/-- A point of the curve in Jacobian coordinates; Z = 0 is the point at infinity. -/
structure JPoint where
  x : Nat
  y : Nat
  z : Nat
deriving DecidableEq, Repr

def subMod (a b : Nat) : Nat := (a + p256P - b % p256P) % p256P

/-- Doubling on a curve with a = −3. -/
def jDouble (q : JPoint) : JPoint :=
  let ysq := q.y * q.y % p256P
  let s := 4 * q.x * ysq % p256P
  let zsq := q.z * q.z % p256P
  let m := 3 * (subMod q.x zsq) * ((q.x + zsq) % p256P) % p256P
  let x := subMod (subMod (m * m % p256P) s) s
  ⟨x, subMod (m * subMod s x % p256P) (8 * ysq * ysq % p256P), 2 * q.y * q.z % p256P⟩

/-- Addition. -/
def jAdd (q r : JPoint) : JPoint :=
  if q.z = 0 then r else if r.z = 0 then q else
  let qz2 := q.z * q.z % p256P
  let rz2 := r.z * r.z % p256P
  let u1 := q.x * rz2 % p256P
  let u2 := r.x * qz2 % p256P
  let s1 := q.y * rz2 * r.z % p256P
  let s2 := r.y * qz2 * q.z % p256P
  if u1 = u2 then (if s1 = s2 then jDouble q else ⟨1, 1, 0⟩) else
  let h := subMod u2 u1
  let t := subMod s2 s1
  let h2 := h * h % p256P
  let h3 := h2 * h % p256P
  let x := subMod (subMod (subMod (t * t % p256P) h3) (u1 * h2 % p256P)) (u1 * h2 % p256P)
  ⟨x, subMod (t * subMod (u1 * h2 % p256P) x % p256P) (s1 * h3 % p256P), h * q.z % p256P * r.z % p256P⟩

/-- The multiple k·q. -/
def jMul (k : Nat) (q : JPoint) : JPoint :=
  ((List.range 256).reverse).foldl (fun a i => let d := jDouble a; if bit k i then jAdd d q else d) ⟨1, 1, 0⟩

/-- Whether (r, s) is an ECDSA signature of the digest under the public key (x, y) (R47). (log 34 PRESUMED) -/
def ecdsaVerify (x y r s : Nat) (digest : List Byte) : Bool :=
  let onCurve := y * y % p256P = (x * x % p256P * x + p256B + (p256P - 3) * x) % p256P
  if x < p256P ∧ y < p256P ∧ onCurve ∧ 1 ≤ r ∧ r < p256N ∧ 1 ≤ s ∧ s < p256N then
    let e := ofLe digest.reverse
    let w := invMod p256N s
    let q := jAdd (jMul (e * w % p256N) ⟨p256Gx, p256Gy, 1⟩) (jMul (r * w % p256N) ⟨x, y, 1⟩)
    if q.z % p256P = 0 then false
    else
      let zi := invMod p256P q.z
      q.x * (zi * zi % p256P) % p256P % p256N = r
  else false

end Sys2Proof.Machine
end

