-- ==== Sys2Proof/Machine/ImageParse.lean ====
section
/-! DEFINITION. The byte layout of a structure image (R41 to R45, Tables 3-1 to 3-15) and of a glyph image (Tables 18-1
and 18-2): reading its fields through a byte reader, and the range checks of R45 record by record. -/

namespace Sys2Proof.Machine

/-- A byte reader: the byte at an offset of a slot. -/
abbrev Reader := Nat → Byte

def u8 (rd : Reader) (o : Nat) : Nat := (rd o).toNat
def u16 (rd : Reader) (o : Nat) : Nat := u8 rd o + 256 * u8 rd (o + 1)
def u32 (rd : Reader) (o : Nat) : Nat := u16 rd o + 65536 * u16 rd (o + 2)
def u64 (rd : Reader) (o : Nat) : Nat := u32 rd o + 4294967296 * u32 rd (o + 4)

/-- The `n` bytes from offset `o`. -/
def bytesAt (rd : Reader) (o n : Nat) : List Byte := (List.range n).map fun i => rd (o + i)

/-- A reader over a list of bytes. -/
def listReader (l : List Byte) : Reader := fun i => l.getD i 0

/-- All `n` bytes from `o` are 0. -/
def zeroAt (rd : Reader) (o n : Nat) : Bool := (List.range n).all fun i => rd (o + i) == 0

/-- A section-table entry (Table 3-2) with its index. -/
structure SectEntry where
  idx : Nat
  type : Nat
  version : Nat
  count : Nat
  offset : Nat
  length : Nat
  crc : Nat
deriving DecidableEq, Repr

/-- A load error: its code (Tables 3-16, 3-17), the section-table index or 0x1F, and the record. -/
structure LoadErr where
  code : Nat
  sect : Nat
  record : Nat
deriving DecidableEq, Repr

/-- Entry `i` of the section table. -/
def sectEntry (rd : Reader) (i : Nat) : SectEntry :=
  let o := 0x80 + 16 * i
  { idx := i, type := u8 rd o, version := u8 rd (o + 1), count := u16 rd (o + 2), offset := u32 rd (o + 4),
    length := u32 rd (o + 8), crc := u32 rd (o + 12) }

/-- Record size, smallest and largest record count by section type (Table 3-3). -/
def sectShape : Nat → Option (Nat × Nat × Nat)
  | 0x01 => some (48, 1, 16)
  | 0x02 => some (32, 1, 256)
  | 0x03 => some (144, 0, 4)
  | 0x04 => some (32, 0, 64)
  | 0x05 => some (16, 0, 16)
  | 0x06 => some (16, 0, 2)
  | 0x07 => some (16, 0, 256)
  | 0x08 => some (32, 1, 1)
  | 0x09 => some (16, 0, 1)
  | 0x0A => some (16, 0, 4)
  | 0x0B => some (8, 0, 4096)
  | 0x0C => some (16, 0, 1024)
  | 0x0D => some (8, 0, 256)
  | 0x0E => some (4104, 0, 24)
  | _ => none

/-! ### Records -/

def parseTenant (rd : Reader) (o : Nat) : TenantRec :=
  { tenant := u8 rd o, portMask := u8 rd (o + 1), tagQuota := u16 rd (o + 2), creditQuota := u16 rd (o + 4),
    intPin := u8 rd (o + 6), flags := u8 rd (o + 7), regRd := ofLe (bytesAt rd (o + 0x10) 16),
    regWr := ofLe (bytesAt rd (o + 0x20) 16) }

def parseRegion (rd : Reader) (o : Nat) : RegionRec :=
  { base := u32 rd o, size := u32 rd (o + 4), owner := u8 rd (o + 8), cls := u8 rd (o + 9),
    priority := u16 rd (o + 0xA), shareRd := u16 rd (o + 0xC), shareWr := u16 rd (o + 0xE),
    flags := u16 rd (o + 0x10) }

def parseLayer (rd : Reader) (o : Nat) : LayerRec :=
  { fbBase := u32 rd o, pitch := u16 rd (o + 4), format := u8 rd (o + 6), owner := u8 rd (o + 7),
    x := u16 rd (o + 8), y := u16 rd (o + 10), w := u16 rd (o + 12), h := u16 rd (o + 14) }

/-- A CHANNEL record; its `layers` are the first LAYER_COUNT entries. -/
def parseChannel (rd : Reader) (o : Nat) : ChannelRec :=
  { channel := u8 rd o, outMode := u8 rd (o + 1), edpLanes := u8 rd (o + 2), edpRate := u8 rd (o + 3),
    pixclk := u32 rd (o + 4), hactive := u16 rd (o + 8), hfp := u16 rd (o + 0xA), hsync := u16 rd (o + 0xC),
    hbp := u16 rd (o + 0xE), vactive := u16 rd (o + 0x10), vfp := u16 rd (o + 0x12), vsync := u16 rd (o + 0x14),
    vbp := u16 rd (o + 0x16), fill := u32 rd (o + 0x18), layerCount := u8 rd (o + 0x1C), flags := u8 rd (o + 0x1D),
    bkl := u8 rd (o + 0x1E), bklDelay := u16 rd (o + 0x20), bklSettle := u16 rd (o + 0x22),
    railMask := u16 rd (o + 0x24),
    layers := (List.range (min 6 (u8 rd (o + 0x1C)))).map fun n => parseLayer rd (o + 0x30 + 16 * n) }

def parseTelltale (rd : Reader) (o : Nat) : TelltaleRec :=
  { index := u8 rd o, channel := u8 rd (o + 1), methods := u8 rd (o + 2), flags := u8 rd (o + 3),
    glyph := u16 rd (o + 4), variants := u8 rd (o + 6), pd := u8 rd (o + 7), x := u16 rd (o + 8),
    y := u16 rd (o + 10), led := u8 rd (o + 0xC), ledCurrent := u16 rd (o + 0xE),
    expCrc := (List.range 4).map fun v => u32 rd (o + 0x10 + 4 * v) }

def parseRail (rd : Reader) (o : Nat) : RailRec :=
  { slot := u8 rd o, upOrder := u8 rd (o + 1), downOrder := u8 rd (o + 2), senseKind := u8 rd (o + 3),
    sense := u8 rd (o + 4), dis := u8 rd (o + 5), riseWindow := u16 rd (o + 6), vLo := u16 rd (o + 8),
    vHi := u16 rd (o + 0xA), delay := u16 rd (o + 0xC), disTimeout := u16 rd (o + 0xE) }

def parseCanctl (rd : Reader) (o : Nat) : CanctlRec :=
  { ctrl := u8 rd o, flags := u8 rd (o + 1), nbrp := u16 rd (o + 2), ntseg1 := u8 rd (o + 4),
    ntseg2 := u8 rd (o + 5), nsjw := u8 rd (o + 6), dbrp := u8 rd (o + 7), dtseg1 := u8 rd (o + 8),
    dtseg2 := u8 rd (o + 9), dsjw := u8 rd (o + 10), tdco := u8 rd (o + 11), presenceId := u32 rd (o + 0xC) }

def parseCanmap (rd : Reader) (o : Nat) : CanmapRec :=
  { id := u32 rd o, ctrl := u8 rd (o + 4), byte := u8 rd (o + 5), bit := u8 rd (o + 6), width := u8 rd (o + 7),
    tt := u8 rd (o + 8), onValue := u8 rd (o + 9), srcTimeout := u16 rd (o + 0xA) }

def parseLadder (rd : Reader) (o : Nat) : LadderRec :=
  { deepest := u8 rd o, wakeP5 := u16 rd (o + 2), holdCap := u32 rd (o + 4), vholdMin := u16 rd (o + 8),
    vholdMax := u16 rd (o + 0xA), restorePace := u16 rd (o + 0xC), autoP1 := u32 rd (o + 0x10),
    autoP2 := u32 rd (o + 0x14) }

def parseFlock (rd : Reader) (o : Nat) : FlockRec :=
  { members := u8 rd o, ports := u8 rd (o + 1), maxRev := u16 rd (o + 2), flockId := u64 rd (o + 8) }

def parseLink (rd : Reader) (o : Nat) : LinkRec :=
  { port := u8 rd o, lanes := u8 rd (o + 1), rate := u8 rd (o + 2), flags := u8 rd (o + 3),
    ackTimer := u16 rd (o + 4), replayTimer := u16 rd (o + 6), creditTimeout := u16 rd (o + 8),
    poolMin := u16 rd (o + 0xA) }

def parseTrim (rd : Reader) (o : Nat) : TrimRec := { addr := u32 rd o, value := u32 rd (o + 4) }

def parseBound (rd : Reader) (o : Nat) : BoundRec :=
  { addr := u32 rd o, lsb := u8 rd (o + 4), width := u8 rd (o + 5), writers := u16 rd (o + 6), min := u32 rd (o + 8),
    max := u32 rd (o + 0xC) }

def parseFault (rd : Reader) (o : Nat) : FaultRec :=
  { source := u16 rd o, reaction := u8 rd (o + 2), param := u32 rd (o + 4) }

def parsePalette (rd : Reader) (o : Nat) : PaletteRec :=
  { channel := u8 rd o, layer := u8 rd (o + 1), entries := u16 rd (o + 2),
    data := (List.range (min 1024 (u16 rd (o + 2)))).map fun i => u32 rd (o + 8 + 4 * i) }

/-- The records of the section of type `t`, in section order. -/
def records (rd : Reader) (tab : List SectEntry) (t size : Nat) (parse : Reader → Nat → α) : List α :=
  match tab.find? (fun e => e.type = t) with
  | none => []
  | some e => (List.range e.count).map fun i => parse rd (e.offset + size * i)

/-- The section table. -/
def sectTable (rd : Reader) : List SectEntry := (List.range (min 14 (u16 rd 0x0C))).map (sectEntry rd)

/-- The decoded image. -/
def parseImage (rd : Reader) : Image :=
  let t := sectTable rd
  let len := u32 rd 0x08
  { version := u32 rd 0x10, len := len, glyphHash := bytesAt rd 0x20 32, digest := sha256 (bytesAt rd 0 (len - 64)),
    tenants := records rd t 0x01 48 parseTenant, regions := records rd t 0x02 32 parseRegion,
    channels := records rd t 0x03 144 parseChannel, telltales := records rd t 0x04 32 parseTelltale,
    rails := records rd t 0x05 16 parseRail, canctls := records rd t 0x06 16 parseCanctl,
    canmaps := records rd t 0x07 16 parseCanmap, ladder := (records rd t 0x08 32 parseLadder).head?,
    flock := (records rd t 0x09 16 parseFlock).head?, links := records rd t 0x0A 16 parseLink,
    trims := records rd t 0x0B 8 parseTrim, bounds := records rd t 0x0C 16 parseBound,
    faults := records rd t 0x0D 8 parseFault, palettes := records rd t 0x0E 4104 parsePalette }

/-! ### Fault classes (Tables 22-2 and 22-3) -/

/-- Default class and floor of a fault source; none for an unassigned number. A fixed source has its default as
floor and as ceiling (`faultFixed`). Classes: 0 RECORD, 1 NOTIFY, 2 CHANNEL, 3 SAFE, 4 RESET. -/
def faultSource (n : Nat) : Option (Nat × Nat) :=
  if n ≤ 3 then some (3, 3)
  else if n ≤ 11 then some (2, 1)
  else if n ≤ 13 then none
  else if n ≤ 18 then some (1, 0)
  else if n = 19 then some (1, 1)
  else if n = 22 ∨ n = 23 then some (1, 0)
  else if n = 25 then some (1, 0)
  else if 26 ≤ n ∧ n ≤ 29 then some (1, 1)
  else if n = 30 then some (1, 0)
  else if n = 31 then some (1, 1)
  else if 32 ≤ n ∧ n ≤ 47 then some (2, 1)
  else if n = 48 then some (3, 3)
  else if n = 49 then some (3, 1)
  else if 50 ≤ n ∧ n ≤ 53 then some (0, 0)
  else if 54 ≤ n ∧ n ≤ 57 then some (1, 0)
  else if 58 ≤ n ∧ n ≤ 65 then some (0, 0)
  else if 66 ≤ n ∧ n ≤ 69 then some (1, 1)
  else if n = 70 then some (1, 1)
  else if n = 71 then some (0, 0)
  else if n = 72 then some (1, 1)
  else if n = 73 then some (0, 0)
  else if 74 ≤ n ∧ n ≤ 77 then some (1, 1)
  else if n = 78 ∨ n = 79 ∨ n = 80 then some (1, 0)
  else if n = 81 then some (4, 4)
  else if n = 82 then some (0, 0)
  else none

/-- The sources whose class no image may change (Table 22-3, "fixed"). -/
def faultFixed (n : Nat) : Bool := n ≤ 3 || n == 81

/-! ### Range checks of R45, with R347, R370, R402, R453 and R467 where they name load error FIELD -/

/-- `v` is one of the listed range [0, hi] or 0xFF for "none". -/
def upToOrNone (v hi : Nat) : Bool := v ≤ hi || v == 0xFF

def within (lo v hi : Nat) : Bool := lo ≤ v && v ≤ hi

def tenantOk (rd : Reader) (o : Nat) : Bool :=
  let r := parseTenant rd o
  r.tenant ≤ 15 && r.portMask ≤ 3 && r.tagQuota ≤ 512 && r.creditQuota ≤ 1024 && upToOrNone r.intPin 3 &&
    r.flags ≤ 3 && zeroAt rd (o + 8) 8

def regionOk (rd : Reader) (o : Nat) : Bool :=
  let r := parseRegion rd o
  r.base % 0x10000 == 0 && r.size % 0x10000 == 0 && r.owner ≤ 15 && r.cls ≤ 2 && r.flags ≤ 3 &&
    zeroAt rd (o + 0x12) 14

def layerOk (l : LayerRec) : Bool := within 1 l.format 7 && l.owner ≤ 15

def channelOk (rd : Reader) (o : Nat) : Bool :=
  let r := parseChannel rd o
  let edp := if r.outMode = 0 then (r.edpLanes == 1 || r.edpLanes == 2 || r.edpLanes == 4) && r.edpRate ≤ 3
    else r.edpLanes == 0 && r.edpRate == 0
  let lvds := r.outMode == 0 || (r.hactive % 2 == 0 && r.hfp % 2 == 0 && r.hsync % 2 == 0 && r.hbp % 2 == 0)
  r.channel ≤ 3 && r.outMode ≤ 2 && edp && lvds && within 1 r.pixclk 400000 && within 1 r.hactive 3840 &&
    within 1 r.vactive 1440 && 1 ≤ r.hsync && 1 ≤ r.vsync && 32 ≤ r.hfp + r.hsync + r.hbp &&
    2 ≤ r.vfp + r.vsync + r.vbp && r.fill < 2 ^ 30 && r.layerCount ≤ 6 && r.flags ≤ 7 && upToOrNone r.bkl 3 &&
    r.bklDelay ≤ 1000 && r.bklSettle ≤ 1000 && zeroAt rd (o + 0x1F) 1 && zeroAt rd (o + 0x26) 10 &&
    r.layers.all layerOk && zeroAt rd (o + 0x30 + 16 * r.layerCount) (16 * (6 - r.layerCount))

def telltaleOk (rd : Reader) (o : Nat) : Bool :=
  let r := parseTelltale rd o
  r.index ≤ 63 && upToOrNone r.channel 3 && within 1 r.methods 15 && r.flags ≤ 7 && within 1 r.variants 4 &&
    upToOrNone r.pd 7 && upToOrNone r.led 31 && zeroAt rd (o + 0xD) 1 && r.ledCurrent ≤ 1023 &&
    (r.expCrc.drop r.variants).all (· == 0)

def railOk (rd : Reader) (o : Nat) : Bool :=
  let r := parseRail rd o
  r.slot ≤ 15 && r.upOrder ≤ 15 && r.downOrder ≤ 15 && r.senseKind ≤ 1 &&
    r.sense ≤ (if r.senseKind = 0 then 31 else 15) && upToOrNone r.dis 7 && within 1 r.riseWindow 10000 &&
    (r.senseKind == 1 || (r.vLo ≤ 1023 && r.vHi ≤ 1023 && r.vLo < r.vHi)) && r.delay ≤ 10000 &&
    within 1 r.disTimeout 10000

/-- An identifier of CANCTL or CANMAP: bits 30:29 reserved, a standard one at most 0x7FF (R402). -/
def canIdOk (id : Nat) : Bool := bits id 29 2 == 0 && (bit id 31 || bits id 0 29 ≤ 0x7FF)

def canctlOk (rd : Reader) (o : Nat) : Bool :=
  let r := parseCanctl rd o
  let nq := r.nbrp * (1 + r.ntseg1 + r.ntseg2)
  let dq := r.dbrp * (1 + r.dtseg1 + r.dtseg2)
  r.ctrl ≤ 1 && r.flags ≤ 7 && (bit r.flags 0 || !bit r.flags 1) && within 1 r.nbrp 1024 && within 2 r.ntseg1 255 &&
    within 1 r.ntseg2 128 && within 1 r.nsjw r.ntseg2 && 80 ≤ nq &&
    (if bit r.flags 1 then within 1 r.dbrp 32 && within 1 r.dtseg1 32 && within 1 r.dtseg2 16 &&
        within 1 r.dsjw r.dtseg2 && r.tdco ≤ 127 && 10 ≤ dq && dq ≤ nq
      else r.dbrp == 0 && r.dtseg1 == 0 && r.dtseg2 == 0 && r.dsjw == 0 && r.tdco == 0) &&
    canIdOk r.presenceId

def canmapOk (ctls : List CanctlRec) (rd : Reader) (o : Nat) : Bool :=
  let r := parseCanmap rd o
  canIdOk r.id && r.ctrl ≤ 1 && r.byte ≤ 63 && r.bit ≤ 7 && within 1 r.width 8 && r.bit + r.width ≤ 8 && r.tt ≤ 63 &&
    r.onValue < 2 ^ r.width && within 1 r.srcTimeout 10000 && zeroAt rd (o + 0xC) 4 &&
    (r.byte ≤ 7 || ctls.all fun c => c.ctrl != r.ctrl || bit c.flags 0)

def ladderOk (rd : Reader) (o : Nat) : Bool :=
  let r := parseLadder rd o
  r.deepest ≤ 6 && zeroAt rd (o + 1) 1 && r.wakeP5 ≤ 0xFF && r.restorePace ≤ 16384 && zeroAt rd (o + 0xE) 2 &&
    zeroAt rd (o + 0x18) 8

def flockOk (rd : Reader) (o : Nat) : Bool :=
  let r := parseFlock rd o
  within 1 r.members 4 && r.ports ≤ 3 && r.maxRev != 0 && (r.members == 1 || r.ports != 0) && zeroAt rd (o + 4) 4 &&
    r.flockId != 0

/-- A LINK record (Table 3-13): LANES of an Ihlov port from 1 to 4, 3 among them. (log 42 DESIGN CHOICE) -/
def linkOk (rd : Reader) (o : Nat) : Bool :=
  let r := parseLink rd o
  r.port ≤ 3 && (if r.port ≤ 1 then within 1 r.lanes 4 else r.lanes == 2) && r.rate ≤ 4 && r.flags ≤ 3 &&
    within 1 r.ackTimer 32 && within 1 r.replayTimer 1000 && within 1 r.creditTimeout 10000 &&
    within 16 r.poolMin 256 && zeroAt rd (o + 0xC) 4

def boundOk (rd : Reader) (o : Nat) : Bool :=
  let r := parseBound rd o
  r.lsb ≤ 31 && within 1 r.width 32 && r.lsb + r.width ≤ 32 && r.min ≤ r.max

/-- R467; the records before this one are `prev`. -/
def faultOk (prev : List FaultRec) (rd : Reader) (o : Nat) : Bool :=
  let r := parseFault rd o
  zeroAt rd (o + 3) 1 && prev.all (fun p => p.source != r.source) && (r.reaction == 2 || r.param == 0) &&
    r.param ≤ 0xF &&
    match faultSource r.source with
    | none => false
    | some (d, fl) => fl ≤ r.reaction && r.reaction ≤ 4 && (!faultFixed r.source || r.reaction == d)

/-- Table 3-15 and R347; `prev` are the PALETTE records before this one. -/
def paletteOk (chs : List ChannelRec) (prev : List (Nat × Nat)) (rd : Reader) (o : Nat) : Bool :=
  let ch := u8 rd o
  let ly := u8 rd (o + 1)
  let n := u16 rd (o + 2)
  ch ≤ 3 && ly ≤ 5 && within 1 n 1024 && zeroAt rd (o + 4) 4 && zeroAt rd (o + 8 + 4 * n) (4096 - 4 * n) &&
    !prev.contains (ch, ly) &&
    match chs.find? (fun c => c.channel = ch) with
    | none => false
    | some c =>
      match c.layers[ly]? with
      | none => false
      | some l => l.format == 6 || l.format == 7

/-- Whether record `i` of section `e` obeys R45. -/
def recordOk (rd : Reader) (img : Image) (e : SectEntry) (i : Nat) : Bool :=
  let at_ := fun (size : Nat) => e.offset + size * i
  match e.type with
  | 0x01 => tenantOk rd (at_ 48)
  | 0x02 => regionOk rd (at_ 32)
  | 0x03 => channelOk rd (at_ 144)
  | 0x04 => telltaleOk rd (at_ 32)
  | 0x05 => railOk rd (at_ 16)
  | 0x06 => canctlOk rd (at_ 16) && (img.canctls.take i).all fun c => c.ctrl != u8 rd (at_ 16)
  | 0x07 => canmapOk img.canctls rd (at_ 16)
  | 0x08 => ladderOk rd (at_ 32)
  | 0x09 => flockOk rd (at_ 16)
  | 0x0A => linkOk rd (at_ 16)
  | 0x0C => boundOk rd (at_ 16)
  | 0x0D => faultOk (img.faults.take i) rd (at_ 8)
  | 0x0E => paletteOk img.channels ((img.palettes.take i).map fun p => (p.channel, p.layer)) rd (at_ 4104)
  | _ => true

/-! ### Glyph images (Tables 18-1 and 18-2) -/

structure GlyphEntry where
  offset : Nat
  w : Nat
  h : Nat
  opaq : Nat
  colours : List Nat
deriving DecidableEq, Repr

/-- Directory entry `g`; its twelve colours are in the order of Table 18-2 (variant, then index). -/
def glyphEntry (rd : Reader) (g : Nat) : GlyphEntry :=
  let o := 0x40 + 64 * g
  { offset := u32 rd o, w := u16 rd (o + 4), h := u16 rd (o + 6), opaq := u32 rd (o + 8),
    colours := (List.range 12).map fun i => u32 rd (o + 0x10 + 4 * i) }

/-- Bytes of one bitmap row. -/
def glyphRow (w : Nat) : Nat := 4 * ((w + 15) / 16)

/-- The 2-bit index of pixel (x, y). -/
def glyphPixel (rd : Reader) (e : GlyphEntry) (x y : Nat) : Nat :=
  bits (u8 rd (e.offset + y * glyphRow e.w + x / 4)) (2 * (x % 4)) 2

/-- The opaque pixels (x, y, index) of a glyph in raster order. -/
def glyphOpaque (rd : Reader) (e : GlyphEntry) : List (Nat × Nat × Nat) :=
  (List.range e.h).flatMap fun y =>
    ((List.range e.w).map fun x => (x, y, glyphPixel rd e x y)).filter fun p => p.2.2 != 0

def glyphCount (rd : Reader) : Nat := u16 rd 6

def glyphLen (rd : Reader) : Nat := u32 rd 8

/-- The header checks of R378 and Table 18-1. -/
def glyphHeaderOk (rd : Reader) : Bool :=
  bytesAt rd 0 4 == [0x43, 0x52, 0x47, 0x4C] && u8 rd 4 == 1 && zeroAt rd 5 1 && zeroAt rd 0xC 48 &&
    u32 rd 0x3C == crc32c (bytesAt rd 0 0x3C) && within 1 (glyphCount rd) 1024 && glyphLen rd % 64 == 0 &&
    within (0x40 + 64 * glyphCount rd) (glyphLen rd) 2097152

/-- The checks of R378 on directory entry `g`. -/
def glyphEntryOk (rd : Reader) (g : Nat) : Bool :=
  let e := glyphEntry rd g
  zeroAt rd (0x40 + 64 * g + 0xC) 4 && e.offset % 4 == 0 && within 1 e.w 256 && within 1 e.h 256 &&
    e.offset + e.h * glyphRow e.w ≤ glyphLen rd && (glyphOpaque rd e).length == e.opaq &&
    e.colours.all fun c => (List.range 3).all fun k => within 16 (bits c (10 * k) 10) 1007

end Sys2Proof.Machine
end

