-- ==== Sys2Proof/Machine/ImageCheck.lean ====
section
/-! DEFINITION. What an image puts into the registers (R49), the bounds test of R51, and the verification of an image
(R48, Tables 3-16 and 3-17). -/

namespace Sys2Proof.Machine

/-! ### Values in force from OTP HOLD and LADDER (R50, R494) -/

/-- The smaller of two declared values; 0 is "not declared". -/
def declMin (a b : Nat) : Nat := if a = 0 then b else if b = 0 then a else min a b

/-- The larger of two declared values; 0 is "not declared". -/
def declMax (a b : Nat) : Nat := max a b

/-- Hold-up capacitance in nF. -/
def holdCapOf (f : OtpForce) (l : Option LadderRec) : Nat := declMin f.holdCap ((l.map (·.holdCap)).getD 0)

/-- VHOLD_MIN in mV. -/
def vholdMinOf (f : OtpForce) (l : Option LadderRec) : Nat := declMax f.vholdMin ((l.map (·.vholdMin)).getD 0)

/-- VHOLD_MAX in mV: 19,000 where neither declares it. -/
def vholdMaxOf (f : OtpForce) (l : Option LadderRec) : Nat :=
  let v := declMin f.vholdMax ((l.map (·.vholdMax)).getD 0)
  if v = 0 then 19000 else v

/-! ### R49 -/

/-- One field set by the device: address, lowest bit, width, value. -/
structure Setting where
  addr : Nat
  lsb : Nat
  width : Nat
  value : Nat
deriving DecidableEq, Repr

/-- Units of 64 KiB of the enabled regions of class `c`. -/
def classUnits (rs : List RegionRec) (c : Nat) : Nat :=
  ((rs.filter fun r => r.cls = c).map fun r => r.size / 0x10000).sum

/-- First tag of tenant `t`: the TAG_QUOTA of all lower-numbered tenants (15, Tags). -/
def tagBase (ts : List TenantRec) (t : Nat) : Nat := ((ts.filter fun r => r.tenant < t).map (·.tagQuota)).sum

def tenantSettings (ts : List TenantRec) : List Setting :=
  ts.flatMap fun r =>
    [⟨TEN_TAG r.tenant, 0, 9, tagBase ts r.tenant⟩, ⟨TEN_TAG r.tenant, 16, 10, r.tagQuota⟩,
     ⟨TEN_CFG r.tenant, 0, 2, r.portMask⟩, ⟨TEN_CFG r.tenant, 4, 3, if r.intPin = 0xFF then 7 else r.intPin⟩,
     ⟨TEN_CFG r.tenant, 8, 2, r.flags⟩, ⟨TEN_CFG r.tenant, 16, 11, r.creditQuota⟩]

def regionSettings (rs : List RegionRec) : List Setting :=
  [⟨MEM_STAT, 8, 9, (rs.filter fun r => r.size ≠ 0).length⟩, ⟨MEM_CLASS_A, 0, 11, classUnits rs 0⟩,
   ⟨MEM_CLASS_B, 0, 11, classUnits rs 1⟩, ⟨MEM_CLASS_C, 0, 11, classUnits rs 2⟩]

def layerSettings (n m : Nat) (l : LayerRec) : List Setting :=
  [⟨CH_L_CTRL n m, 0, 1, 1⟩, ⟨CH_L_CTRL n m, 16, 10, 1023⟩, ⟨CH_L_BASE n m, 0, 32, l.fbBase⟩,
   ⟨CH_L_POS n m, 0, 16, l.x⟩, ⟨CH_L_POS n m, 16, 16, l.y⟩, ⟨CH_L_SIZE n m, 0, 16, l.w⟩,
   ⟨CH_L_SIZE n m, 16, 16, l.h⟩, ⟨CH_L_INFO n m, 0, 8, l.format⟩, ⟨CH_L_INFO n m, 8, 4, l.owner⟩,
   ⟨CH_L_INFO n m, 16, 16, l.pitch⟩]

def hTotal (c : ChannelRec) : Nat := c.hactive + c.hfp + c.hsync + c.hbp

def vTotal (c : ChannelRec) : Nat := c.vactive + c.vfp + c.vsync + c.vbp

def channelSettings (c : ChannelRec) : List Setting :=
  [⟨CH_CTRL c.channel, 0, 1, 1⟩, ⟨CH_FILL c.channel, 0, 30, c.fill⟩, ⟨CH_TOTAL c.channel, 0, 16, hTotal c⟩,
   ⟨CH_TOTAL c.channel, 16, 16, vTotal c⟩] ++
  (c.layers.zipIdx.flatMap fun e => layerSettings c.channel e.2 e.1)

/-- A device has duty for tell-tale `j` (21, Members): all of them without a flock of two or more, else those of its
rank. Records outside its duty count as absent. (log 41 DEDUCED) -/
def hasDuty (rank : Nat) (fl : Option FlockRec) (j : Nat) : Bool := !(fl.any fun r => 2 ≤ r.members) || j / 16 == rank

/-- Reading or choice: log 41 DEDUCED -/
def telltaleSettings (r : TelltaleRec) : List Setting :=
  (if r.led = 0xFF then [] else [⟨LED_CUR r.led, 0, 10, r.ledCurrent⟩]) ++
  (List.range 4).map fun m => ⟨TT_S r.index, 8 + 2 * m, 2, b2n (bit r.methods m)⟩

def canctlSettings (r : CanctlRec) : List Setting :=
  [⟨CAN_BTN r.ctrl, 0, 10, r.nbrp - 1⟩, ⟨CAN_BTN r.ctrl, 10, 8, r.ntseg1 - 1⟩, ⟨CAN_BTN r.ctrl, 18, 7, r.ntseg2 - 1⟩,
   ⟨CAN_BTN r.ctrl, 25, 7, r.nsjw - 1⟩] ++
  (if bit r.flags 1 then
    [⟨CAN_BTD r.ctrl, 0, 5, r.dbrp - 1⟩, ⟨CAN_BTD r.ctrl, 5, 5, r.dtseg1 - 1⟩, ⟨CAN_BTD r.ctrl, 10, 4, r.dtseg2 - 1⟩,
     ⟨CAN_BTD r.ctrl, 14, 4, r.dsjw - 1⟩, ⟨CAN_BTD r.ctrl, 18, 7, r.tdco⟩]
  else [])

def ladderSettings (f : OtpForce) (l : Option LadderRec) : List Setting :=
  match l with
  | none => []
  | some r =>
    [⟨STO_PACE, 0, 16, r.restorePace⟩, ⟨STO_HOLD, 0, 32, holdCapOf f l⟩, ⟨STO_VLIM, 0, 16, vholdMinOf f l⟩,
     ⟨STO_VLIM, 16, 16, vholdMaxOf f l⟩, ⟨PWR_AUTO_P1, 0, 32, r.autoP1⟩, ⟨PWR_AUTO_P2, 0, 32, r.autoP2⟩,
     ⟨PWR_DEEPEST, 0, 3, r.deepest⟩, ⟨PWR_WAKE_EN, 0, 8, r.wakeP5⟩]

def linkSettings (r : LinkRec) : List Setting :=
  [⟨LNK_CFG0 r.port, 0, 6, r.ackTimer⟩, ⟨LNK_CFG0 r.port, 16, 10, r.replayTimer⟩,
   ⟨LNK_CFG1 r.port, 0, 14, r.creditTimeout⟩, ⟨LNK_CFG1 r.port, 16, 9, r.poolMin⟩,
   ⟨LNK_STAT r.port, 2, 1, bits r.flags 0 1⟩, ⟨LNK_STAT r.port, 3, 1, bits r.flags 1 1⟩]

/-- Every register field that applying the sections sets, before the TRIM records (R49). -/
def imageSettings (f : OtpForce) (img : Image) : List Setting :=
  [⟨STR_VER, 0, 32, img.version⟩, ⟨STR_LEN, 0, 32, img.len⟩] ++
  ((List.range 8).map fun k => ⟨STR_HASH k, 0, 32, ofLe ((img.digest.drop (4 * k)).take 4)⟩) ++
  tenantSettings img.tenants ++ regionSettings img.regions ++ img.channels.flatMap channelSettings ++
  (img.telltales.filter fun r => hasDuty f.rank img.flock r.index).flatMap telltaleSettings ++ img.canctls.flatMap canctlSettings ++ ladderSettings f img.ladder ++
  img.links.flatMap linkSettings

/-- A register table with one field set. -/
def applySetting (t : Tab Word) (x : Setting) : Tab Word :=
  tset (regReset x.addr) t x.addr
    (BitVec.ofNat 32 (putBits (tget (regReset x.addr) t x.addr).toNat x.lsb x.width x.value))

/-! ### R51 -/

/-- The BOUND record that covers the field of `a` whose lowest bit is `lsb`. -/
def boundOf (bs : List BoundRec) (a lsb : Nat) : Option BoundRec := bs.find? fun b => b.addr = a ∧ b.lsb = lsb

/-- Why a field may not take value `v` (STR_BERR_INFO.REASON); `who` is the writing tenant, none for TRIM (R54).
DITHER 3 of CH_CTRL is refused whatever the bounds say (16, registers). (log 38 DEDUCED) -/
def fieldReason (bs : List BoundRec) (who : Option Nat) (a : Nat) (f : Field) (v : Nat) : Option Nat :=
  match boundOf bs a f.lsb with
  | none => some 1
  | some b =>
    if (who.any fun t => !bit b.writers t) then some 2
    else if v < b.min then some 3
    else if b.max < v then some 4
    else if blockOf a / 4 = 8 ∧ a % 0x10000 = 0 ∧ f.lsb = 4 ∧ v = 3 then some 4
    else none

/-- The first RB field, lowest bit first, that a write of `new` over `old` may not change: its lowest bit and the
reason (R51). (log 38 DEDUCED) -/
def rbReject (bs : List BoundRec) (who : Option Nat) (a : Nat) (old new : Word) : Option (Nat × Nat) :=
  (regFields a).findSome? fun f =>
    if f.acc = .rb ∧ bits old.toNat f.lsb f.width ≠ bits new.toNat f.lsb f.width then
      (fieldReason bs who a f (bits new.toNat f.lsb f.width)).map fun r => (f.lsb, r)
    else none

/-- Whether a TRIM write changes only RB fields: no RW, WO or W1S field changes, no SC action starts, no W1C bit
clears. (log 39 DEDUCED) -/
def trimOnlyRb (a : Nat) (old new : Word) : Bool :=
  (regFields a).all fun f =>
    let o := bits old.toNat f.lsb f.width
    let n := bits new.toNat f.lsb f.width
    match f.acc with
    | .rw => o == n
    | .wo => o == n
    | .sc => n == 0
    | .w1c => o &&& n == 0
    | .w1s => n == o || n == 0
    | _ => true

/-- The register table after the device's own write of `w` to `a` (R49): a write of CH_PAL_A advances CH_PAL_IDX.INDEX
(R344); the entry it puts into the shadow palette gives way to the PALETTE records at the channel's start (R357).
(log 39 DEDUCED) -/
def trimReg (t : Tab Word) (a : Nat) (w : Word) : Tab Word :=
  let t := tset (regReset a) t a (plainWrite a (tget (regReset a) t a) w)
  if blockOf a / 4 = 8 ∧ a % 0x10000 = 0x208 then
    let i := (tget 0 t (a - 8)).toNat
    tset 0 t (a - 8) (BitVec.ofNat 32 (putBits i 0 10 (i + 1)))
  else t

/-- Step 15, TRIM: the index of the first record that fails (Table 3-17). (log 39 DEDUCED) -/
def trimCheck (bs : List BoundRec) : Tab Word → Nat → List TrimRec → Option Nat
  | _, _, [] => none
  | t, i, r :: rs =>
    let old := tget (regReset r.addr) t r.addr
    let new := BitVec.ofNat 32 r.value
    if trimOnlyRb r.addr old new && (rbReject bs none r.addr old new).isNone then
      trimCheck bs (trimReg t r.addr new) (i + 1) rs
    else some i

/-! ### Verification -/

/-- The index of the first element that fails. -/
def firstBad (p : α → Bool) (l : List α) : Option Nat := l.findIdx? fun x => !p x

/-- The index of the first element equal to an earlier one. -/
def firstDup (l : List Nat) : Option Nat :=
  (List.range l.length).find? fun i => (l.take i).contains (l.getD i 0)

/-- The index at which the running sum first exceeds the limit. -/
def firstOver (limit : Nat) (l : List Nat) : Option Nat :=
  (List.range l.length).find? fun i => limit < (l.take (i + 1)).sum

/-- Section-table index of type `t`, 0x1F if absent. -/
def sectIdx (tab : List SectEntry) (t : Nat) : Nat := ((tab.find? fun e => e.type = t).map (·.idx)).getD 0x1F

/-- An error in the section of type `t`. -/
def errIn (tab : List SectEntry) (code t : Nat) (i : Option Nat) : Option LoadErr :=
  i.map fun r => ⟨code, sectIdx tab t, r⟩

/-- R43 and Table 3-3 for entry `e` of the table `tab`. -/
def entryOk (tab : List SectEntry) (imageLen : Nat) (e : SectEntry) : Bool :=
  match sectShape e.type with
  | none => false
  | some (size, lo, hi) =>
    e.version == 1 && within lo e.count hi && e.length == e.count * size &&
      (tab.take e.idx).all (fun x => x.type != e.type) &&
      (e.count == 0 ||
        (e.offset % 64 == 0 && 0x80 + 16 * tab.length ≤ e.offset && e.offset + e.length ≤ imageLen - 128 &&
          (tab.take e.idx).all fun x => x.count == 0 || x.offset + x.length ≤ e.offset || e.offset + e.length ≤ x.offset))

/-- The lifecycle state and key in force (04), and the HOLD values. -/
def keyOk (f : OtpForce) (rd : Reader) (len : Nat) : Bool :=
  match f.life, f.keyHash with
  | 3, _ => false
  | _, some k => sha256 (bytesAt rd (len - 128) 64) == k
  | 2, none => false
  | _, none => true

/-- The signature check of R47. -/
def signatureOk (rd : Reader) (len : Nat) (digest : List Byte) : Bool :=
  let t := len - 128
  let n := fun o => ofLe (bytesAt rd (t + o) 32)
  ecdsaVerify (n 0) (n 0x20) (n 0x40) (n 0x60) digest

/-- Bytes per pixel (Table 16-2). -/
def bppOf (format : Nat) : Nat := if format = 6 then 1 else if format = 5 ∨ format = 7 then 2 else 4

/-- A sum of fractions as one fraction. -/
def fracSum (l : List (Nat × Nat)) : Nat × Nat := l.foldl (fun a b => (a.1 * b.2 + b.1 * a.2, a.2 * b.2)) (0, 1)

/-- Layer demand in kilobytes per second, as a fraction (R342). -/
def layerDemand (c : ChannelRec) (w h pitch format : Nat) : Nat × Nat :=
  if w = 0 ∨ h = 0 ∨ pitch = 0 then (0, 1) else (w * bppOf format * c.pixclk, hTotal c)

/-- At most 24 GB/s (R342). -/
def fetchOk (l : List (Nat × Nat)) : Bool := (fracSum l).1 ≤ 24000000 * (fracSum l).2

/-- Link rate in kb/s by rate code (R370). -/
def edpRateKbps (r : Nat) : Nat := [1620000, 2700000, 5400000, 8100000].getD r 0

/-- eDP payload and LVDS link clock (R370). -/
def outputFits (c : ChannelRec) : Bool :=
  if c.outMode = 0 then c.pixclk * 30 * 1000 ≤ 776 * c.edpLanes * edpRateKbps c.edpRate
  else within 20000 c.pixclk 224000

/-- Region `r` may be read by tenant `t` (R104). -/
def regionReads (r : RegionRec) (t : Nat) : Bool := r.owner == t || bit r.shareRd t

/-- The footprint of a layer lies inside one enabled scan-out-source region that its owner may read (R345). -/
def layerPlaced (rs : List RegionRec) (base w h pitch format owner : Nat) : Bool :=
  w == 0 || h == 0 || pitch == 0 ||
  rs.any fun r => r.size != 0 && bit r.flags 0 && regionReads r owner && r.base ≤ base &&
    base + pitch * (h - 1) + w * bppOf format ≤ r.base + r.size

/-- The tell-tale checks of Table 3-17 on record `i`, with the last sentence of R394. -/
def telltalePlaced (img : Image) (i : Nat) : Bool :=
  match img.telltales[i]? with
  | none => true
  | some r =>
    let ch := img.channels.find? fun c => c.channel = r.channel
    let prev := img.telltales.take i
    (r.channel == 0xFF || ch.isSome) && (r.channel != 0xFF || r.methods &&& 7 == 0) &&
      (!bit r.methods 1 || ch.any fun c => c.outMode == 0) && (!bit r.methods 2 || r.pd != 0xFF) &&
      (!bit r.methods 3 || (r.led != 0xFF && r.ledCurrent != 0)) &&
      (r.pd == 0xFF || prev.all fun p => p.pd != r.pd) && (r.led == 0xFF || prev.all fun p => p.led != r.led) &&
      (r.channel == 0xFF || img.glyphHash.any (· != 0))

/-- Steps 12 and 13 of Table 3-16: the first failing check, in the order of Table 3-17, with R402 (RESOURCE), R428 and
R370. (log 36 DEDUCED) -/
def crossChecks (f : OtpForce) (tab : List SectEntry) (img : Image) : List (Option LoadErr) :=
  let has := fun t => tab.any fun e => e.type == t
  let poolMin := fun p => ((img.links.find? fun l => l.port = p).map (·.poolMin)).getD 64
  let credits := fun p => img.tenants.map fun r => if bit r.portMask p then r.creditQuota else 0
  let live := img.regions.filter fun r => r.size ≠ 0
  let ids := fun c => (img.canmaps.filter fun m => m.ctrl = c).map (·.id)
  [ if has 1 && has 2 && has 8 then none else some ⟨0x0E, 0x1F, 0⟩,
    if img.tenants.any (fun r => r.tenant = 0) then none else some ⟨0x0E, sectIdx tab 1, 0⟩,
    if img.telltales.isEmpty || img.tenants.any (fun r => r.tenant = 1) then none else some ⟨0x0E, sectIdx tab 1, 0⟩,
    errIn tab 0x0B 1 (firstDup (img.tenants.map (·.tenant))),
    errIn tab 0x0B 3 (firstDup (img.channels.map (·.channel))),
    errIn tab 0x0B 4 (firstDup (img.telltales.map (·.index))),
    errIn tab 0x0B 10 (firstDup (img.links.map (·.port))),
    errIn tab 0x0C 1 (firstOver 512 (img.tenants.map (·.tagQuota))),
    errIn tab 0x0C 1 (firstOver (1024 - 2 * poolMin 0) (credits 0)),
    errIn tab 0x0C 1 (firstOver (1024 - 2 * poolMin 1) (credits 1)),
    errIn tab 0x0D 2 ((List.range img.regions.length).find? fun i =>
      match img.regions[i]? with
      | none => false
      | some r => r.size ≠ 0 && (0x4000000 < r.base + r.size ||
          (img.regions.take i).any fun q => q.size ≠ 0 && q.base < r.base + r.size && r.base < q.base + q.size)),
    errIn tab 0x0C 2 (firstOver 0x1000000 (img.regions.map fun r => if r.cls = 0 then r.size else 0)),
    if holdCapOf f img.ladder = 0 ∨ vholdMinOf f img.ladder = 0 then some ⟨0x0E, sectIdx tab 8, 0⟩ else none,
    errIn tab 0x0C 3 ((List.range img.channels.length).find? fun i =>
      !fetchOk ((img.channels.take (i + 1)).flatMap fun c =>
        c.layers.map fun l => layerDemand c l.w l.h l.pitch l.format)),
    errIn tab 0x0C 3 (firstBad outputFits img.channels),
    errIn tab 0x11 3 (firstBad (fun c => c.layers.all fun l =>
      layerPlaced live l.fbBase l.w l.h l.pitch l.format l.owner) img.channels),
    errIn tab 0x11 3 ((List.range img.channels.length).find? fun i =>
      match img.channels[i]? with
      | none => false
      | some c => c.bkl != 0xFF && (img.channels.take i).any fun d => d.bkl == c.bkl),
    errIn tab 0x11 4 ((List.range img.telltales.length).find? fun i => !telltalePlaced img i),
    errIn tab 0x11 7 (firstBad (fun m => img.telltales.any (fun t => t.index = m.tt) &&
      img.canctls.any fun c => c.ctrl = m.ctrl) img.canmaps),
    errIn tab 0x0C 7 ((List.range img.canmaps.length).find? fun i =>
      (List.range 2).any fun c => 64 < (((img.canmaps.take (i + 1)).filter fun m => m.ctrl = c).map (·.id)).eraseDups.length),
    errIn tab 0x0C 6 (firstBad (fun c => !(ids c.ctrl).contains c.presenceId) img.canctls),
    errIn tab 0x0B 5 (firstDup (img.rails.map (·.slot))),
    errIn tab 0x0B 5 (firstDup (img.rails.map (·.upOrder))),
    errIn tab 0x0B 5 (firstDup (img.rails.map (·.downOrder))),
    errIn tab 0x0B 3 (firstBad (fun c => (bitsSet 16 c.railMask).all fun s => img.rails.any fun r => r.slot = s)
      img.channels) ]

/-- Two glyph rectangles overlap. -/
def rectsMeet (x y w h x' y' w' h' : Nat) : Bool := x < x' + w' && x' < x + w && y < y' + h' && y' < y + h

/-- The step-14 cross-check of Table 3-17 on tell-tale record `i`, over the glyph image `g`. -/
def glyphPlaced (g : Reader) (img : Image) (i : Nat) : Bool :=
  match img.telltales[i]? with
  | none => true
  | some r =>
    if r.channel = 0xFF then true else
    match img.channels.find? fun c => c.channel = r.channel with
    | none => true
    | some c =>
      let e := glyphEntry g r.glyph
      r.glyph < glyphCount g && r.x + e.w ≤ c.hactive && r.y + e.h ≤ c.vactive &&
        (img.telltales.take i).all fun p =>
          let q := glyphEntry g p.glyph
          p.channel != r.channel || !rectsMeet r.x r.y e.w e.h p.x p.y q.w q.h

/-- Step 14. (log 36 DEDUCED) -/
def glyphChecks (tab : List SectEntry) (img : Image) (g : Reader) : List (Option LoadErr) :=
  if img.glyphHash.all (· == 0) then []
  else
    [ if glyphHeaderOk g && sha256 (bytesAt g 0 (min (glyphLen g) 2097152)) == img.glyphHash then none
      else some ⟨0x0F, 0x1F, 0⟩,
      ((List.range (glyphCount g)).find? fun i => !glyphEntryOk g i).map fun i => ⟨0x0F, 0x1F, i⟩,
      errIn tab 0x11 4 ((List.range img.telltales.length).find? fun i => !glyphPlaced g img i) ]

/-- A BOUND record covers exactly one RB field, and no earlier record covers it. -/
def boundPlaced (bs : List BoundRec) (i : Nat) : Bool :=
  match bs[i]? with
  | none => true
  | some b =>
    (regFields b.addr).any (fun f => f.acc = .rb ∧ f.lsb = b.lsb ∧ f.width = b.width) &&
      (bs.take i).all fun p => p.addr != b.addr || p.lsb != b.lsb

/-- Step 15 over the registers `t` as they stand, then the limits of R494 at the end of the load. (log 36 DEDUCED) -/
def boundChecks (f : OtpForce) (t : Tab Word) (tab : List SectEntry) (img : Image) : List (Option LoadErr) :=
  let vmin := vholdMinOf f img.ladder
  let vmax := vholdMaxOf f img.ladder
  [ errIn tab 0x10 12 ((List.range img.bounds.length).find? fun i => !boundPlaced img.bounds i),
    errIn tab 0x10 11 (trimCheck img.bounds ((imageSettings f img).foldl applySetting t) 0 img.trims),
    if vmax ≤ 19000 ∧ 3000 ≤ vmin ∧ vmin < vmax ∧ holdCapOf f img.ladder ≤ 100000000 then none
    else some ⟨0x0B, sectIdx tab 8, 0⟩ ]

/-- Steps 1 to 7 (Table 3-16): nothing beyond the header and the section table is read, and of a table that goes on
beyond IMAGE_LEN only what lies inside it (R53). (log 36 DEDUCED) -/
def headChecks (rd : Reader) (tab : List SectEntry) : List (Option LoadErr) :=
  let e := fun (ok : Bool) (code : Nat) => if ok then none else some (LoadErr.mk code 0x1F 0)
  let len := u32 rd 8
  let n := u16 rd 0x0C
  [ e (bytesAt rd 0 4 == [0x43, 0x52, 0x53, 0x49]) 0x01,
    e (u8 rd 4 == 1 && u8 rd 5 == 0 && u16 rd 6 == 0x80 && zeroAt rd 0xE 2 && zeroAt rd 0x17 1 && zeroAt rd 0x1C 4 &&
      zeroAt rd 0x40 56) 0x02,
    e (u32 rd 0x7C == crc32c (bytesAt rd 0 0x7C)) 0x03,
    e (len % 64 == 0 && within 512 len 1048576) 0x04,
    e (u16 rd 0x14 == 0x4816 && u8 rd 0x16 ≤ 0xB0) 0x05,
    e (u32 rd 0x78 == crc32c (bytesAt rd 0x80 (min (16 * n) (len - 0x80)))) 0x06,
    e (within 1 n 14) 0x07,
    (tab.find? fun x => !entryOk tab len x).map fun x => ⟨0x07, x.idx, 0⟩ ]

/-- Step 8: each section CRC, in table order. -/
def crcChecks (rd : Reader) (tab : List SectEntry) : Option LoadErr :=
  (tab.find? fun x => x.count != 0 && crc32c (bytesAt rd x.offset x.length) != x.crc).map fun x => ⟨0x08, x.idx, 0⟩

/-- Step 11: records obey R45, in table order. -/
def fieldChecks (rd : Reader) (tab : List SectEntry) (img : Image) : Option LoadErr :=
  tab.findSome? fun x => ((List.range x.count).find? fun i => !recordOk rd img x i).map fun i => ⟨0x0B, x.idx, i⟩

/-- The verification of a structure image against the glyph image of its pair, the OTP values in force and the registers
`t`, in the order of Table 3-16: the first failing check, or the decoded image (R48). -/
def verifyImage (f : OtpForce) (t : Tab Word) (rd g : Reader) : LoadErr ⊕ Image :=
  let tab := sectTable rd
  match (headChecks rd tab).findSome? id with
  | some e => .inl e
  | none =>
    match crcChecks rd tab with
    | some e => .inl e
    | none =>
      let len := u32 rd 8
      let img := parseImage rd
      if !keyOk f rd len then .inl ⟨0x09, 0x1F, 0⟩
      else if !signatureOk rd len img.digest then .inl ⟨0x0A, 0x1F, 0⟩
      else
        match fieldChecks rd tab img with
        | some e => .inl e
        | none =>
          match (crossChecks f tab img ++ glyphChecks tab img g ++ boundChecks f t tab img).findSome? id with
          | some e => .inl e
          | none => .inr img

end Sys2Proof.Machine
end

