-- ==== Sys2Proof/Machine/Journal.lean ====
section
/-! DEFINITION. What the NV array keeps beside its cells (08): the block map, the journal log and its records as bytes, the
selector rings (R87, R88), and the erases of fixed blocks. -/

namespace Sys2Proof.Machine

/-- Bytes of a block and of a sector. -/
def blockSize : Nat := 0x40000
def sectorSize : Nat := 0x8000

/-- What the block map holds for a logical block that it does not list: its own physical block, never erased; pool slots
ERASED, every other block MAPPED. (log 80 DESIGN CHOICE) -/
def blockDefault (l : Nat) : Block :=
  { phys := l, state := if 540 ≤ l ∧ l ≤ 763 then .erased else .mapped, wear := 0, progTime := 0 }

/-- The block map entry of logical block `l`. (log 121 DEDUCED) -/
def State.block (s : State) (l : Nat) : Block := tget (blockDefault l) s.nv.blocks l

/-- Put an entry into the block map. -/
def State.setBlock (s : State) (l : Nat) (b : Block) : State :=
  { s with nv := { s.nv with blocks := tset (blockDefault l) s.nv.blocks l b } }

/-- Change the state of logical block `l`. -/
def State.markBlock (s : State) (l : Nat) (st : BlockState) : State := s.setBlock l { s.block l with state := st }

/-- The pool slots (logical 540 to 763). -/
def poolSlots : List Nat := (List.range 224).map (· + 540)

/-- Pool slots whose block is not BAD (R169). -/
def State.usablePool (s : State) : Nat := (poolSlots.filter fun l => (s.block l).state ≠ .bad).length

/-- SPARE_LOW: fewer than 72 are left (R169). -/
def State.spareLow (s : State) : Bool := s.usablePool < 72

/-- Physical byte address of offset `o` in logical block `l`. -/
def State.physAddr (s : State) (l o : Nat) : Nat := (s.block l).phys * blockSize + o % blockSize

/-- VPP_NV is connected to the array: monitors 0, 1 and 2 qualify; without it no cell is programmed or erased (R490).
 (log 93 DEDUCED) -/
def State.vppOn (s : State) : Bool := s.fld SUP_STAT 16 3 = 0

/-- Program bytes into the array at a window offset. -/
def nvProgram (o : Nat) (l : List Byte) (s : State) : State :=
  let put := fun (t : Tab Byte) (e : Byte × Nat) => tset 0 t (s.physAddr ((o + e.2) / blockSize) (o + e.2)) e.1
  if s.vppOn then { s with nv := { s.nv with cells := l.zipIdx.foldl put s.nv.cells } } else s

/-! ### Journal records as bytes (R159, Tables 8-3, 8-4, 7-3, 7-4) -/

def hEntryBytes (e : HEntry) : List Byte :=
  leBytes 4 e.base ++ leBytes 4 e.size ++ leBytes 1 e.owner ++ leBytes 1 e.cls ++ leBytes 2 e.priority ++
    leBytes 1 e.state ++ [0, 0, 0]

def horizonBytes (h : Horizon) : List Byte :=
  [0x43, 0x52, 0x48, 0x5A] ++ leBytes 4 h.gen ++ leBytes 1 (b2n h.area) ++ leBytes 1 h.cause ++ leBytes 1 h.outcome ++
    leBytes 1 h.ladder ++ leBytes 2 h.entries.length ++ leBytes 2 h.notStored ++ leBytes 4 h.rtc ++
    leBytes 2 h.vTrip ++ leBytes 2 h.vEnd ++ leBytes 4 h.duration ++ leBytes 2 h.units ++ leBytes 2 h.flags ++
    (h.hash ++ List.replicate 16 0).take 16 ++ List.replicate 16 0 ++ h.entries.flatMap hEntryBytes

/-- TYPE of a journal record. -/
def jType : JBody → Nat
  | .eraseIntent _ _ _ => 1
  | .eraseDone _ _ _ => 2
  | .map _ _ => 3
  | .horizon _ => 4
  | .quarantine _ _ => 5
  | .retire _ _ => 6
  | .checkpoint _ _ => 7

/-- The body of a record, without its CRC. -/
def jData : JBody → List Byte
  | .eraseIntent b m r => leBytes 2 b ++ leBytes 1 m ++ leBytes 1 r
  | .eraseDone b m w => leBytes 2 b ++ leBytes 1 m ++ [0] ++ leBytes 4 w
  | .map g ps => leBytes 4 g ++ leBytes 2 ps.length ++ [0, 0] ++ ps.flatMap fun p => leBytes 2 p.1 ++ leBytes 2 p.2
  | .horizon h => horizonBytes h
  | .quarantine b c => leBytes 2 b ++ leBytes 1 c ++ [0]
  | .retire b c => leBytes 2 b ++ leBytes 1 c ++ [0]
  | .checkpoint h q => leBytes 1 h ++ [0, 0, 0] ++ leBytes 4 q

/-- `n` bytes that the spec leaves open, closed by four bytes that are not their CRC-32C.
(log 54 DESIGN CHOICE, 82 DESIGN CHOICE) -/
def tornBytes (n junk : Nat) : List Byte :=
  let b := leBytes n junk
  b ++ leBytes 4 ((crc32c b + 1 + junk / 2 ^ (8 * n) % (2 ^ 32 - 1)) % 2 ^ 32)

/-- A record as it lies in the log: header, body with its CRC, padding to a multiple of 16 (R159).
(log 82 DESIGN CHOICE) -/
def jBytes (r : JRec) : List Byte :=
  let d := jData r.body
  let body := if r.ok then d ++ leBytes 4 (crc32c d) else tornBytes d.length r.junk
  let hdr := [0x43, 0x4A] ++ leBytes 1 (jType r.body) ++ [0] ++ leBytes 4 r.seq ++ leBytes 4 body.length
  let all := hdr ++ leBytes 4 (crc32c hdr) ++ body
  all ++ List.replicate ((16 - all.length % 16) % 16) 0

/-- The logical block and sector of log sector `k` of the ring (R160). -/
def logSector (k : Nat) : Nat × Nat :=
  if k < 7 then (536, k + 1) else if k < 15 then (537, k - 7) else if k < 23 then (538, k - 15) else (539, k - 22)

/-- SEQ `a` follows SEQ `b`; SEQ wraps at 32 bits. (log 82 DESIGN CHOICE) -/
def seqAfter (a b : Nat) : Bool := let d := (a + 2 ^ 32 - b) % 2 ^ 32; 0 < d && d < 2 ^ 31

/-- The checkpoint of a map half whose CHECKPOINT record lies valid in the log (R174): LAST_SEQ and the map. -/
def NvSt.ckptIn (n : NvSt) (half : Nat) : Option (Nat × Tab Block) :=
  (if half = 0 then n.ckpt0 else n.ckpt1).filter fun c => n.journal.any fun r => r.ok && r.body = .checkpoint half c.1

/-- The half that holds the newest checkpoint (R162). -/
def NvSt.newestHalf (n : NvSt) : Option Nat :=
  match n.ckptIn 0, n.ckptIn 1 with
  | some a, some b => some (if seqAfter b.1 a.1 then 1 else 0)
  | some _, none => some 0
  | none, some _ => some 1
  | none, none => none

/-- The newest checkpoint (R174). (log 92 DESIGN CHOICE) -/
def NvSt.newestCkpt (n : NvSt) : Option (Nat × Tab Block) := n.newestHalf.bind n.ckptIn

/-- The LAST_SEQ of the newest checkpoint. -/
def NvSt.lastSeq (n : NvSt) : Option Nat := n.newestCkpt.map (·.1)

/-- The records that must survive when log sector `k` is erased (R160). -/
def liveRecords (n : NvSt) (k : Nat) : List JBody :=
  let newest := fun (area : Bool) => n.journal.foldl
    (fun m r => match r.body with | .horizon h => if r.ok && h.area = area then max m h.gen else m | _ => m) 0
  let done := fun (b m sq : Nat) => n.journal.any fun r => r.ok && match r.body with
    | .eraseDone b' m' _ => b' = b && m' = m && seqAfter r.seq sq | _ => false
  let state := fun (p : Nat) => ((List.range 768).find? fun l => (tget (blockDefault l) n.blocks l).phys = p).map
    fun l => (tget (blockDefault l) n.blocks l).state
  let ring := fun (b : Nat) => (b = 536 && n.ringTorn.getLsbD 0) || (b = 539 && n.ringTorn.getLsbD 1)
  (n.journal.filter fun r => r.sector = k && r.ok && match r.body with
    | .horizon h => h.gen = newest h.area
    | .eraseIntent b m _ => !done b m r.seq
    | .quarantine b _ => state b == some .quarantined || ring b
    | .retire b _ => state b == some .bad
    | .map _ _ => n.lastSeq.all fun q => seqAfter r.seq q
    | _ => false).map (·.body)

/-- The log sectors in use ahead of sector `k`, in ring order; one that failed is skipped (R160, R170). -/
def NvSt.ahead (n : NvSt) (k : Nat) : List Nat :=
  ((List.range 29).map fun i => (k + 1 + i) % 30).filter fun v => !n.badSectors.contains v

/-- Write a record at the head of the log, in the next sector where it does not fit (R159): verified when `ok`, torn
otherwise. (log 82 DESIGN CHOICE) -/
def jWrite (ok : Bool) (junk : Nat) (n : NvSt) (b : JBody) : NvSt :=
  let r : JRec := { seq := n.jseq, sector := n.jsector, offset := n.joffset, body := b, ok := ok, junk := junk }
  let len := (jBytes r).length
  let r := if n.joffset + len ≤ sectorSize then r else { r with sector := (n.ahead n.jsector).headD n.jsector, offset := 0 }
  { n with journal := n.journal ++ [r], jseq := (n.jseq + 1) % 2 ^ 32, jsector := r.sector, joffset := r.offset + len }

/-- Write a record that verifies. -/
def jPut (n : NvSt) (b : JBody) : NvSt := jWrite true 0 n b

/-- Erase physical bytes [lo, hi). -/
def nvErase (lo hi : Nat) (n : NvSt) : NvSt :=
  { n with cells := tcut n.cells lo hi, poison := n.poison.filter fun w => w * 16 < lo || hi ≤ w * 16,
           weak := n.weak.filter fun w => w * 16 < lo || hi ≤ w * 16 }

/-- One more erase cycle of logical block `l`. -/
def wearBlock (l : Nat) (n : NvSt) : NvSt :=
  { n with blocks := tmod (blockDefault l) n.blocks l fun b => { b with wear := b.wear + 1 } }

/-- Erase sectors `m` of logical block `l`, of `k` attempts at most (R169): whether one passes its verify.
(log 88 DESIGN CHOICE) -/
def eraseTries (l m : Nat) : Nat → NvSt → Bool × NvSt
  | 0, n => (false, n)
  | k + 1, n =>
    let n := wearBlock l n
    let b := tget (blockDefault l) n.blocks l
    if Config.eraseFails b.phys m b.wear then eraseTries l m k n else (true, n)

/-- Pre-erase sectors `m` of the fixed block `l` in the order of R158: whether it passes; a failure is reported (R170).
(log 88 DESIGN CHOICE) -/
def eraseFixed (l m reason : Nat) (n : NvSt) : Bool × NvSt :=
  let x := eraseTries l m 3 (jPut n (.eraseIntent l m reason))
  if x.1 then (true, jPut x.2 (.eraseDone l m (tget (blockDefault l) x.2.blocks l).wear))
  else (false, { x.2 with lost := x.2.lost + 1 })

/-- Reclaim log sector `v`: its live records are rewritten at the head, then it is erased; a sector that fails is
skipped from then on (R160, R170). (log 88 DESIGN CHOICE) -/
def jReclaim (v : Nat) (n : NvSt) : NvSt :=
  let x := eraseFixed (logSector v).1 (2 ^ (logSector v).2) 5 ((liveRecords n v).foldl jPut n)
  { x.2 with journal := x.2.journal.filter fun r => r.sector ≠ v,
             badSectors := if x.1 then x.2.badSectors else x.2.badSectors ++ [v] }

/-- Keep two erased log sectors ahead of the head (R160). -/
def jCollect : Nat → NvSt → NvSt
  | 0, n => n
  | k + 1, n =>
    match ((n.ahead n.jsector).take 2).find? fun v => n.journal.any fun r => r.sector = v with
    | none => n
    | some v => jCollect k (jReclaim v n)

/-- Append a record to the journal. -/
def jLog (b : JBody) (n : NvSt) : NvSt := jCollect 30 (jPut n b)

/-! ### Selector rings (R87, R88, R92) -/

/-- The 32 bytes of a selector record in ring `copy`; those of an invalid record are open. (log 54 DESIGN CHOICE) -/
def selBytes (copy : Nat) (r : SelRec) : List Byte :=
  let b := [0x43, 0x52, 0x53, 0x4C] ++ leBytes 4 r.gen ++ leBytes 1 (b2n r.active) ++ leBytes 1 r.state ++
    leBytes 1 r.bootsLeft ++ leBytes 1 copy ++ leBytes 4 r.version ++ leBytes 4 r.versionPrev ++ leBytes 1 r.cause ++
    List.replicate 7 0
  if r.ok then b ++ leBytes 4 (crc32c b) else tornBytes 28 r.junk

/-- The newest valid record of a ring. -/
def ringNewest (l : List SelRec) : Option SelRec :=
  l.foldl (fun m r => if r.ok ∧ (m.all fun k => k.gen ≤ r.gen) then some r else m) none

/-- Ring 0, or ring 1 when `second`. -/
def State.ring (s : State) (second : Bool) : List SelRec := if second then s.upd.ring1 else s.upd.ring0

/-- Put a ring. -/
def setRing (second : Bool) (l : List SelRec) (s : State) : State :=
  { s with upd := if second then { s.upd with ring1 := l } else { s.upd with ring0 := l } }

/-- The journal block that holds a ring in its first sector. -/
def ringBlock (second : Bool) : Nat := if second then 539 else 536

/-- The ring is erased before its next record: it is full (R92), or an erase of it has not completed. -/
def State.ringErases (s : State) (second : Bool) : Bool :=
  1024 ≤ (s.ring second).length || s.nv.ringTorn.getLsbD (b2n second)

/-- A ring's bit among the rings that read poison. -/
def ringMark (second torn : Bool) (n : NvSt) : NvSt :=
  let m := 1#2 <<< b2n second
  { n with ringTorn := if torn then n.ringTorn ||| m else n.ringTorn &&& ~~~m }

/-- Erase a ring (R92, R158): whether the erase passes. (log 88 DESIGN CHOICE) -/
def ringErase (second : Bool) (s : State) : Bool × State :=
  let x := eraseFixed (ringBlock second) 1 4 s.nv
  (x.1, setRing second [] { s with nv := ringMark second (!x.1) (jCollect 30 x.2) })

/-- Write a record into a ring, erased first where it must be (R88, R92): whether the record stands verified. -/
def ringPut (second : Bool) (r : SelRec) (s : State) : Bool × State :=
  let x := if !s.vppOn then (false, s) else if s.ringErases second then ringErase second s else (true, s)
  if x.1 then (r.ok, setRing second (x.2.ring second ++ [r]) x.2) else x

/-- The selector where neither ring holds a valid record. -/
def SelRec.default : SelRec :=
  { gen := 0, active := false, state := 0, bootsLeft := 0, version := 0, versionPrev := 0, cause := 0, ok := true, junk := 0 }

/-- The selector in force: the valid record with the highest GEN; ring 0 where both have it (R88, R101).
(log 59 DESIGN CHOICE) -/
def State.selector (s : State) : SelRec :=
  match ringNewest s.upd.ring0, ringNewest s.upd.ring1 with
  | some a, some b => if a.gen < b.gen then b else a
  | some a, none => a
  | none, some b => b
  | none, none => SelRec.default

/-- The pair that runs; in the unconfigured state the one that the selector names. -/
def State.running (s : State) : Bool := if s.fld STR_STAT 0 2 = 2 then s.flag STR_STAT 2 else s.selector.active

/-- The inactive pair. -/
def State.inactive (s : State) : Bool := !s.running

/-- First window offset of the structure slot and of the glyph slot of pair A (false) or B (true) (Table 6-2). -/
def structBase (pair : Bool) : Nat := if pair then 0x8100000 else 0x8000000
def glyphBase (pair : Bool) : Nat := if pair then 0x8400000 else 0x8200000

/-- The window offset of offset `o` of the update aperture (Table 5-2). -/
def State.apertureAt (s : State) (o : Nat) : Nat :=
  if o < 0x100000 then structBase s.inactive + o else glyphBase s.inactive + (o - 0x100000)

end Sys2Proof.Machine
end

