-- ==== Sys2Proof/Machine/Ops.lean ====
section
/-! DEFINITION. Operations every family shares: free values, supervision-log records (R204 to R209), clearing what a
reset clears (Table 1-4), performing and deferring a warm reset (R17, R20, R478), and fault reports (R466 to R483). -/

namespace Sys2Proof.Machine

/-- A free value below `n`, and the state that has drawn it. (log 1 DESIGN CHOICE) -/
def State.free (s : State) (n : Nat) : Nat × State :=
  (Config.freeValue s.freeCount % n, { s with freeCount := s.freeCount + 1 })

/-- The ladder state, 0 to 6 (PWR_STAT.STATE). -/
def State.ladder (s : State) : Nat := s.fld PWR_STAT 0 3

/-- The supply is away: the power-loss flow runs, or it has ended without a supply return. -/
def State.supplyAway (s : State) : Bool := s.ctl.lossFlow || s.ctl.lossOver

/-- The applied image while the device runs configured; none before R49 completes and in the unconfigured state. -/
def State.conf (s : State) : Option Image := if s.ctl.phase = .run ∨ s.ctl.phase = .classA then s.cfg else none

/-- The CHANNEL record of channel `n`, if declared. -/
def State.chanRec (s : State) (n : Nat) : Option ChannelRec := s.cfg.bind fun i => i.channels.find? fun c => c.channel = n

/-- The TENANT record of tenant `t`. -/
def State.tenantRec (s : State) (t : Nat) : Option TenantRec := s.cfg.bind fun i => i.tenants.find? fun r => r.tenant = t

/-- The declared channels. -/
def State.channels (s : State) : List Nat := (List.range 4).filter fun n => (s.chanRec n).isSome

/-- The channels that are active: not OFF (16, Channel states). -/
def State.activeChannels (s : State) : List Nat := (List.range 4).filter fun n => s.fld (CH_STAT n) 0 3 ≠ 0

/-- The channels that count for the door: declared, with ACTIVE as the start path found it (R357). -/
def State.doorChannels (s : State) : List Nat := (List.range 4).filter fun n => s.door.channels.getLsbD n

/-! ### Supervision log -/

/-- The 32 bytes of a log record without its CRC, padded data (Table 10-2). -/
def logBody (r : LogRec) : List Byte :=
  leBytes 1 r.type ++ [0] ++ leBytes 2 r.seq ++ leBytes 4 r.seconds ++ leBytes 2 r.subsec ++ leBytes 1 r.ladder ++
    [0] ++ (r.data ++ List.replicate 18 0).take 18

/-- The 32 bytes of a log record (R204). -/
def logBytes (r : LogRec) : List Byte := logBody r ++ leBytes 2 (crc16 0xFFFF (logBody r))

/-- A read-out window whose span has been overwritten: only the header, RETURNED 0, FLAGS bit 0 (R209). -/
def logOverrun (c : Ctx) (seq : Nat) : Ctx :=
  match c.logSpan with
  | none => c
  | some (first, len) =>
    if (seq + 65536 - first) % 65536 < len then
      { c with logSpan := none,
               logWin := [0, 0] ++ (c.logWin.take 10).drop 2 ++ leBytes 2 (ofLe ((c.logWin.drop 10).take 2) ||| 1) ++
                 List.replicate 4 0 }
    else c

/-- Claim the slot at HEAD and write a record of `type` there (R205, R206, R209). (log 110 DEDUCED) -/
def logWrite (type : Nat) (data : List Byte) (s : State) : State :=
  let r : LogRec := { seq := s.log.next, type := type, seconds := s.rtc.sec % 2 ^ 32, subsec := s.rtc.sub,
                      ladder := s.ladder, data := data, verdict := .unchecked }
  let log : LogSt := { recs := s.log.recs.drop (s.log.recs.length + 1 - 256) ++ [r], next := (s.log.next + 1) % 65536,
                       head := (s.log.head + 1) % 256 }
  match s.log.recs with
  | old :: _ =>
    if 256 ≤ s.log.recs.length then
      ({ s with log := log, ctxs := s.ctxs.map fun (k, c) => (k, logOverrun c old.seq) } : State).raise LOG_STAT 24
    else { s with log := log }
  | [] => { s with log := log }

/-- The records from SEQ `first` on fell due in one cycle: they stand in ascending TYPE order (R216).
(log 10 DEDUCED, 110 DEDUCED) -/
def logSort (first : Nat) (s : State) : State :=
  let n := s.log.recs.length - (s.log.next + 65536 - first) % 65536
  let new := s.log.recs.drop n
  let put := fun (e : LogRec × LogRec) => { e.1 with seq := e.2.seq }
  { s with log := { s.log with recs := s.log.recs.take n ++ ((sortBy (·.type) new).zip new).map put } }

/-! ### What a reset clears (Table 1-4) -/

/-- Registers a warm reset keeps: the backup domain, the safe-display latch (R484), STALE and LOST (R127), the count of
rejected writes since the last cold reset (03, STR_BERR_INFO), and the registers of Sluice and of the NV controller,
which are not reset (R26). (log 20 DEDUCED, 37 DEDUCED) -/
def keptWarm (a : Nat) : Bool :=
  isBackup a || a == FLT_SAFE || a == STR_BERR_INFO || (MEM_STALE 0 ≤ a && a < MEM_LOST 8) || (0x80050000 ≤ a && a < 0x80070000)

/-- The RB registers of Sluice and the NV controller: configuration, which a warm reset clears with every core
register; STO_PACE stays, for the background restore goes on (R26, R127). (log 20 DEDUCED) -/
def sluiceConfig : List Nat := [STO_LOAD, NVH_CTRL, NVH_SCRUB, NVH_WL]

/-- The OTP record of an abandoned program operation (R75, Table 10-4). -/
def otpAbortRecord (p : OtpProg) (s : State) : State :=
  logWrite 0x09 [9, BitVec.ofNat 8 p.group, BitVec.ofNat 8 p.slot] s

/-- The state a running OTP program operation leaves when it is abandoned (R75): the bytes programmed so far stay; how
many is not specified. -/
def otpStop (s : State) : State :=
  match s.otp.prog with
  | none => s
  | some p =>
    let off := [0x000, 0x080, 0x280, 0x320, 0x360].getD p.group 0 + p.slot * [32, 128, 40, 16, 16].getD p.group 0
    let (k, s) := s.free p.image.length
    let arr := (p.image.take k).zipIdx.foldl
      (fun t e => tset 0 t (off + e.2) (tget 0 t (off + e.2) ||| e.1)) s.otp.array
    ({ s with otp := { s.otp with array := arr, prog := none } }.lower OTP_PROG_STAT 0).setFld OTP_PROG_STAT 8 8 9

/-- A running OTP program operation is abandoned: RESULT 0x09 goes to the supervision log (R75). (log 45 DEDUCED) -/
def otpAbort (s : State) : State :=
  match s.otp.prog with
  | none => s
  | some p => otpAbortRecord p (otpStop s)

/-- A copy of a record is torn (R95, Table 5-4): its bytes are not specified. A ring that had to be erased first may
have its erase torn instead; it reads poison then (08, Edges). (log 54 DESIGN CHOICE) -/
def tearRing (second : Bool) (r : SelRec) (s : State) : State :=
  let (junk, s) := s.free (2 ^ 256)
  let torn := fun (s : State) => setRing second (s.ring second ++ [{ r with ok := false, junk := junk }]) s
  if !s.vppOn then s
  else if s.ringErases second then
    let (e, s) := s.free 2
    if e = 0 then
      setRing second [] { s with nv := ringMark second true (jLog (.eraseIntent (ringBlock second) 1 4) s.nv) }
    else
      let x := ringErase second s
      if x.1 then torn x.2 else x.2
  else torn s

/-- What an abandoned selector write leaves (R95): neither copy, a torn ring 0 copy, the ring 0 copy, or that and a torn
ring 1 copy; which is not specified. (log 54 DESIGN CHOICE) -/
def tearWrite (r : SelRec) (s : State) : State :=
  let (k, s) := s.free 4
  if k = 0 then s
  else if k = 1 then tearRing false r s
  else
    let x := ringPut false r s
    if k = 3 ∧ x.1 then tearRing true r x.2 else x.2

/-- The array as it stood before the records that this start has written: the rings, the journal log and the wear of the
fixed blocks. (log 54 DESIGN CHOICE) -/
def unwriteStart (w : StartWrites) (s : State) : State :=
  let wear := fun (t : Tab Block) (l : Nat) => tset (blockDefault l) t l (tget (blockDefault l) w.nv.blocks l)
  { s with
    upd := { s.upd with ring0 := w.ring0, ring1 := w.ring1 },
    nv := { s.nv with
      journal := w.nv.journal, jseq := w.nv.jseq, jsector := w.nv.jsector, joffset := w.nv.joffset,
      ringTorn := w.nv.ringTorn, badSectors := w.nv.badSectors, blocks := [536, 537, 538, 539].foldl wear s.nv.blocks } }

/-- A reset meets the records that this start has written, or the verification after them, where they stand (R99,
Table 5-4): all of them stand, or one is missing or torn and those before it stand; which is not specified. Each ring is
written after the one before it (R92). They stand where the array has had another user since. (log 54 DESIGN CHOICE) -/
def tearStart (s : State) : State :=
  match s.upd.starting with
  | none => s
  | some w =>
    let (k, s) := s.free (2 * w.recs.length + 1)
    if k = 0 ∨ s.nv.jseq ≠ w.jseq then s
    else
      let j := (k - 1) / 2
      let s := (w.recs.take j).foldl (fun s e => (ringPut e.1 e.2 s).2) (unwriteStart w s)
      match w.recs[j]? with
      | some e => if k % 2 = 1 then tearRing e.1 e.2 s else s
      | none => s

/-- Aperture writes that were accepted and not yet programmed are discarded (R95): the newest ones, how many is not
specified. (log 54 DESIGN CHOICE) -/
def apertureDiscard (s : State) : State :=
  let (k, s) := s.free (s.upd.written.length + 1)
  let gone := s.upd.written.drop (s.upd.written.length - k)
  gone.foldl (fun s r => nvProgram (s.apertureAt r.1) (List.replicate (r.2 - r.1) 0) s)
    { s with upd := { s.upd with written := s.upd.written.take (s.upd.written.length - k) } }

/-! ### The update operation (Table 5-1) -/

def upIdle : Nat := 0
def upErasing : Nat := 1
def upOpen : Nat := 2
def upVerifying : Nat := 3
def upVerified : Nat := 4
def upFailed : Nat := 5
def upWriting : Nat := 6

def State.updState (s : State) : Nat := s.fld UPD_STAT 0 3
/-- Reading or choice: log 57 DEDUCED -/
def updEnd (st result : Nat) (s : State) : State :=
  { s with upd := { s.upd with op := .none } }.setFlds UPD_STAT [(0, 3, st), (8, 8, result)]

/-- UPD_STAT and UPD_SEL_GEN follow the record in force (R102). -/
def showSelector (s : State) : State :=
  let r := s.selector
  (s.setFlds UPD_STAT [(16, 1, b2n r.active), (17, 2, r.state), (20, 4, r.bootsLeft)]).setReg UPD_SEL_GEN
    (BitVec.ofNat 32 r.gen)

/-- The update aperture takes writes: a download runs (Table 5-1). -/
def State.downloading (s : State) : Bool := s.updState = upOpen

/-- A trip or a reset abandons the running operation (R95, Table 5-4). How far a selector write had come, and which
accepted aperture writes were still to be programmed, is not specified; a download that loses some is over.
(log 54 DESIGN CHOICE, 57 DEDUCED) -/
def updAbandon (s : State) : State :=
  match s.upd.op with
  | .write r => updEnd upIdle (s.fld UPD_STAT 8 8) (showSelector (tearWrite r s))
  | .none =>
    if s.downloading then
      let t := apertureDiscard s
      if t.upd.written.length = s.upd.written.length then t else updEnd upIdle (s.fld UPD_STAT 8 8) t
    else s
  | _ => updEnd upIdle (s.fld UPD_STAT 8 8) s

/-- What a reset leaves of an update operation and of the records of a start. (log 54 DESIGN CHOICE) -/
def updTorn (s : State) : State :=
  match s.upd.op with
  | .write r => tearWrite r s
  | _ => if s.upd.starting.isSome then tearStart s else if s.downloading then apertureDiscard s else s

/-- Core logic that every reset clears: links, transactions, channels, outputs, tell-tales, CAN, measurement, flock. -/
def clearCore (s : State) : State :=
  let s := updTorn s
  { s with
    phy := [], lnk := [], txn := TxnSt.reset, chan := [], out := [], tt := [], proof := ProofSt.reset, can := [],
    srcs := [], adc := AdcSt.reset, bkl := [], flk := FlkSt.reset, flt := { counts := [] }, door := DoorSt.reset,
    pwr := { PwrSt.reset with holdArea := s.pwr.holdArea, canDetect := s.pwr.canDetect },
    upd := { s.upd with op := .none, parts := 0, cloned := false, written := [], starting := none } }

/-- The assertion of a cold reset: everything but the backup domain, the NV array and OTP (Table 1-4, R79, R219). The
crystal's trim values of the last OTP load stay with the backup domain, which uses them in every ladder state (R230).
(log 21 DEDUCED) -/
def clearCold (s : State) : State :=
  let c := clearCore s
  { c with
    regs := c.regs.filter fun e => isBackup e.1, cfg := none, mem := MemSt.reset, sto := StoSt.reset,
    nv := { c.nv with hk := .none }, seq := SeqSt.reset,
    otp := { s.otp with force := { OtpForce.reset with
      turnover := s.otp.force.turnover, coeff := s.otp.force.coeff, offset := s.otp.force.offset } },
    ctl := { s.ctl with phase := .reset, path := .cold, lossFlow := false, lossOver := false, supplyBack := false,
                        warmDeferred := 0, warmAfterExit := 0, halted := false, tapRule := .locked, tapReset := true, recheck := 0,
                        gated := 0, clockReset := false, smo := 0, monitorResets := [] } }

/-- The assertion of a warm reset: core logic and every core register; DIS outputs low, SEQ enables kept (R26);
delivered requests that wait are discarded (R332). Of STO_STAT the STATE and AREA of Sluice stay, and the start loads
the outcome bits again (R157); of NVH_STAT all but SCRUB_UE.
(log 20 DEDUCED, 23 DEDUCED, 37 DEDUCED, 67 DEDUCED, 154 DEDUCED) -/
def clearWarm (s : State) : State :=
  let en := s.fld SEQ_STAT 16 16
  let c := clearCore s
  let r := { c with
    regs := s.regs.filter fun e => keptWarm e.1, seq := SeqSt.reset,
    sto := { c.sto with heldWrites := [], heldReads := [] },
    ctl := { s.ctl with phase := .reset, path := .warm, warmDeferred := 0, warmAfterExit := 0, clockReset := false, gated := 0,
                        lossOver := false } }
  (sluiceConfig.foldl (fun s a => s.setReg a (regReset a)) r).setFlds STO_DET [(0, 10, 0x230), (16, 10, 0x20)]
    |>.setFld STR_BERR_INFO 0 16 0 |>.setFld STO_STAT 4 28 0 |>.setFld NVH_STAT 4 1 0 |>.setFld SEQ_STAT 16 16 en

/-! ### Warm resets -/

/-- Bits of SYS_RST_CAUSE. -/
def causePin : Nat := 0x04
def causeSoft : Nat := 0x08
def causeMonitor : Nat := 0x10

/-- Add bits to SYS_RST_CAUSE. -/
def addCause (m : Nat) (s : State) : State := s.setReg SYS_RST_CAUSE (s.reg SYS_RST_CAUSE ||| BitVec.ofNat 32 m)

/-- Time on SMO goes on by 1/32,768 s, whatever BK32 does; SMO runs in P0 to P2 (Table 9-1).
(log 3 DESIGN CHOICE, 200 DEDUCED) -/
def smoTick (s : State) : State :=
  if s.ctl.pmicOn && s.ladder ≤ 2 then { s with ctl := { s.ctl with smo := s.ctl.smo + 1 } } else s

/-- 10 s of that time (R478). (log 200 DEDUCED) -/
def monitorWindow : Nat := 327680

/-- The monitor's warm resets inside the sliding window that ends now (R478). (log 200 DEDUCED) -/
def recentResets (s : State) : List Nat := s.ctl.monitorResets.filter fun r => s.ctl.smo < r + monitorWindow

/-- Perform a warm reset with the given causes, recorded together (R19), those of a request that was still deferred
among them. A third monitor reset within the window enters HALT in its place (R478): a FAULT record with REACTION 5,
MONITOR left set, the core held in warm reset. (log 200 DEDUCED) -/
def doWarm (causes : Nat) (s : State) : State :=
  if s.ctl.halted then s
  else
    let causes := causes ||| s.ctl.warmDeferred
    let s := addCause causes (otpAbort s)
    if causes &&& causeMonitor = 0 then clearWarm s
    else if 2 ≤ (recentResets s).length then
      let s := clearWarm (logWrite 0x0B (leBytes 2 (s.fld FLT_LAST 0 7) ++ [5]) s)
      { s with ctl := { s.ctl with halted := true } }
    else
      let now := recentResets s ++ [s.ctl.smo]
      let s := clearWarm { s with ctl := { s.ctl with monitorResets := now } }
      s.setFld FLT_SAFE 17 3 now.length

/-- A cold-start or restore path runs: the warm reset that comes now follows it (R20, R70). (log 18 DEDUCED) -/
def State.startingUp (s : State) : Bool :=
  s.ctl.path != .warm && (match s.ctl.phase with | .off => false | .run => false | _ => true)

/-- An entry that a warm reset cannot cancel at once: past its commit point, or in its store (R188, R481). -/
def State.entryHolds (s : State) : Bool :=
  match s.pwr.entry with
  | some (_, .store) => true
  | some _ => s.pwr.committed
  | none => false

/-- Ask for a warm reset; RST_N and the safety monitor abandon an OTP or update operation at once (R75, R95). It is
deferred while the power-loss flow runs (R17); after the start path, the exit of P3 or deeper, or the entry that runs
(R20, R481); at once otherwise, which cancels an entry before its commit point.
(log 18 DEDUCED, 19 DEDUCED, 101 DEDUCED) -/
def requestWarm (causes : Nat) (s : State) : State :=
  let s := if causes &&& (causePin ||| causeMonitor) = 0 ∨ s.ctl.halted then s else updAbandon (otpAbort s)
  if s.ctl.halted then s
  else if s.ctl.lossFlow then
    addCause 0x20 { s with ctl := { s.ctl with warmDeferred := s.ctl.warmDeferred ||| causes } }
  else if s.startingUp || 3 ≤ s.ladder || s.entryHolds then
    { s with
      ctl := { s.ctl with warmAfterExit := s.ctl.warmAfterExit ||| causes },
      pwr := { s.pwr with lateWake := if s.entryHolds && !s.pwr.committed then some (s.pwr.lateWake.getD (6, s.rtc.raw))
        else s.pwr.lateWake } }
  else doWarm causes s

/-- The warm reset that waited for the end of a start path, an exit or a cancelled entry. (log 18 DEDUCED) -/
def warmAfter (s : State) : State := if s.ctl.warmAfterExit = 0 then s else doWarm s.ctl.warmAfterExit s

/-! ### Fault reports -/

/-- The FAULT record of the running image for source `n`. -/
def State.faultRec (s : State) (n : Nat) : Option FaultRec :=
  s.conf.bind fun i => i.faults.find? fun r => r.source = n

/-- The reaction class in force for source `n` (R467, R484); 0 for an unassigned number. -/
def State.faultClass (s : State) (n : Nat) : Nat :=
  match s.faultRec n with
  | some r => r.reaction
  | none => ((faultSource n).map (·.1)).getD 0

/-- The default channel set of a source (Table 22-3). -/
def State.faultOwnChannels (s : State) (n : Nat) : Nat :=
  if 4 ≤ n ∧ n ≤ 7 then 2 ^ (n - 4)
  else if 8 ≤ n ∧ n ≤ 11 then 2 ^ (n - 8)
  else if 32 ≤ n ∧ n ≤ 47 then
    ofPositions ((List.range 4).filter fun c => (s.chanRec c).any fun r => bit r.railMask (n - 32))
  else 0

/-- The channel set in force for source `n`: PARAM of a declared CHANNEL class, else the default (R467). -/
def State.faultChannels (s : State) (n : Nat) : Nat :=
  match s.faultRec n with
  | some r => if r.reaction = 2 then bits r.param 0 4 else s.faultOwnChannels n
  | none => s.faultOwnChannels n

/-- Whether any part of the safe-display latch is set. -/
def State.latched (s : State) : Bool := s.flag FLT_SAFE 0 || s.fld FLT_SAFE 4 4 != 0

/-- Set the latch for the channels of `m` by source `n` (R468). -/
def latchChannels (m n : Nat) (s : State) : State :=
  if m = 0 then s
  else
    let s := if s.latched then s else s.setFld FLT_SAFE 8 7 n
    s.setFld FLT_SAFE 4 4 (s.fld FLT_SAFE 4 4 ||| m)

/-- Enter the safe-display state by source `n` (R469). (log 203 DEDUCED) -/
def latchSafe (n : Nat) (s : State) : State :=
  if s.flag FLT_SAFE 0 then s
  else
    (((s.setFld FLT_SAFE 8 7 n).setFld FLT_SAFE 4 4 (ofPositions s.channels)).raise FLT_SAFE 0).raise FLT_ISTAT 1

/-- Count one report of source `n`, and record its first one (R466). -/
def countReport (s : State) (n : Nat) : State :=
  let s := { s.bump FLT_COUNT 0 32 1 with flt := { counts := tset 0 s.flt.counts n (satAdd 16 (tget 0 s.flt.counts n) 1) } }
  if s.flag (FLT_SEEN (n / 32)) (n % 32) then s
  else logWrite 0x0B (leBytes 2 n ++ leBytes 1 (s.faultClass n)) (s.raise (FLT_SEEN (n / 32)) (n % 32))

/-- The safety monitor's warm reset; one for a clock of sources 0 to 3 that is not performed at once is pending as such
(R483). (log 199 DEDUCED) -/
def monitorReset (clock : Bool) (s : State) : State :=
  let s := requestWarm causeMonitor s
  if clock && (s.ctl.warmDeferred ||| s.ctl.warmAfterExit) &&& causeMonitor != 0 then
    { s with ctl := { s.ctl with clockReset := true } }
  else s

/-- Start the 1 ms re-check of the REF, CORE, MEM or NVC clock when none, and no warm reset for such a source, is
pending (R483). (log 199 DEDUCED) -/
def startRecheck (srcs : List Nat) (s : State) : State :=
  if s.ctl.recheck = 0 ∧ !s.ctl.clockReset then
    { s with ctl := { s.ctl with recheck := BitVec.ofNat 4 (ofPositions (srcs.filter (· < 4))) } }
  else s

/-- The class that a report of source `n` applies: CHANNEL with no channel acts as NOTIFY (R467). (log 205 DEDUCED) -/
def State.appliedClass (s : State) (n : Nat) : Nat :=
  if s.faultClass n = 2 ∧ s.faultChannels n = 0 then 1 else s.faultClass n

/-- Reports of the sources `srcs` in one CORE cycle (R466, R480): each is counted, a source reported twice twice,
records in ascending source number, the highest class is applied once. The OTP record of an operation that a warm reset
abandons goes before them (R216). (log 10 DEDUCED, 65 DEDUCED, 198 DEDUCED, 205 DEDUCED) -/
def reportMany (srcs : List Nat) (s : State) : State :=
  let srcs := ((List.range 128).filter fun n => (faultSource n).isSome).flatMap fun n => srcs.filter (· = n)
  match srcs with
  | [] => s
  | _ =>
    let cls := (srcs.map s.appliedClass).foldl max 0
    let top := (srcs.find? fun n => s.appliedClass n = cls).getD 0
    let last := s.faultClass top
    let set := (srcs.filter fun n => s.faultClass n = 2).foldl (fun m n => m ||| s.faultChannels n) 0
    let s := srcs.foldl countReport (if cls = 4 && !s.ctl.halted then otpAbort s else s)
    let s := (s.setFld FLT_LAST 0 7 top).setFld FLT_LAST 8 3 last
    let s := if 1 ≤ cls then s.raise FLT_ISTAT 0 else s
    let s := startRecheck srcs s
    if cls = 2 then latchChannels set top s
    else if cls = 3 then latchSafe top s
    else if cls = 4 then monitorReset (srcs.any fun n => n < 4 && s.appliedClass n = 4) s
    else s

/-- A report of one source. -/
def report (n : Nat) (s : State) : State := reportMany [n] s

end Sys2Proof.Machine
end

