-- ==== Sys2Proof/Machine/Access.lean ====
section
/-! DEFINITION. Register accesses: who may read and write which register (R105, Table 6-3 and the rules that name one
register), accesses held before the configuration is applied (R55) or while the ports are closed (R180), and the bounds
check of a write to a register with RB fields (R51, R60). -/

namespace Sys2Proof.Machine

/-- STATUS codes (Table 15-3). -/
def stOk : BitVec 4 := 0
def stDecode : BitVec 4 := 1
def stPermission : BitVec 4 := 2
def stBound : BitVec 4 := 3
def stPoison : BitVec 4 := 4
def stFormat : BitVec 4 := 5
def stUnsupported : BitVec 4 := 6
def stRefused : BitVec 4 := 7
def stTag : BitVec 4 := 8

/-- The tenant whose rights a requester carries: the sideband port writes and reads with those of T0 (R256), and so does
an open test access port (R66, Table 4-4). (log 13 DESIGN CHOICE) -/
def whoOf (t : Requester) : Nat := if 16 ≤ t.val then 0 else t.val

/-- The requester context of a requester (11, Model); the spec lists none for the test access port, which shares that of
T0. (log 13 DESIGN CHOICE) -/
def ctxOfReq (t : Requester) : Nat := if t = 17 then 0 else t.val

/-- The INT registers of tenant `x` that lie at offset `o` of the INT block (R328). -/
def intTenant (o : Nat) : Option Nat := if 0x100 ≤ o ∧ o < 0x300 then some ((o - 0x100) / 0x20) else none

/-- Register `a` is one of tenant `t`'s own INT registers at an offset of `l`: INT_PENDt 0, INT_ENt 4, INT_CTLt 8,
INT_MSG_ADDRt 12, INT_MSG_DATAt 16 (R328). -/
def ownInt (t a : Nat) (l : List Nat) : Bool :=
  blockOf a == 114 && intTenant (a % 0x10000) == some t && l.contains (a % 0x20)

/-- Tenant `t` may read register `a` (R105, R328, R59). -/
def State.mayRead (s : State) (t a : Nat) : Bool :=
  t = 0 || ownInt t a [0, 4, 8, 12, 16] ||
    (blockOf a != 114 && (s.tenantRec t).any fun r => bit r.regRd (blockOf a))

/-- Tenant `t` is a voting tenant (09, Votes and target). -/
def State.voter (s : State) (t : Nat) : Bool := (s.tenantRec t).any fun r => bit r.flags 1

/-- Tenant `t` may write register `a`: REG_WR and Table 6-3 (R105), with the rules that name one register: R14, R67, R82
(T0 alone), R138 (T0), R203 (T0, T1), R328 (INT), R381 (T1), R471 (FLT_WDG_KICK: T1), R176 (voting tenants), R59. -/
def State.mayWrite (s : State) (t a : Nat) : Bool :=
  let b := blockOf a
  let granted := (s.tenantRec t).any fun r => bit r.regWr b
  if b = 114 then
    if s.cfg.isNone then false else t = 0 || ownInt t a [4, 8, 12, 16]
  else if b ≤ 3 then
    t = 0 || (granted && a != SYS_RST_CTRL && a != OTP_PROG_CTRL && a != UPD_CTRL)
  else
    granted &&
      (if b = 48 ∨ b = 49 ∨ b = 50 ∨ b = 9 ∨ b = 113 ∨ a = SEQ_CTRL then t ≤ 1 else true) &&
      (if a = STO_CTRL then t = 0 else true) && (if a = FLT_WDG_KICK then t = 1 else true) &&
      (if TT_T1_REQ 0 ≤ a ∧ a < TT_T1_REQ 4 then t = 1 else true) && (if a = PWR_REQ then s.voter t else true)

/-- Register writes that arrive now are held: before R49 completes (R55), and while an entry sequence has closed the
ports (R180). -/
def State.holdsRegs (s : State) : Bool :=
  match s.ctl.phase with
  | .rails => true
  | .otp => true
  | .selfTest => true
  | .verify _ _ _ => true
  | .run => s.pwr.portsClosed
  | _ => false

/-- Register writes that arrive now are served: R49 or R59 has completed, and the ports are open. (log 56 DEDUCED) -/
def State.servesRegs (s : State) : Bool :=
  match s.ctl.phase with
  | .classA => true
  | .run => !s.pwr.portsClosed
  | _ => false

/-- The lifecycle lets the sideband port write core space (R256). -/
def State.sbpWrites (s : State) : Bool := s.otp.force.life ≤ 1

/-- The core space is available to the sideband port (R257). -/
def State.sbpCore (s : State) : Bool :=
  s.ladder < 3 && s.ctl.pmicOn && s.ctl.phase != .off && s.ctl.phase != .reset && !s.ctl.lossFlow &&
    !(s.pwr.committed && (s.pwr.entry.any fun e => 3 ≤ e.1))

/-- R49 or R59 has completed in this start. -/
def State.configured (s : State) : Bool := s.ctl.phase = .run || s.ctl.phase = .classA

/-- An access of requester `t` that arrives now is held. Closed ports do not hold the sideband port, whose accesses an
entry waits for (R264); a test access port that is not open gives no access (Table 4-4). (log 13 DESIGN CHOICE) -/
def State.holdsFor (s : State) (t : Requester) : Bool :=
  if t = 16 then s.sbpCore && !s.configured
  else if t = 17 then s.ctl.tapRule = .opened && s.powered .tck && s.holdsRegs
  else s.holdsRegs

/-- An access of requester `t` that arrives now is served. (log 13 DESIGN CHOICE) -/
def State.servesFor (s : State) (t : Requester) : Bool :=
  if t = 16 then s.sbpCore && s.configured
  else if t = 17 then s.ctl.tapRule = .opened && s.powered .tck && s.servesRegs
  else s.servesRegs

/-- The clock domain, by the index of Table 1-3, that serves the registers of block `b`. (log 25 DESIGN CHOICE) -/
def clockOf (b : Nat) : Nat :=
  if b = 1 then 22
  else if b = 4 then 2
  else if b = 5 ∨ b = 6 then 3
  else if b = 16 ∨ b = 17 then b - 2
  else if b = 18 ∨ b = 19 then 16
  else if 32 ≤ b ∧ b < 40 then b - 28
  else if b = 49 then 23
  else if b = 64 ∨ b = 65 then 17
  else if b = 80 then 18
  else 1

/-- An access to register `a` ungates the clock domain of its block (R10). (log 25 DESIGN CHOICE) -/
def ungate (a : Nat) (s : State) : State :=
  { s with ctl := { s.ctl with gated := s.ctl.gated &&& ~~~(1#25 <<< clockOf (blockOf a)) } }

/-- The access to register `a`, begun in `s`, has left `t`: a domain that was gated before is gated again (R10), unless
the access has reset the core. (log 25 DESIGN CHOICE) -/
def regate (a : Nat) (s t : State) : State :=
  if t.ctl.phase = s.ctl.phase then
    { t with ctl := { t.ctl with gated := t.ctl.gated ||| (s.ctl.gated &&& (1#25 <<< clockOf (blockOf a))) } }
  else t

/-- An access to register `a` whose effect is `op`, in its clock domain (R10). (log 25 DESIGN CHOICE) -/
def clocked (a : Nat) (op : State → State) (s : State) : State := regate a s (op (ungate a s))

/-- The write of `w` to address `a` by requester `t` is held. -/
def holdReg (t : Requester) (a w : Word) (s : State) : State :=
  { s with txn := { s.txn with held := s.txn.held ++ [.reg t a w] } }

/-- A write of `w` to register `a` by requester `t` whose effect is `op`: held, refused with STATUS PERMISSION, or
applied; nothing where the core does not take requests. (log 8 DESIGN CHOICE, 9 DEDUCED, 32 DEDUCED) -/
def regCmd (t : Requester) (a : Nat) (w : Word) (op : Nat → Word → State → State) (s : State) : State :=
  if s.holdsFor t then holdReg t (BitVec.ofNat 32 a) w s
  else if s.servesFor t then
    if (t = 16 && !s.sbpWrites) || !s.mayWrite (whoOf t) a then { s with lastStatus := stPermission }
    else clocked a (op (whoOf t) w) { s with lastStatus := stOk }
  else s

/-- A read of register `a` by requester `t` whose effect is `op`: held, refused with STATUS PERMISSION, or carried out;
nothing where the core does not take requests. -/
def readCmd (t : Requester) (a : Nat) (consume : Bool) (op : State → State) (s : State) : State :=
  if s.holdsFor t then { s with txn := { s.txn with held := s.txn.held ++ [.read t consume] } }
  else if s.servesFor t then
    if s.mayRead (whoOf t) a then clocked a op { s with lastStatus := stOk } else { s with lastStatus := stPermission }
  else s

/-- The BOUND records in force. -/
def State.bounds (s : State) : List BoundRec := (s.cfg.map (·.bounds)).getD []

/-- A rejected RB write: nothing changes but STR_BERR_ADDR, STR_BERR_INFO and STR_STAT.BERR; STATUS BOUND (R60).
(log 38 DEDUCED) -/
def rbRejected (who a lsb reason : Nat) (s : State) : State :=
  let s := { s with lastStatus := stBound }
  let s := (s.setReg STR_BERR_ADDR (BitVec.ofNat 32 a)).setFlds STR_BERR_INFO
    [(0, 4, who), (4, 4, reason), (8, 8, lsb)]
  (s.bump STR_BERR_INFO 16 16 1).raise STR_STAT 5

/-- A write of `w` to register `a` with RB fields (R51): rejected, or stored and followed by `k`. -/
def rbWrite (a who : Nat) (w : Word) (k : State → State) (s : State) : State :=
  match rbReject s.bounds (some who) a (s.reg a) w with
  | some (lsb, reason) => rbRejected who a lsb reason s
  | none => k (s.write a w)

end Sys2Proof.Machine
end

