-- ==== Sys2Proof/Machine/Flags.lean ====
section
/-! DEFINITION. Interrupt sources and summaries (Table 15-4, R324 to R328), and the evaluation after every command that
queues a message for a tenant whose summary has risen while it is armed (R326). -/

namespace Sys2Proof.Machine

/-- Regions (by index) owned by tenant `t` with FLAGS bit 1. -/
def State.notifyRegions (s : State) (t : Nat) : List Nat :=
  match s.cfg with
  | none => []
  | some i => (List.range i.regions.length).filter fun k =>
      (i.regions[k]?).any fun r => r.size ≠ 0 && r.owner == t && bit r.flags 1

/-- The STALE or LOST flag of region `k` is set. -/
def State.staleOrLost (s : State) (k : Nat) : Bool := s.flag (MEM_STALE (k / 32)) (k % 32) || s.flag (MEM_LOST (k / 32)) (k % 32)

/-- A status register and its enables have a common 1. -/
def State.irq (s : State) (stat en : Nat) : Bool := s.reg stat &&& s.reg en != 0

/-- Source `n` of Table 15-4 is active; source 0 is per tenant (`sourceFor`). -/
def State.source (s : State) (n : Nat) : Bool :=
  match n with
  | 1 => s.irq RTC_ISTAT RTC_IEN
  | 2 => (List.range 4).any fun k => s.fld (EVT_CFG k) 0 2 ≠ 0 &&
      (!(tget [] s.evt.queues k).isEmpty || s.flag EVT_STAT (4 + k))
  | 3 => s.fld STO_STAT 9 6 ≠ 0
  | 4 => s.flag NVH_STAT 4 || s.spareLow
  | 5 => s.fld PWR_STAT 16 3 ≠ 0
  | 6 => s.flag SEQ_STAT 3 || s.reg SEQ_TOUT ≠ 0 || s.reg SUP_FAULT ≠ 0
  | 7 => s.flag LOG_STAT 24
  | 8 => s.fld STR_STAT 4 2 ≠ 0
  | 9 => s.fld UPD_STAT 24 2 ≠ 0
  | 10 => s.flag OTP_STAT 19
  | 11 => s.fld SYS_DOOR_STAT 1 3 ≠ 0
  | 12 => s.fld (LNK_STAT 0) 5 2 ≠ 0
  | 13 => s.fld (LNK_STAT 1) 5 2 ≠ 0
  | 14 => s.fld (LNK_STAT 2) 5 2 ≠ 0
  | 15 => s.fld (LNK_STAT 3) 5 2 ≠ 0
  | 16 => s.flag TXN_STAT 16
  | 17 => s.irq (CH_ISTAT 0) (CH_IEN 0) || s.irq (OUT_ISTAT 0) (OUT_IEN 0)
  | 18 => s.irq (CH_ISTAT 1) (CH_IEN 1) || s.irq (OUT_ISTAT 1) (OUT_IEN 1)
  | 19 => s.irq (CH_ISTAT 2) (CH_IEN 2) || s.irq (OUT_ISTAT 2) (OUT_IEN 2)
  | 20 => s.irq (CH_ISTAT 3) (CH_IEN 3) || s.irq (OUT_ISTAT 3) (OUT_IEN 3)
  | 21 => s.irq TT_ISTAT TT_IEN
  | 22 => s.irq OPT_ISTAT OPT_IEN
  | 23 => (s.flag LED_IEN 0 && s.reg LED_OPEN ≠ 0) || (s.flag LED_IEN 1 && s.reg LED_SHORT ≠ 0)
  | 24 => s.irq (CAN_ISTAT 0) (CAN_IEN 0)
  | 25 => s.irq (CAN_ISTAT 1) (CAN_IEN 1)
  | 26 => s.irq ADC_ISTAT ADC_IEN
  | 27 => s.irq BKL_ISTAT BKL_IEN
  | 28 => s.irq FLK_ISTAT FLK_IEN
  | 29 => s.irq FLT_ISTAT FLT_IEN
  | 30 => s.irq ARB_ISTAT ARB_IEN
  | _ => false

/-- The tenant that source `n` is routed to (R324). -/
def State.route (s : State) (n : Nat) : Nat := s.fld (INT_ROUTE (n / 8)) (4 * (n % 8)) 4

/-- Source `n` is active for tenant `t`. -/
def State.sourceFor (s : State) (t n : Nat) : Bool :=
  if n = 0 then (s.notifyRegions t).any s.staleOrLost else s.source n && s.route n == t

/-- INT_PENDt (R325). -/
def State.intPend (s : State) (t : Nat) : Nat := ofPositions ((List.range 32).filter (s.sourceFor t))

/-- The summary St: some enabled source is active (R325). -/
def State.summary (s : State) (t : Nat) : Bool :=
  (bitsSet 32 (s.reg (INT_EN t)).toNat).any (s.sourceFor t)

/-- TENANT FLAGS bit 0: message interrupts enabled. -/
def State.msgEnabled (s : State) (t : Nat) : Bool := (s.tenantRec t).any fun r => bit r.flags 0

/-- The summaries of all tenants, bit t for tenant t. -/
def State.summaries (s : State) : BitVec 16 := BitVec.ofNat 16 (ofPositions ((List.range 16).filter s.summary))

/-- Interrupts are signalled: the core is powered, which it is not in P3 and deeper (R239, Table 9-1).
(log 155 DEDUCED) -/
def State.signals (s : State) : Bool := s.ladder ≤ 2

/-- INT_PIN_STAT: INTn_N is low while the summary of a tenant with that INT_PIN is 1 (R327). -/
def State.intPins (s : State) : Nat :=
  if !s.signals then 0 else ofPositions ((List.range 4).filter fun n => (List.range 16).any fun t =>
    s.summary t && (s.tenantRec t).any fun r => r.intPin == n)

/-- A MSG of tenant `t` waits: for a port, or on a port for its first transmission. (log 155 DEDUCED) -/
def State.msgWaits (s : State) (t : Nat) : Bool :=
  s.txn.msgWait.contains t || s.lnk.any fun e => e.2.qReq.any fun k => k.type = 4 && k.tenant.val = t

/-- Evaluate every tenant's summary: where it has risen while the tenant is armed and its FLAGS bit 0 is set, one MSG
is due and the tenant is disarmed (R326, R334). Nothing is signalled while the core has no power (R239).
(log 155 DEDUCED) -/
def settle (s : State) : State :=
  let now := s.summaries
  let due := if s.signals then (List.range 16).filter fun t =>
    now.getLsbD t && !s.txn.lastS.getLsbD t && s.txn.armed.getLsbD t && s.msgEnabled t else []
  { s with txn := { s.txn with lastS := if s.signals then now else s.txn.lastS,
                               armed := s.txn.armed &&& ~~~BitVec.ofNat 16 (ofPositions due),
                               msgWait := s.txn.msgWait ++ due.filter fun t => !s.msgWaits t } }

/-- The end of every meaning: the interrupt summaries are evaluated on the state it leaves. (log 4 DESIGN CHOICE) -/
def finish (s : State) : Host.Outcome State Fault Refusal := .next (settle s)

end Sys2Proof.Machine
end

