-- ==== Sys2Proof/Machine/Nv.lean ====
section
/-! DEFINITION. The NV array (08): the block map, the journal log and its records as bytes, checkpoints, selector rings
(R87, R88), the NV read window (R106), NEED and the available count (R163, R164). -/

namespace Sys2Proof.Machine

/-- Pool slots in state `st`. -/
def State.poolIn (s : State) (st : BlockState) : List Nat := poolSlots.filter fun l => (s.block l).state = st

/-- The logical block of offset `o` of area A (false) or B (true). -/
def areaBlock (area : Bool) (o : Nat) : Nat := (if area then 256 else 0) + o / blockSize

/-! ### The journal and its horizons -/

/-- The records that a start skips: not valid, and later than the newest checkpoint (R174). -/
def NvSt.skipped (n : NvSt) : Nat :=
  (n.journal.filter fun r => !r.ok && n.lastSeq.all fun q => seqAfter r.seq q).length

/-- Sectors `m` of the fixed block `b` have an ERASE_INTENT with no later ERASE_DONE and no QUARANTINE record (R174). -/
def NvSt.openIntent (n : NvSt) (b m : Nat) : Bool :=
  n.journal.foldl (fun o r => if !r.ok then o else match r.body with
    | .eraseIntent k x _ => if k = b ∧ x = m then true else o
    | .eraseDone k x _ => if k = b ∧ x = m then false else o
    | .quarantine k _ => if k = b then false else o
    | _ => o) false

/-- The NV journal fault, once for each fixed block that has failed since the last report (R170). -/
def reportLost (s : State) : State :=
  (List.range s.nv.lost).foldl (fun s _ => report 31 s) { s with nv := { s.nv with lost := 0 } }

/-- Append a record to the journal; none is written without VPP_NV (R490). (log 93 DEDUCED) -/
def jAppend (b : JBody) (s : State) : State := if s.vppOn then reportLost { s with nv := jLog b s.nv } else s

/-- The valid horizons in the log. -/
def State.horizons (s : State) : List Horizon :=
  s.nv.journal.filterMap fun r => match r.body with | .horizon h => if r.ok then some h else none | _ => none

/-- H1: the horizon with the highest GEN (07, Restore). -/
def State.h1 (s : State) : Option Horizon :=
  s.horizons.foldl (fun m h => match m with | none => some h | some k => if k.gen < h.gen then some h else m) none

/-- H2: the highest GEN below H1's that names the other area. -/
def State.h2 (s : State) : Option Horizon :=
  match s.h1 with
  | none => none
  | some h => s.horizons.foldl
      (fun m k => if k.gen < h.gen ∧ k.area ≠ h.area then
          (match m with | none => some k | some q => if q.gen < k.gen then some k else m) else m) none

/-! ### Checkpoints (R162) -/

def blockStateNum : BlockState → Nat
  | .dirty => 0
  | .preerasing => 1
  | .erased => 2
  | .quarantined => 3
  | .bad => 4
  | .mapped => 5

/-- One 12-byte entry. -/
def ckptEntry (b : Block) : List Byte :=
  leBytes 2 b.phys ++ leBytes 1 (Config.blockStateCode (blockStateNum b.state)) ++ [0] ++ leBytes 4 b.wear ++
    leBytes 4 b.progTime

/-- The bytes of a checkpoint: one entry per logical block, ascending. (log 81 DESIGN CHOICE) -/
def ckptBytes (t : Tab Block) : List Byte := (List.range 768).flatMap fun l => ckptEntry (tget (blockDefault l) t l)

/-- Pre-erase block `b` of a map half (R158): a block whose verify fails three times becomes BAD (R169, R170).
(log 88 DESIGN CHOICE) -/
def eraseMapBlock (b : Nat) (s : State) : State :=
  let x := eraseFixed b 0xFF 6 s.nv
  let s := reportLost { s with nv := jCollect 30 x.2 }
  if x.1 then s else (jAppend (.retire b 1) s).markBlock b .bad

/-- Write a checkpoint into the half that does not hold the newest one, then a CHECKPOINT record (R162); none into a
half with a BAD block, and none without VPP_NV (R490). (log 81 DESIGN CHOICE, 93 DEDUCED) -/
def checkpoint (s : State) : State :=
  let half : Nat := if s.nv.newestHalf = some 0 then 1 else 0
  let l := 764 + 2 * half
  let usable := fun (s : State) => (s.block l).state ≠ .bad && (s.block (l + 1)).state ≠ .bad
  let put := fun (c : Option (Nat × Tab Block)) (s : State) =>
    { s with nv := if half = 0 then { s.nv with ckpt0 := c } else { s.nv with ckpt1 := c } }
  if !s.vppOn then s else
  let s := { s with nv := { s.nv with mapsSinceCkpt := 0 } }
  if !usable s then s
  else
    let s := eraseMapBlock (l + 1) (eraseMapBlock l (put none s))
    if !usable s then s
    else
      let last := (s.nv.jseq + 2 ^ 32 - 1) % 2 ^ 32
      jAppend (.checkpoint half last) (put (some (last, s.nv.blocks)) s)

/-- Write a MAP record. -/
def jMapOnly (gen : Nat) (ps : List (Nat × Nat)) (s : State) : State :=
  if s.vppOn then
    let s := jAppend (.map gen ps) s
    { s with nv := { s.nv with mapsSinceCkpt := s.nv.mapsSinceCkpt + 1 } }
  else s

/-- A checkpoint follows every 64 MAP records (R162). -/
def checkpointDue (s : State) : State := if 64 ≤ s.nv.mapsSinceCkpt then checkpoint s else s

/-- Write a MAP record and, after every 64, a checkpoint (R162). -/
def jMap (gen : Nat) (ps : List (Nat × Nat)) (s : State) : State := checkpointDue (jMapOnly gen ps s)

/-! ### The block map at a start (R161, R174) -/

/-- The logical block whose physical block is `p`. -/
def mapOwner (t : Tab Block) (p : Nat) : Option Nat := (List.range 768).find? fun l => (tget (blockDefault l) t l).phys = p

/-- The logical blocks that the map remaps (Table 8-1). -/
def remapped (l : Nat) : Bool := l < 536 || (540 ≤ l && l ≤ 763)

/-- Change the entry of the logical block that has physical block `p`. -/
def mapAt (p : Nat) (g : Nat → Block → Block) (t : Tab Block) : Tab Block :=
  match mapOwner t p with
  | some l => tmod (blockDefault l) t l (g l)
  | none => t

/-- Logical block `l` takes the physical block of `q`, programmed at `time`; what it held goes to `q`, DIRTY if it was
in use. -/
def swapBlocks (l q time : Nat) (t : Tab Block) : Tab Block :=
  let a := tget (blockDefault l) t l
  let b := tget (blockDefault q) t q
  tset (blockDefault q) (tset (blockDefault l) t l { b with state := .mapped, progTime := time }) q
    { a with state := if a.state = .mapped ∨ a.state = .erased then .dirty else a.state }

/-- The substitutions (logical, physical) of a MAP record take effect. -/
def swapAll (time : Nat) (ps : List (Nat × Nat)) (t : Tab Block) : Tab Block :=
  ps.foldl (fun t p => match mapOwner t p.2 with
    | some q => if q = p.1 then t else swapBlocks p.1 q time t
    | none => t) t

/-- The in-place blocks of a committed horizon are MAPPED. -/
def mapCommitted (h : Horizon) (t : Tab Block) : Tab Block :=
  let rs := h.entries.filter fun e => e.state = 1
  let bs := (rs.flatMap fun e => (List.range ((e.base + e.size - 1) / blockSize - e.base / blockSize + 1)).map
    (· + e.base / blockSize)).eraseDups.map fun b => areaBlock h.area (b * blockSize)
  bs.foldl (fun t l => tmod (blockDefault l) t l fun b =>
    if b.state = .erased then { b with state := .mapped, progTime := h.rtc } else b) t

/-- One valid record of the log, replayed: the map, and the MAP records that still wait for their horizon (R161).
(log 92 DESIGN CHOICE) -/
def replayOne (time : Nat) (x : Tab Block × List (Nat × List (Nat × Nat))) (b : JBody) :
    Tab Block × List (Nat × List (Nat × Nat)) :=
  match b with
  | .eraseIntent p m _ =>
    (mapAt p (fun l e => if m = 0xFF ∧ remapped l then { e with state := .preerasing } else e) x.1, x.2)
  | .eraseDone p m w =>
    (mapAt p (fun l e => { e with
      wear := w,
      state := if m ≠ 0xFF ∨ !remapped l then e.state else if 512 ≤ l ∧ l < 536 then .mapped else .erased }) x.1, x.2)
  | .map g ps => if g = 0 then (swapAll time ps x.1, x.2) else (x.1, x.2 ++ [(g, ps)])
  | .horizon h =>
    let due := (x.2.filter fun e => e.1 = h.gen).flatMap (·.2)
    (mapCommitted h (swapAll h.rtc due x.1), x.2.filter fun e => e.1 ≠ h.gen)
  | .quarantine p _ => (mapAt p (fun l e => if remapped l then { e with state := .quarantined } else e) x.1, x.2)
  | .retire p _ => (mapAt p (fun _ e => { e with state := .bad }) x.1, x.2)
  | .checkpoint _ _ => x

/-- The valid records of the log after the newest checkpoint, in SEQ order (R174). (log 92 DESIGN CHOICE) -/
def NvSt.replayed (n : NvSt) : List JBody :=
  (n.journal.filter fun r => r.ok && n.lastSeq.all fun q => seqAfter r.seq q).map (·.body)

/-- Steps 1 and 2 of R174: the block map is the newest checkpoint, with the later records replayed on it. A MAP record
holds no time: PROG_TIME of a block that one with GEN 0 has switched is free. (log 92 DESIGN CHOICE) -/
def loadMap (s : State) : State :=
  let (time, s) := s.free (2 ^ 32)
  let base := match s.nv.newestCkpt with | some c => c.2 | none => []
  let rs := s.nv.replayed
  let maps := (rs.filter fun b => match b with | .map _ _ => true | _ => false).length
  { s with nv := { s.nv with blocks := (rs.foldl (replayOne time) (base, [])).1, mapsSinceCkpt := maps } }

/-! ### Reading the array -/

/-- A byte of a list at an offset, where the offset lies inside it. -/
def inList (base o : Nat) (l : List Byte) : Option Byte := if base ≤ o then l[o - base]? else none

/-- A byte of the journal blocks 536 to 539, by offset in the four blocks. (log 82 DESIGN CHOICE) -/
def State.journalByte (s : State) (o : Nat) : Byte :=
  let blk := 536 + o / blockSize
  let sec := o % blockSize / sectorSize
  let off := o % sectorSize
  if sec = 0 ∧ (blk = 536 ∨ blk = 539) then
    (((s.ring (blk == 539))[off / 32]?).bind fun r => (selBytes (b2n (blk == 539)) r)[off % 32]?).getD 0
  else
    (s.nv.journal.findSome? fun r =>
      if logSector r.sector = (blk, sec) then inList r.offset off (jBytes r) else none).getD 0

/-- A byte of the block map halves 764 to 767, by offset in the four blocks. -/
def State.mapByte (s : State) (o : Nat) : Byte :=
  let half := o / (2 * blockSize)
  let c := if half = 0 then s.nv.ckpt0 else s.nv.ckpt1
  (c.bind fun k => (ckptBytes k.2)[o % (2 * blockSize)]?).getD 0

/-- Whether a read of logical block `l` returns the poison pattern: QUARANTINED or PREERASING (R106, R172), or a store
area in RETIRED (Table 4-4). (log 51 DESIGN CHOICE) -/
def State.blockPoisoned (s : State) (l : Nat) : Bool :=
  let st := (s.block l).state
  st = .quarantined || st = .preerasing || (l < 512 && s.otp.force.life == 3)

/-- The byte at window offset `o` lies in a selector ring whose erase has not completed (08, Edges). -/
def State.ringPoisoned (s : State) (o : Nat) : Bool :=
  let l := o / blockSize
  o % blockSize < sectorSize && ((l = 536 && s.nv.ringTorn.getLsbD 0) || (l = 539 && s.nv.ringTorn.getLsbD 1))

/-- The byte at offset `o` of the NV read window (R106): pre-erased blocks read 0; a poisoned word reads the poison
pattern. (log 61 DESIGN CHOICE, 62 DESIGN CHOICE) -/
def State.nvByte (s : State) (o : Nat) : Byte :=
  let l := o / blockSize
  let poison := BitVec.ofNat 8 (bits 0xBAD0BAD0 (8 * (o % 4)) 8)
  if s.blockPoisoned l || s.ringPoisoned o then poison
  else if 536 ≤ l ∧ l ≤ 539 then s.journalByte (o - 536 * blockSize)
  else if 764 ≤ l then s.mapByte (o - 764 * blockSize)
  else if (s.block l).state = .erased then 0
  else if s.nv.poison.contains (s.physAddr l o / 16) then poison
  else tget 0 s.nv.cells (s.physAddr l o)

/-- Whether the 128-bit word at window offset `o` reads as poison. -/
def State.nvPoisoned (s : State) (o : Nat) : Bool :=
  s.blockPoisoned (o / blockSize) || s.ringPoisoned o || s.nv.poison.contains (s.physAddr (o / blockSize) o / 16)

/-- Readers over the structure slot and the glyph slot of a pair. -/
def State.structReader (s : State) (pair : Bool) : Reader := fun i => if i < 0x100000 then s.nvByte (structBase pair + i) else 0
def State.glyphReader (s : State) (pair : Bool) : Reader := fun i => if i < 0x200000 then s.nvByte (glyphBase pair + i) else 0

/-- The verification of the pair `pair` at a start (R48): step 15 starts from the registers as the reset has left them.
(log 39 DEDUCED) -/
def State.verifyPair (s : State) (pair : Bool) : LoadErr ⊕ Image :=
  verifyImage s.otp.force s.regs (s.structReader pair) (s.glyphReader pair)

/-- The verification of the pair `pair` by a command (R85, R91): step 15 starts from what a start would find, the reset
values of every core register (R44) and the registers of the backup domain. (log 39 DEDUCED) -/
def State.verifyAhead (s : State) (pair : Bool) : LoadErr ⊕ Image :=
  verifyImage s.otp.force (s.regs.filter fun e => isBackup e.1) (s.structReader pair) (s.glyphReader pair)

/-! ### Regions, store order, NEED (R163, R164) -/

/-- Enabled regions of class `c`, as indices, by PRIORITY, ties by BASE (07, Store). -/
def classOrder (rs : List RegionRec) (c : Nat) : List Nat :=
  let key := fun (i : Nat) => ((rs[i]?).map fun r => r.priority * 2 ^ 32 + r.base).getD 0
  sortBy key ((List.range rs.length).filter fun i => (rs[i]?).any fun r => r.size ≠ 0 && r.cls == c)

/-- The regions of the applied image. -/
def State.regions (s : State) : List RegionRec := (s.cfg.map (·.regions)).getD []

/-- Store order: Class A, then Class B. -/
def State.storeOrder (s : State) : List Nat := classOrder s.regions 0 ++ classOrder s.regions 1

/-- The 256 KiB blocks (offset / 256 KiB) that a region touches. -/
def regionBlocks (r : RegionRec) : List Nat :=
  if r.size = 0 then [] else
  (List.range ((r.base + r.size - 1) / blockSize - r.base / blockSize + 1)).map (· + r.base / blockSize)

/-- The entry of a horizon that matches a region: BASE, SIZE and OWNER identical. -/
def hMatch (h : Option Horizon) (r : RegionRec) : Option HEntry :=
  h.bind fun k => k.entries.find? fun e => e.base = r.base ∧ e.size = r.size ∧ e.owner = r.owner

/-- Restore source of an enabled Class A or B region (Table 7-5): the area, or none for zeroed; STALE; LOST. -/
def State.restoreSource (s : State) (r : RegionRec) : Option Bool × Bool × Bool :=
  let inH2 := (hMatch s.h2 r).any fun e => e.state == 1
  match s.h1, s.h2, hMatch s.h1 r with
  | some h, _, some e =>
    if e.state = 1 then (some h.area, false, false) else if inH2 then (some (!h.area), false, false) else (none, false, true)
  | some h, _, none => if inH2 then (some (!h.area), true, false) else (none, false, true)
  | none, _, _ => (none, false, true)

/-- The target area: the one that does not hold the newest committed store; A where there is none. -/
def State.targetArea (s : State) : Bool := match s.h1 with | none => false | some h => !h.area

/-- Some enabled region that touches block `b` resolves to area `a`. -/
def State.blockNeeded (s : State) (a : Bool) (b : Nat) : Bool :=
  s.regions.any fun r => r.size ≠ 0 && r.cls ≤ 1 && (regionBlocks r).contains b && (s.restoreSource r).1 == some a

/-- Blocks of the target area whose in-place pre-erase is allowed (08, Model), in the store order of the regions. -/
def State.inPlaceEligible (s : State) : List Nat :=
  ((s.storeOrder.flatMap fun i => ((s.regions[i]?).map regionBlocks).getD []).eraseDups).filter fun b =>
    !s.blockNeeded s.targetArea b

/-- The in-place block of the target area at block `b` is ERASED. -/
def State.inPlaceErased (s : State) (b : Nat) : Bool :=
  (s.block (areaBlock s.targetArea (b * blockSize))).state = .erased

/-- The blocks that enabled Class A regions touch. -/
def State.classABlocks (s : State) : List Nat :=
  ((s.regions.filter fun r => r.size ≠ 0 && r.cls == 0).flatMap regionBlocks).eraseDups

/-- NEED (R164). -/
def State.need (s : State) : Nat := s.classABlocks.length

/-- The available count (R163). -/
def State.avail (s : State) : Nat :=
  (s.poolIn .erased).length + ((List.range 256).filter s.inPlaceErased).length

/-- RESERVE_LOW (R164). -/
def State.reserveLow (s : State) : Bool :=
  (s.poolIn .erased).length < (s.classABlocks.filter fun b => !s.inPlaceErased b).length

/-- The least-worn ERASED pool slot outside `taken`; of several equally worn ones the lowest. (log 89 DESIGN CHOICE) -/
def State.leastWornErased (s : State) (taken : List Nat) : Option Nat :=
  ((s.poolIn .erased).filter fun l => !taken.contains l).foldl
    (fun m l => match m with
      | none => some l
      | some k => if (s.block l).wear < (s.block k).wear then some l else m) none

/-- The spare fault: fewer than 72 pool slots are not BAD (R169). -/
def spareCheck (s : State) : State := if s.spareLow then report 30 s else s

/-- Number of blocks of the array in state `st`. -/
def State.blocksIn (s : State) (st : BlockState) : Nat := ((List.range 768).filter fun l => (s.block l).state = st).length

/-! ### Housekeeping gives way (R171) -/

/-- The operation ends: ACT 0. -/
def hkEnd (s : State) : State :=
  { s with nv := { s.nv with hk := .none } }.setFlds NVH_STAT [(0, 2, 0), (2, 1, 0)]

/-- Another user needs the array (R171): a pre-erase suspends, a copy is abandoned and its target becomes DIRTY. -/
def hkSuspend (s : State) : State :=
  match s.nv.hk with
  | .none => s
  | .preerase _ _ => s.raise NVH_STAT 2
  | .copy _ t _ => hkEnd (s.markBlock t .dirty)

/-- A suspended pre-erase of one of the blocks `ls` is given up: another user erases the block itself.
(log 87 DEDUCED) -/
def hkGiveUp (ls : List Nat) (s : State) : State :=
  match s.nv.hk with
  | .preerase l _ => if ls.contains l then hkEnd s else s
  | _ => s

/-- Scrub and migration end where the device comes to rest in P3 or deeper (R165): the copy is abandoned. -/
def hkRest (s : State) : State :=
  match s.nv.hk with
  | .copy _ _ _ => hkSuspend s
  | _ => s

end Sys2Proof.Machine
end

