-- ==== Sys2Proof/Machine/Memory.lean ====
section
/-! DEFINITION. Working memory (06): its bytes, fill states, ECC words, the rights of a tenant, the fill of a line before
an access (R119, R120, R141), and the reads and writes that count errors (R107 to R112, R124). -/

namespace Sys2Proof.Machine

/-- Size of working memory, of a line and of a touch group in lines. -/
def wmSize : Nat := 0x4000000
def lineSize : Nat := 64
def groupLines : Nat := 64

/-! ### Fill runs -/

/-- The fill state of a line; none for a valid line. -/
def fillAt (f : List FillRun) (line : Nat) : Option Fill :=
  (f.find? fun r => r.lo ≤ line ∧ line < r.hi).map (·.kind)

/-- The runs with lines [lo, hi) valid. -/
def fillCut (f : List FillRun) (lo hi : Nat) : List FillRun :=
  f.flatMap fun r =>
    (if r.lo < min r.hi lo then [{ r with hi := min r.hi lo }] else []) ++
    (if max r.lo hi < r.hi then [{ r with lo := max r.lo hi }] else [])

/-- The runs with lines [lo, hi), valid before, in state `k`; in rising order. -/
def fillAdd (f : List FillRun) (lo hi : Nat) (k : Fill) : List FillRun :=
  if lo < hi then sortBy (·.lo) (fillCut f lo hi ++ [{ lo := lo, hi := hi, kind := k }]) else f

/-- The parts of [lo, hi) that are not valid. -/
def fillWithin (f : List FillRun) (lo hi : Nat) : List FillRun :=
  f.filterMap fun r =>
    if max r.lo lo < min r.hi hi then some { r with lo := max r.lo lo, hi := min r.hi hi } else none

/-- Lines of a run list. -/
def fillLines (f : List FillRun) : Nat := (f.map fun r => r.hi - r.lo).sum

/-- A run waits for restore. -/
def FillRun.restores (r : FillRun) : Bool := match r.kind with | .toRestore _ => true | .toZero => false

/-! ### Copying words between the array and working memory (R111) -/

/-- The sorted word list with [lo, lo + n) replaced by those of `src` in [off, off + n), moved. -/
def wordCopy (dst : List Nat) (lo : Nat) (src : List Nat) (off n : Nat) : List Nat :=
  dst.filter (· < lo) ++ ((src.filter fun w => off ≤ w ∧ w < off + n).map fun w => w - off + lo) ++
    dst.filter fun w => lo + n ≤ w

/-- Cut [a, b) at multiples of the block size. -/
def blockChunks (a b : Nat) : List (Nat × Nat) :=
  if b ≤ a then [] else
  ((List.range ((b - 1) / blockSize - a / blockSize + 1)).map (· + a / blockSize)).map fun k =>
    (max a (k * blockSize), min b ((k + 1) * blockSize))

/-- Restore working-memory bytes [a, b), inside one block, from store area `area`, word by word with check bits. -/
def restoreChunk (area : Bool) (a b : Nat) (s : State) : State :=
  let p := s.physAddr (areaBlock area a) a
  { s with mem := { s.mem with
      wm := tcopy s.mem.wm a s.nv.cells p (b - a),
      poison := wordCopy s.mem.poison (a / 16) s.nv.poison (p / 16) ((b - a) / 16),
      weak := wordCopy s.mem.weak (a / 16) s.nv.weak (p / 16) ((b - a) / 16) } }

/-- Bytes [a, b) of working memory become zeros. -/
def zeroBytes (a b : Nat) (s : State) : State :=
  { s with mem := { s.mem with
      wm := tcut s.mem.wm a b, poison := s.mem.poison.filter fun w => w * 16 < a || b ≤ w * 16,
      weak := s.mem.weak.filter fun w => w * 16 < a || b ≤ w * 16 } }

/-- Complete the fill of the runs `rs`: to-zero lines become zeros, to-restore lines take the store's content, but for
RETIRED, which restores no store area (Table 4-4). (log 51 DESIGN CHOICE) -/
def fillRuns (rs : List FillRun) (s : State) : State :=
  rs.foldl (fun s r =>
    let a := r.lo * lineSize
    let b := r.hi * lineSize
    let s := match r.kind with
      | .toRestore area =>
        if s.otp.force.life = 3 then zeroBytes a b s
        else (blockChunks a b).foldl (fun s (c : Nat × Nat) => restoreChunk area c.1 c.2 s) s
      | .toZero => zeroBytes a b s
    { s with mem := { s.mem with fill := fillCut s.mem.fill r.lo r.hi } }) s

/-- The lines of [lo, hi) become valid. -/
def fillSpan (lo hi : Nat) (s : State) : State := fillRuns (fillWithin s.mem.fill lo hi) s

/-- An access touches bytes [a, a + n): every line that is not valid is filled first (R120). A touch of a to-restore
line fills that line and then the remaining lines of its 4 KiB group, and is counted in STO_TOUCH (R141).
(log 66 DEDUCED, 86 DEDUCED) -/
def touch (a n : Nat) (s : State) : State :=
  if n = 0 then s
  else
    let lo := a / lineSize
    let hi := (a + n - 1) / lineSize + 1
    let runs := fillWithin s.mem.fill lo hi
    if runs.isEmpty then s
    else
      let groups := (((runs.filter FillRun.restores).flatMap fun r => (List.range (r.hi - r.lo)).map (· + r.lo)).map
        (· / groupLines)).eraseDups
      let s := if groups.isEmpty then s else hkSuspend (s.bump STO_TOUCH 0 32 groups.length)
      let s := fillSpan lo hi s
      groups.foldl (fun s g =>
        fillRuns ((fillWithin s.mem.fill (g * groupLines) ((g + 1) * groupLines)).filter FillRun.restores) s) s

/-! ### ECC -/

/-- Words touched by bytes [a, a + n). -/
def wordsOf (a n : Nat) : List Nat := if n = 0 then [] else (List.range ((a + n - 1) / 16 - a / 16 + 1)).map (· + a / 16)

/-- A corrected single-bit error at word `w`: counted, recorded, written back (R108). -/
def correctWord (w : Nat) (s : State) : State :=
  (({ s with mem := { s.mem with weak := s.mem.weak.filter (· ≠ w) } }.bump MEM_ECC_CNT 0 16 1).setReg MEM_CE_ADDR
    (BitVec.ofNat 32 (w * 16)))

/-- The fault sources an uncorrectable error of working memory at word `w` meets (R124): 26 in a Class A region, 27 in
a region owned by T1, else 25. -/
def State.ueSources (s : State) (w : Nat) : List Nat :=
  let rs := s.regions.filter fun r => r.size ≠ 0 && r.base ≤ w * 16 && w * 16 < r.base + r.size
  let l := (if rs.any (·.cls = 0) then [26] else []) ++ (if rs.any (·.owner = 1) then [27] else [])
  if l.isEmpty then [25] else l

/-- An uncorrectable error at address `addr` met by requester (`tenant`, `src`): counted and recorded (R109, R112). -/
def countUe (addr tenant src : Nat) (s : State) : State :=
  ((s.bump MEM_ECC_CNT 16 16 1).setReg MEM_UE_ADDR (BitVec.ofNat 32 (addr / 16 * 16))).setFlds MEM_UE_INFO
    [(0, 4, tenant), (4, 3, src)]

/-- The poisoned words among `ws`. -/
def State.poisoned (s : State) (ws : List Nat) : List Nat := ws.filter fun w => s.mem.poison.contains w

/-- A read of words `ws` by (`tenant`, `src`): single-bit errors corrected, double-bit errors counted; the answer names
the fault sources of each double-bit error. (log 65 DEDUCED) -/
def eccCount (ws : List Nat) (tenant src : Nat) (s : State) : List (List Nat) × State :=
  let s := (ws.filter fun w => s.mem.weak.contains w).foldl (fun s w => correctWord w s) s
  ((s.poisoned ws).map s.ueSources, (s.poisoned ws).foldl (fun s w => countUe (w * 16) tenant src s) s)

/-- The reports of the errors met, one after the other. (log 65 DEDUCED, 198 DEDUCED) -/
def reportAll (l : List (List Nat)) (s : State) : State := l.foldl (fun s n => reportMany n s) s

/-- A read that is also reported at once. -/
def eccRead (ws : List Nat) (tenant src : Nat) (s : State) : State :=
  let r := eccCount ws tenant src s
  reportAll r.1 r.2

/-- The poison pattern byte at an address (R109). -/
def poisonByte (a : Nat) : Byte := BitVec.ofNat 8 (bits 0xBAD0BAD0 (8 * (a % 4)) 8)

/-- The byte a requester reads at a valid address: the pattern where the word is poisoned. -/
def State.wmByte (s : State) (a : Nat) : Byte :=
  if s.mem.poison.contains (a / 16) then poisonByte a else tget 0 s.mem.wm a

/-- The `n` bytes a requester reads at `a`, lines filled. -/
def State.wmBytes (s : State) (a n : Nat) : List Byte := (List.range n).map fun i => s.wmByte (a + i)

/-- A write covers word `w` completely. -/
def coversWord (a n w : Nat) : Bool := a ≤ w * 16 && w * 16 + 16 ≤ a + n

/-- Write one byte. -/
def State.putByte (s : State) (a : Nat) (b : Byte) : State := { s with mem := { s.mem with wm := tset 0 s.mem.wm a b } }

/-- Write bytes at `a` for `tenant` (R107, R110, R119): lines filled first; a partial write of a poisoned word leaves it
unchanged and counts an uncorrectable error; a complete one cures it. Answers whether a poisoned word was met, and the
fault sources to report. (log 63 DEDUCED) -/
def wmWrite (a : Nat) (data : List Byte) (tenant : Nat) (s : State) : Bool × List (List Nat) × State :=
  let n := data.length
  let s := touch a n s
  let ws := wordsOf a n
  let bad := (s.poisoned ws).filter fun w => !coversWord a n w
  let part := ws.filter fun w => !coversWord a n w
  let r := eccCount part tenant 0 s
  let m := r.2.mem
  let s := { r.2 with mem := { m with poison := m.poison.filter fun w => !coversWord a n w,
                                      weak := m.weak.filter fun w => !coversWord a n w } }
  (!bad.isEmpty, r.1, data.zipIdx.foldl (fun s e => if bad.contains ((a + e.2) / 16) then s else s.putByte (a + e.2) e.1) s)

/-! ### Rights of a tenant (R104) -/

/-- Region `r` covers byte `a`. -/
def regionCovers (r : RegionRec) (a : Nat) : Bool := r.size ≠ 0 && r.base ≤ a && a < r.base + r.size

/-- The tenant may read (or write) byte `a`. -/
def State.byteRight (s : State) (t : Nat) (write : Bool) (a : Nat) : Bool :=
  match s.regions.filter (regionCovers · a) with
  | [] => t == 0
  | l => l.any fun r => r.owner == t || bit (if write then r.shareWr else r.shareRd) t

/-- Every byte of [a, a + n) may be accessed (R104). -/
def State.wmRight (s : State) (t : Nat) (write : Bool) (a n : Nat) : Bool :=
  (List.range n).all fun i => s.byteRight t write (a + i)

/-- FILL_DONE (MEM_STAT): no line is to-zero or to-restore. -/
def State.fillDone (s : State) : Bool := s.mem.fill.isEmpty

/-- STO_RST.LEFT: 64 KiB units that still hold to-restore lines. -/
def State.restoreLeft (s : State) : Nat :=
  (((s.mem.fill.filter FillRun.restores).flatMap fun r =>
    (List.range ((r.hi - 1) / 1024 - r.lo / 1024 + 1)).map (· + r.lo / 1024)).eraseDups).length

end Sys2Proof.Machine
end

