-- ==== Sys2Proof/Machine/Store.lean ====
section
/-! DEFINITION. Sluice (07): the energy model, the store and its commit, and the resolution of a restore. Energies are
in units of 1/32 fJ and times in units of 0.1 µs, so that Table 7-1 is exact. -/

namespace Sys2Proof.Machine

/-! ### Energy model (Table 7-1) -/

/-- E_avail of a VHOLD_SNS code: C · (V² − V_MIN²) with V in units of 1/4 mV (R142). (log 68 DEDUCED) -/
def State.energyOf (s : State) (code : Nat) : Nat :=
  (s.reg STO_HOLD).toNat *
    (min ((75 * code) ^ 2) (16 * s.fld STO_VLIM 16 16 ^ 2) - 16 * s.fld STO_VLIM 0 16 ^ 2)

/-- EFF taken between 50 and 100. -/
def State.eff (s : State) : Nat := max 50 (min 100 (s.fld STO_LOAD 16 8))

/-- P_decl as a fraction: energy units per time unit. (log 68 DEDUCED) -/
def State.pDecl (s : State) : Nat × Nat := (3200000 * (500000 + s.fld STO_LOAD 0 16 * s.eff), s.eff)

/-- P_obs, if defined: over the newest estimate and the oldest one not more than 256 µs older. (log 68 DEDUCED) -/
def pObs (l : List (Nat × Nat)) : Option (Nat × Nat) :=
  match l with
  | [] => none
  | b :: _ =>
    match (l.filter fun a => b.1 ≤ a.1 + 2560).getLast? with
    | none => none
    | some a => if 640 ≤ b.1 - a.1 then some (a.2 - b.2, b.1 - a.1) else none

/-- P_draw: the larger of P_decl and P_obs. -/
def State.pDraw (s : State) : Nat × Nat :=
  match pObs s.sto.estimates with
  | none => s.pDecl
  | some o => if o.1 * s.pDecl.2 ≤ s.pDecl.1 * o.2 then s.pDecl else o

/-- t(r) of a region of `size` bytes, in units of 0.1 µs / 2^33. -/
def regionTime (size : Nat) : Nat := 5 * 2 ^ 33 + size * 10 ^ 7

/-- 20 µs of the final reserve, in the same units. -/
def reserveTime : Nat := 200 * 2 ^ 33

/-- E_avail covers `time` (units of 0.1 µs / 2^33) at power `p`. (log 68 DEDUCED) -/
def covers (e : Nat) (p : Nat × Nat) (time : Nat) : Bool := p.1 * time ≤ e * p.2 * 2 ^ 33

/-- A VHOLD_SNS sample: STO_SNS and STO_EST follow, and the estimate is kept while it can serve P_obs (R132).
(log 69 DESIGN CHOICE) -/
def takeSample (time : Nat) (vhold : Nat) (s : State) : State :=
  let e := s.energyOf vhold
  let s := (s.setFld STO_SNS 0 10 vhold).setFld STO_EST 0 24 (min (e / 32000000000) 0xFFFFFF)
  { s with sto := { s.sto with time := time, estimates := (time, e) :: s.sto.estimates.filter fun a => time ≤ a.1 + 2560 } }

/-! ### Which regions a store takes -/

/-- A hot region: an enabled Class A or B region wholly inside the hot pool (09, States). -/
def hotRegion (r : RegionRec) : Bool := r.size ≠ 0 && r.cls ≤ 1 && r.base + r.size ≤ 0x200000

/-- The regions of a store, in store order; an entry into P3 leaves out the hot ones (Table 9-3). -/
def State.storeRegions (s : State) (hot : Bool) : List Nat :=
  s.storeOrder.filter fun i => hot || !((s.regions[i]?).any hotRegion)

/-- STO_STAT.STATE. -/
def State.stoState (s : State) : Nat := s.fld STO_STAT 0 3

/-- The admission test of R138: 0 admitted, else 2 BUSY, 3 NOT_READY or 1 ENERGY_SHORT. -/
def State.admission (s : State) (hot : Bool) (vhold : Nat) : Nat :=
  let total := ((s.storeRegions hot).map fun i => ((s.regions[i]?).map fun r => regionTime r.size).getD 0).sum
  if s.stoState = 1 ∨ s.stoState = 2 ∨ s.stoState = 3 then 2
  else if s.mem.fill.any FillRun.restores then 3
  else if covers (s.energyOf vhold) s.pDecl (total + reserveTime) then 0
  else 1

/-! ### Blocks for a region (R131, R134, R163) -/

/-- The area's logical block `b`. -/
def State.targetBlock (s : State) (b : Nat) : Nat := areaBlock s.sto.area (b * blockSize)

/-- The block is already written in this store. -/
def State.taken (s : State) (b : Nat) : Bool :=
  s.sto.taken.contains (s.targetBlock b) || s.sto.subst.any fun p => p.1 = s.targetBlock b

/-- The block's own in-place block is ERASED. -/
def State.ownErased (s : State) (b : Nat) : Bool := (s.block (s.targetBlock b)).state = .erased

/-- A pre-erased block exists for every block the region touches. -/
def State.blocksHeld (s : State) (r : RegionRec) : Bool :=
  ((regionBlocks r).filter fun b => !s.taken b && !s.ownErased b).length ≤ (s.poolIn .erased).length

/-- Take a block for block `b` of the target area: in place where ERASED, else the least-worn ERASED pool block.
(log 91 DESIGN CHOICE) -/
def takeBlock (b : Nat) (s : State) : State :=
  if s.taken b then s
  else if s.ownErased b then
    { s.markBlock (s.targetBlock b) .dirty with sto := { s.sto with taken := s.targetBlock b :: s.sto.taken } }
  else
    match s.leastWornErased [] with
    | none => s
    | some p => { s.markBlock p .dirty with sto := { s.sto with subst := s.sto.subst ++ [(s.targetBlock b, p)] } }

/-- The physical block that holds block `b` of the target area in this store. -/
def State.storePhys (s : State) (b : Nat) : Nat :=
  match s.sto.subst.find? fun p => p.1 = s.targetBlock b with
  | some p => (s.block p.2).phys
  | none => (s.block (s.targetBlock b)).phys

/-- Copy working memory [a, b), inside one block, to the array; `m` is the memory with to-zero lines as zeros (R130). -/
def storeChunk (m : MemSt) (a b : Nat) (s : State) : State :=
  let p := s.storePhys (a / blockSize) * blockSize + a % blockSize
  if !s.vppOn then s
  else { s with nv := { s.nv with
      cells := tcopy s.nv.cells p m.wm a (b - a),
      poison := wordCopy s.nv.poison (p / 16) m.poison (a / 16) ((b - a) / 16),
      weak := wordCopy s.nv.weak (p / 16) m.weak (a / 16) ((b - a) / 16) } }

/-- Record the store as in progress in the ladder state holder, before the first NV write (R135). (log 72 DEDUCED) -/
def markProgress (s : State) : State :=
  (s.raise PWR_HOLD 4).setReg PWR_HOLD_PGEN (BitVec.ofNat 32 s.sto.gen)

/-- A horizon entry for a region. -/
def entryOf (r : RegionRec) (st : Nat) : HEntry :=
  { base := r.base, size := r.size, owner := r.owner, cls := r.cls, priority := r.priority, state := st }

/-- Lines [lo, hi) of a region. -/
def regionLines (r : RegionRec) : Nat × Nat := (r.base / lineSize, (r.base + r.size) / lineSize)

/-- Begin region `i`: blocks taken, its content as of now copied (R136), poisoned words counted with SRC 3 (R112).
(log 71 DEDUCED, 72 DEDUCED) -/
def startRegion (i : Nat) (r : RegionRec) (s : State) : State :=
  let (lo, hi) := regionLines r
  let s := (regionBlocks r).foldl (fun s b => takeBlock b s) (markProgress s)
  let m := (fillSpan lo hi s).mem
  let s := (blockChunks r.base (r.base + r.size)).foldl (fun s (c : Nat × Nat) => storeChunk m c.1 c.2 s) s
  let s := { s with sto := { s.sto with cur := some i, curStart := s.sto.time } }
  eccRead ((m.poison ++ m.weak).filter fun w => r.base ≤ w * 16 ∧ w * 16 < r.base + r.size) 0 3 s

/-- The store begins to commit. -/
def toCommit (s : State) : State :=
  { s with sto := { s.sto with cur := none, todo := [] } }.setFld STO_STAT 0 3 2

/-- A check of R131 fails at region `r`: no further region; a Class A region is reported (R146). -/
def storeShort (r : RegionRec) (outcome : Nat) (s : State) : State :=
  let s := toCommit { s with sto := { s.sto with outcome := outcome } }
  if r.cls = 0 then
    report 29 ({ s with sto := { s.sto with flags := s.sto.flags ||| 2 } }.raise STO_STAT 13)
  else s

/-- Every line of the region is to-restore from the newest committed store (R133): none is where a store has been
committed since these lines took their source. -/
def State.wholeUntouched (s : State) (r : RegionRec) : Bool :=
  let (lo, hi) := regionLines r
  let runs := fillWithin s.mem.fill lo hi
  fillLines runs == hi - lo && (match s.h1 with
    | none => false
    | some h => s.mem.newStore.isNone && runs.all fun x => x.kind == .toRestore h.area)

/-- Go on with the next region of the list (R131, R133); the list is in store order. In P3 every region but the hot ones
is UNTOUCHED (R192). Where both checks of R131 fail, ENERGY is the outcome. (log 76 DESIGN CHOICE, 77 DEDUCED) -/
def nextRegion : List Nat → State → State
  | [], s => toCommit s
  | i :: rest, s =>
    let s := { s with sto := { s.sto with todo := rest, metered := s.sto.metered || s.sto.meterNext, meterNext := false } }
    match s.regions[i]? with
    | none => nextRegion rest s
    | some r =>
      let (lo, hi) := regionLines r
      if s.sto.ladder = 3 ∧ !hotRegion r then
        nextRegion rest { s with sto := { s.sto with entries := s.sto.entries ++ [entryOf r 2] } }
      else if (fillWithin s.mem.fill lo hi).any FillRun.restores then
        if s.wholeUntouched r then
          nextRegion rest { s with sto := { s.sto with entries := s.sto.entries ++ [entryOf r 2] } }
        else
          nextRegion rest { s with sto := { s.sto with flags := s.sto.flags ||| 4 } }
      else
        let s := { s with sto := { s.sto with checked := true } }
        if s.sto.metered && !covers ((s.sto.estimates.head?.map (·.2)).getD 0) s.pDraw (regionTime r.size + reserveTime) then
          storeShort r 1 s
        else if !s.blocksHeld r then storeShort r 2 s
        else startRegion i r s

/-- GEN of the next store: one more than the newest committed GEN (Table 7-3). (log 75 DEDUCED) -/
def State.nextGen (s : State) : Nat := max ((s.h1.map (·.gen)).getD 0) (s.reg PWR_HOLD_GEN).toNat + 1

/-- A store begins (R130, R135): CAUSE 1 trip, 2 manual, 3 ladder entry; `hot`: it takes the hot regions. -/
def startStore (cause : Nat) (hot : Bool) (vhold : Nat) (s : State) : State :=
  let regions := s.storeRegions hot
  let sto : StoSt := { StoSt.reset with
    gen := s.nextGen, area := s.targetArea, cause := cause, ladder := min s.ladder 3, rtc := s.rtc.sec % 2 ^ 32,
    vTrip := vhold, metered := true, heldWrites := s.sto.heldWrites, heldReads := s.sto.heldReads,
    plan := s.sto.plan }
  let s := takeSample 0 vhold ({ hkSuspend s with sto := sto }.setFld STO_STAT 0 3 1)
  nextRegion regions s

/-! ### Commit (R134, R135, R137, R161, R162) -/

/-- NOT_STORED: enabled Class A and B regions without an entry. -/
def State.notStored (s : State) : Nat :=
  (s.regions.filter fun r => r.size ≠ 0 && r.cls ≤ 1 &&
    !(s.sto.entries.any fun e => e.base = r.base ∧ e.size = r.size ∧ e.owner = r.owner)).length

/-- 64 KiB units committed. -/
def unitsOf (l : List HEntry) : Nat := ((l.filter fun e => e.state = 1).map fun e => e.size / 0x10000).sum

/-- The horizon of the store that ends. -/
def State.horizonOf (s : State) : Horizon :=
  { gen := s.sto.gen, area := s.sto.area, cause := s.sto.cause, outcome := s.sto.outcome, ladder := s.sto.ladder,
    notStored := s.notStored, rtc := s.sto.rtc, vTrip := s.sto.vTrip, vEnd := s.fld STO_SNS 0 10,
    duration := s.sto.time % 2 ^ 32, units := unitsOf s.sto.entries, flags := s.sto.flags,
    hash := ((s.cfg.map (·.digest)).getD []).take 16, entries := s.sto.entries }

/-- The MAP records of a store: one entry per substitution, at most 256 a record. -/
def mapRecords (gen : Nat) : List (Nat × Nat) → Nat → State → State
  | _, 0, s => s
  | [], _, s => s
  | ps, n + 1, s => mapRecords gen (ps.drop 256) n (jMapOnly gen (ps.take 256) s)

/-- The substitution takes effect: the pool block takes the logical position, the displaced block the pool slot, DIRTY
if it was in use; a suspended pre-erase of that block goes on in the pool slot, and a BAD block is never used again
(R169). -/
def substitute (s : State) (p : Nat × Nat) : State :=
  { s with nv := { s.nv with
      blocks := swapBlocks p.1 p.2 (s.rtc.sec % 2 ^ 32) s.nv.blocks,
      hk := match s.nv.hk with
        | .preerase k n => .preerase (if k = p.1 then p.2 else k) n
        | h => h } }

/-- STO registers from the newest horizon (R157): outcome bits are set by the store they describe. -/
def showHorizon (h : Horizon) (s : State) : State :=
  let s := (s.setReg STO_GEN (BitVec.ofNat 32 h.gen)).putFlag STO_STAT 3 h.area
  let s := s.setFlds STO_LAST [(0, 8, h.outcome), (8, 8, h.cause), (16, 9, h.notStored)]
  let s := (s.setReg STO_LAST_TIME (BitVec.ofNat 32 h.duration)).setFld STO_LAST_UNITS 0 11 h.units
  let set : List (Nat × Bool) :=
    [(10, h.notStored != 0), (11, bit h.flags 0), (12, h.outcome == 3), (13, bit h.flags 1), (14, bit h.flags 2)]
  set.foldl (fun s e => if e.2 then s.raise STO_STAT e.1 else s) s

/-- Nothing is committed: no entry and no region reached its checks (R143), whatever the cause of the store and even
where it has no region to take. (log 70 DESIGN CHOICE) -/
def State.storeEmpty (s : State) : Bool := s.sto.entries.isEmpty && !s.sto.checked

/-- The STORE record (R137, Table 10-4). -/
def storeRecord (gen : Nat) (s : State) : State :=
  logWrite 0x02 (leBytes 1 s.sto.cause ++ leBytes 1 s.sto.outcome ++ leBytes 2 s.notStored ++ leBytes 4 gen ++
    leBytes 2 (unitsOf s.sto.entries) ++ leBytes 2 s.sto.flags) s

/-- The records of a commit in the array (R135, R161, R162): the substitutions, the horizon, and what they switch. -/
def commitNv (h : Horizon) (s : State) : State :=
  let pairs := s.sto.subst.map fun p => (p.1, (s.block p.2).phys)
  let s := jAppend (.horizon h) (mapRecords h.gen pairs (pairs.length + 1) s)
  let s := s.sto.subst.foldl substitute s
  s.sto.taken.foldl (fun s l => s.setBlock l { s.block l with state := .mapped, progTime := s.rtc.sec % 2 ^ 32 }) s

/-- A record that fails its verify, or is torn, lies in the log with bytes that the spec does not give (R174).
(log 82 DESIGN CHOICE) -/
def jTorn (b : JBody) (s : State) : State :=
  let (junk, s) := s.free (2 ^ (8 * (jData b).length + 32))
  if !s.vppOn then s else reportLost { s with nv := jCollect 30 (jWrite false junk s.nv b) }

/-- The records of a store whose horizon is not valid: its substitutions are void, and the holder keeps it as in
progress (R135, R161). (log 72 DEDUCED, 82 DESIGN CHOICE) -/
def commitVoid (s : State) : State :=
  let pairs := s.sto.subst.map fun p => (p.1, (s.block p.2).phys)
  let s := mapRecords s.sto.gen pairs (pairs.length + 1) (markProgress s)
  jTorn (.horizon s.horizonOf) s

/-- The store ends with a horizon that does not verify: it is not committed. The spec does not say what follows: there
is no second try and no STORE record. (log 72 DEDUCED, 79 DESIGN CHOICE) -/
def commitFailed (s : State) : State := (checkpointDue (commitVoid s)).setFld STO_STAT 0 3 0

/-- The commit of R135, `ok` where the horizon verifies (it does not without VPP_NV, R490), or the end without one
(R143). A store that commits nothing shows nothing of its own in STO_STAT. (log 70 DESIGN CHOICE, 72 DEDUCED) -/
def commitStore (ok : Bool) (s : State) : State :=
  if s.storeEmpty then (storeRecord 0 s).setFld STO_STAT 0 3 0
  else if !ok || !s.vppOn then commitFailed s
  else
    let h := s.horizonOf
    let spare := s.usablePool
    let s := checkpoint (commitNv h (markProgress s))
    let s := if 72 ≤ spare then spareCheck s else s
    let s := ((s.setReg PWR_HOLD_GEN (BitVec.ofNat 32 h.gen)).raise PWR_HOLD 3).lower PWR_HOLD 4
    let s := { s with pwr := { s.pwr with holdArea := h.area }, mem := { s.mem with newStore := some h.area } }
    (storeRecord h.gen (showHorizon h s)).setFld STO_STAT 0 3 0

/-- POR_N falls while a store commits: it ends without a commit (R18, R153), with no record of it in the log or with a
horizon that is not valid; which is not specified. (log 82 DESIGN CHOICE, 84 DEDUCED) -/
def storeTorn (s : State) : State :=
  if s.stoState ≠ 2 ∨ s.storeEmpty then s
  else
    let (k, s) := s.free 2
    if k = 0 then s else commitVoid s

/-- POR_N falls while housekeeping erases a block (08, Edges): its ERASE_DONE may be torn, which is not specified.
(log 82 DESIGN CHOICE) -/
def eraseTorn (s : State) : State :=
  match s.nv.hk with
  | .preerase l _ =>
    let (k, s) := s.free 2
    if k = 0 ∨ s.flag NVH_STAT 2 then s else jTorn (.eraseDone (s.block l).phys 0xFF ((s.block l).wear + 1)) s
  | _ => s

/-! ### What a start finds (R153, R157, R173) -/

/-- STO_GEN, AREA, the last-store registers and the outcome bits from H1; 0 where no valid horizon exists (R157).
(log 67 DEDUCED) -/
def loadH1 (s : State) : State :=
  let s := (s.setFlds STO_STAT [(3, 1, 0), (10, 5, 0)]).setReg STO_GEN 0
  let s := ((s.setReg STO_LAST 0).setReg STO_LAST_TIME 0).setReg STO_LAST_UNITS 0
  match s.h1 with
  | none => s
  | some h => showHorizon h s

/-- The holder shows a store in progress whose GEN is higher than its committed one (R153). -/
def State.tornStore (s : State) : Bool :=
  s.flag PWR_HOLD 4 && (s.reg PWR_HOLD_GEN).toNat < (s.reg PWR_HOLD_PGEN).toNat

/-- The logical blocks that are ERASED: pool slots and in-place blocks of both store areas. (log 84 DEDUCED) -/
def State.erasedBlocks (s : State) : List Nat :=
  (List.range 512 ++ poolSlots).filter fun l => (s.block l).state = .erased

/-- A torn store at start: TORN, and every ERASED pool block and in-place block becomes DIRTY (R153, R173). The
in-progress record stays until STALE is applied too. (log 84 DEDUCED) -/
def applyTorn (s : State) : State :=
  if s.tornStore then (s.erasedBlocks.foldl (fun s l => s.markBlock l .dirty) s).raise STO_STAT 9
  else s.lower PWR_HOLD 4

/-- The start has applied R153 and R173. (log 84 DEDUCED) -/
def tornDone (s : State) : State := s.lower PWR_HOLD 4

/-! ### Resolution of a restore (R126, R140, R153, Table 7-5) -/

/-- STALE or LOST of region `k`. -/
def setRegionFlag (base : Nat → Nat) (k : Nat) (b : Bool) (s : State) : State := s.putFlag (base (k / 32)) (k % 32) b

/-- Resolve every region: flags and fill states of the lines from `keep` on; regions that lie below `keep` whole keep
theirs (R181). (log 102 DEDUCED) -/
def resolveRestore (keep : Nat) (torn : Bool) (s : State) : State :=
  let s := { s with mem := { s.mem with
    newStore := none,
    fill := fillCut s.mem.fill (keep / lineSize) 0x100000 ++
      (if keep < wmSize then [FillRun.mk (keep / lineSize) 0x100000 .toZero] else []) } }
  let src := s.regions.map fun r => (r, s.restoreSource r)
  src.zipIdx.foldl (fun s (e : (RegionRec × Option Bool × Bool × Bool) × Nat) =>
    let r := e.1.1
    let (a, stale, lost) := e.1.2
    let k := e.2
    if keep ≠ 0 && hotRegion r then s
    else
      let on := r.size ≠ 0 && r.cls ≤ 1
      let s := setRegionFlag MEM_STALE k (on && (stale || (torn && a.isSome))) s
      let s := setRegionFlag MEM_LOST k (on && lost) s
      match on, a with
      | true, some area =>
        { s with mem := { s.mem with
            fill := fillAdd s.mem.fill (max r.base keep / lineSize) ((r.base + r.size) / lineSize) (.toRestore area) } }
      | _, _ => s) s

/-- A restore begins (R141): STO_TOUCH zero, Class A first, over the regions as they are now. -/
def startRestore (keep : Nat) (torn : Bool) (s : State) : State :=
  let s := { s with sto := { s.sto with plan := s.regions } }
  ((tornDone (resolveRestore keep torn (hkSuspend s))).setReg STO_TOUCH 0).setFld STO_STAT 0 3 3

/-- The words of the enabled regions of class `c` that hold a single-bit error are corrected, once their restore is
complete (R111). (log 64 DESIGN CHOICE) -/
def correctRestored (c : Nat) (s : State) : State :=
  let inside := fun (w : Nat) => s.sto.plan.any fun r => r.size ≠ 0 && r.cls == c && r.base ≤ w * 16 && w * 16 < r.base + r.size
  { s with mem := { s.mem with weak := s.mem.weak.filter fun w => !inside w } }

/-- Lines of the regions of class `c` that are still to-restore, in store order; a restore goes on over the regions that
it began with, whatever image a warm reset applies (R26, R127). (log 67 DEDUCED) -/
def State.restoreRuns (s : State) (c : Nat) : List FillRun :=
  (classOrder s.sto.plan c).flatMap fun i => ((s.sto.plan[i]?).map fun r =>
    (fillWithin s.mem.fill (regionLines r).1 (regionLines r).2).filter FillRun.restores).getD []

/-- Words that a restore finds bad become poisoned in working memory (R154). -/
def poisonRestored (bad : List Nat) (rs : List FillRun) (s : State) : State :=
  let hit := bad.filter fun w => rs.any fun r => r.lo * 4 ≤ w ∧ w < r.hi * 4
  { s with mem := { s.mem with poison := sortBy id ((s.mem.poison ++ hit).eraseDups) } }

/-- Restore the runs `rs`; the words of `bad` among them come back poisoned. -/
def restoreRunsNow (rs : List FillRun) (bad : List Nat) (s : State) : State := poisonRestored bad rs (fillRuns rs s)

/-- The first `n` lines of a list of runs. -/
def takeLines : Nat → List FillRun → List FillRun
  | _, [] => []
  | n, r :: rs => if n = 0 then [] else if r.hi - r.lo ≤ n then r :: takeLines (n - (r.hi - r.lo)) rs
      else [{ r with hi := r.lo + n }]

end Sys2Proof.Machine
end

