-- ==== Sys2Proof/Machine/Parts.lean ====
section
/-! DEFINITION. Reading and changing one instance of the blocks that exist several times. -/

namespace Sys2Proof.Machine

def State.phyOf (s : State) (p : Nat) : PhySt := tget PhySt.reset s.phy p
def State.lnkOf (s : State) (p : Nat) : LnkSt := tget LnkSt.reset s.lnk p
def State.chanOf (s : State) (n : Nat) : ChanSt := tget ChanSt.reset s.chan n
def State.outOf (s : State) (n : Nat) : OutSt := tget OutSt.reset s.out n
def State.ttOf (s : State) (j : Nat) : TtSt := tget TtSt.reset s.tt j
def State.canOf (s : State) (c : Nat) : CanSt := tget CanSt.reset s.can c
def State.ctxOf (s : State) (t : Nat) : Ctx := tget Ctx.reset s.ctxs t
def State.evtOf (s : State) (n : Nat) : List EvtEntry := tget [] s.evt.queues n

def modPhy (p : Nat) (f : PhySt → PhySt) (s : State) : State := { s with phy := tmod PhySt.reset s.phy p f }
def modLnk (p : Nat) (f : LnkSt → LnkSt) (s : State) : State := { s with lnk := tmod LnkSt.reset s.lnk p f }
def modChan (n : Nat) (f : ChanSt → ChanSt) (s : State) : State := { s with chan := tmod ChanSt.reset s.chan n f }
def modOut (n : Nat) (f : OutSt → OutSt) (s : State) : State := { s with out := tmod OutSt.reset s.out n f }
def modTt (j : Nat) (f : TtSt → TtSt) (s : State) : State := { s with tt := tmod TtSt.reset s.tt j f }
def modCan (c : Nat) (f : CanSt → CanSt) (s : State) : State := { s with can := tmod CanSt.reset s.can c f }
def modCtx (t : Nat) (f : Ctx → Ctx) (s : State) : State := { s with ctxs := tmod Ctx.reset s.ctxs t f }
def setQueue (n : Nat) (q : List EvtEntry) (s : State) : State :=
  { s with evt := { s.evt with queues := tset [] s.evt.queues n q } }

/-- Fold an operation over the indices of a list. -/
def forEach (l : List Nat) (f : Nat → State → State) (s : State) : State := l.foldl (fun s i => f i s) s

end Sys2Proof.Machine
end

