-- ==== Sys2Proof/Machine/Telltale.lean ====
section
/-! DEFINITION. Tell-tale states and what follows from them: duty (21), requests (Table 18-3), the states of Table 18-4,
the presence frame's payload (R392, Table 18-7) and the flock's STATE and TT messages (R439, R443). -/

namespace Sys2Proof.Machine

/-! ### Records and duty -/

/-- The FLOCK record that makes a flock (R438): MEMBERS 2 or more. -/
def State.flock (s : State) : Option FlockRec := (s.cfg.bind (·.flock)).filter fun r => 2 ≤ r.members

/-- Own rank. -/
def State.rank (s : State) : Nat := s.otp.force.rank

/-- This device has duty for tell-tale `j` (21, Members). -/
def State.duty (s : State) (j : Nat) : Bool := hasDuty s.rank (s.cfg.bind (·.flock)) j

/-- The TELLTALE records of this device's duty. -/
def State.tts (s : State) : List TelltaleRec := ((s.cfg.map (·.telltales)).getD []).filter fun r => s.duty r.index

/-- The record of tell-tale `j`, where this device has duty for it. -/
def State.ttRec (s : State) (j : Nat) : Option TelltaleRec := s.tts.find? fun r => r.index = j

/-- The CANMAP records with their indices. -/
def State.canmaps (s : State) : List (CanmapRec × Nat) := ((s.cfg.map (·.canmaps)).getD []).zipIdx

/-- Tell-tale states. -/
def ttOff : Nat := 0
def ttWait : Nat := 1
def ttProving : Nat := 2
def ttEproven : Nat := 3
def ttProven : Nat := 4
def ttFailed : Nat := 5

def State.ttState (s : State) (j : Nat) : Nat := s.fld (TT_S j) 0 3

/-- Verdict of method `m` (0 E, 1 S, 2 O, 3 L): 0 not declared, 1 none, 2 pass, 3 fail. -/
def State.verdict (s : State) (j m : Nat) : Nat := s.fld (TT_S j) (8 + 2 * m) 2

/-- Method `m` is unavailable for tell-tale `j`. -/
def State.unavail (s : State) (j m : Nat) : Bool := s.flag (TT_S j) (16 + m)

/-! ### Flock membership -/

/-- JOINED (FLK_STAT.STATE 2). -/
def State.joined (s : State) : Bool := s.fld FLK_STAT 0 2 = 2

/-- This device leads. -/
def State.leads (s : State) : Bool := s.flag FLK_STAT 2

/-- Ranks of the other JOINED members. -/
def State.peers (s : State) : List Nat :=
  if s.joined then (List.range 4).filter fun r => s.flag FLK_MEMBERS r && r != s.rank else []

def Member.reset : Member :=
  { devid := 0, local_ := 0, osf := false, descending := false, fstate := 0, leader := 0, runtime := 0, maxRev := 0,
    codes := [], t1Req := [], t1Alive := false, srcs := [] }

def State.member (s : State) (r : Nat) : Member := tget Member.reset s.flk.members r

/-! ### Codes (Table 18-7, R445) -/

/-- The own code of tell-tale `j`. -/
def State.ownCode (s : State) (j : Nat) : Nat := [0, 1, 1, 2, 2, 3].getD (s.ttState j) 0

/-- 16 bytes of 2-bit codes, tell-tale j in bits [2j + 1:2j]. -/
def codeBytes (f : Nat → Nat) : List Byte :=
  (List.range 16).map fun k => BitVec.ofNat 8 (f (4 * k) + 4 * f (4 * k + 1) + 16 * f (4 * k + 2) + 64 * f (4 * k + 3))

/-- Entry j of a list of 2-bit codes. -/
def codeAt (l : List Byte) (j : Nat) : Nat := bits ((l.getD (j / 4) 0).toNat) (2 * (j % 4)) 2

/-- The flock code of tell-tale `j` (R445): 3, else 1, else 2, else 0 over every JOINED member. -/
def State.flockCode (s : State) (j : Nat) : Nat :=
  let l := s.ownCode j :: s.peers.map fun r => codeAt (s.member r).codes j
  if l.contains 3 then 3 else if l.contains 1 then 1 else if l.contains 2 then 2 else 0

/-- The code that the presence frame carries (R446). -/
def State.shownCode (s : State) (j : Nat) : Nat := if s.joined then s.flockCode j else s.ownCode j

/-- Every declared tell-tale that the presence frame covers: all records in a flock, else the own duty. -/
def State.shownTts (s : State) : List TelltaleRec := if s.joined then (s.cfg.map (·.telltales)).getD [] else s.tts

/-- Bulb-check runs. -/
def State.bulbRuns (s : State) : Bool := s.tts.any fun r => (s.ttOf r.index).bulb

/-- FLAGS of the payload over a code function. (log 179 DEDUCED) -/
def State.flagsOf (s : State) (rs : List TelltaleRec) (f : Nat → Nat) : Nat :=
  let man := rs.filter fun r => bit r.flags 0 && f r.index != 0
  b2n (man.all fun r => f r.index = 2) + 2 * b2n (rs.any fun r => f r.index = 3) +
    4 * b2n (s.tts.any fun r => s.unavail r.index 2) + 8 * b2n s.bulbRuns

/-- TT_STAT. -/
def State.ttStat (s : State) : Nat :=
  let f := s.flagsOf s.tts s.ownCode
  f % 2 + 2 * (f / 8 % 2) + 256 * (s.tts.filter fun r => s.ttState r.index ≠ 0).length +
    65536 * (s.tts.filter fun r => s.ttState r.index = ttFailed).length

/-- Status codes and FLAGS as the presence frame shows them now. -/
def State.shownNow (s : State) : List Nat :=
  (List.range 64).map s.shownCode ++ [s.flagsOf s.shownTts s.shownCode]

/-- The payload for a controller with FD enabled, or without (R392). (log 179 DEDUCED) -/
def State.payload (s : State) (fd : Bool) (seq : Nat) : List Byte :=
  let flags := s.flagsOf s.shownTts s.shownCode
  let body :=
    if fd then leBytes 1 seq ++ leBytes 1 flags ++ [0, 0] ++ codeBytes s.shownCode
    else leBytes 1 seq ++ leBytes 1 flags ++
      leBytes 1 (s.shownTts.filter fun r => bit r.flags 0 && s.shownCode r.index != 0).length ++
      leBytes 1 (s.shownTts.filter fun r => s.shownCode r.index = 3).length
  body ++ leBytes 4 (crc32c body)

/-! ### The presence frame (R392, R409, R446) -/

/-- The CANCTL record of controller `c`. -/
def State.canRec (s : State) (c : Nat) : Option CanctlRec := s.cfg.bind fun i => i.canctls.find? fun r => r.ctrl = c

/-- Put data bytes into the words of message buffer `n`, the rest 0. -/
def putBuffer (c n : Nat) (data : List Byte) (s : State) : State :=
  (List.range 16).foldl (fun s k => s.setReg (CAN_MB c n (3 + k)) (BitVec.ofNat 32 (ofLe ((data.drop (4 * k)).take 4)))) s

/-- Load buffer 0 of controller `c` and request its transmission; nothing while the controller is not started. -/
def loadPresence (c : Nat) (s : State) : State :=
  match s.canRec c with
  | none => s
  | some r =>
    if s.fld (CAN_STAT c) 0 2 = 0 ∨ (s.canOf c).suspended ∨ (s.canOf c).leaving then s
    else
      let fd := bit r.flags 0
      let s := s.setFlds (CAN_MB c 0 0) [(0, 29, r.presenceId), (29, 1, r.presenceId / 2 ^ 31), (30, 1, b2n fd),
        (31, 1, b2n (fd && bit r.flags 1))]
      let s := s.setFld (CAN_MB c 0 1) 0 4 (if fd then 12 else 8)
      (putBuffer c 0 (s.payload fd (tget 0 s.proof.presSeq c)) s).raise (CAN_MB_CTRL c 0) 4

/-- Only the leader of a JOINED flock sends presence frames. -/
def State.sendsPresence (s : State) : Bool := !s.joined || s.leads

/-- Queue the presence frame on each declared controller; the 10 ms spacing starts. (log 179 DEDUCED, 197 DEDUCED) -/
def queuePresence (s : State) : State :=
  if s.sendsPresence then
    let s := loadPresence 1 (loadPresence 0 s)
    { s with proof := { s.proof with holdoff := true, change := false, lastCodes := s.shownNow } }
  else { s with proof := { s.proof with change := false, lastCodes := s.shownNow } }

/-! ### Flock messages (Tables 21-2, 21-3) -/

/-- The links of the Fyrd ports that are UP. -/
def State.fyrdUp (s : State) : List Nat := [2, 3].filter fun p => s.fld (LNK_STAT p) 0 2 = 2

/-- Queue a flock message on a port. -/
def flkPacket (bytes : List Byte) : Packet :=
  { type := 0xC, vc := false, tenant := 0, payload := bytes, tag := none, last := false }

def flkQueue (p : Nat) (bytes : List Byte) (s : State) : State :=
  modLnk p (fun l => { l with qReq := l.qReq ++ [flkPacket bytes] }) s

/-- Send a message of this device on every Fyrd port whose link is UP; the message count rises by 1. HELLO goes in
revision 1, every other message at the operating revision (R439, R442). (log 192 DEDUCED) -/
def flkSend (mtype : Nat) (body : List Byte) (s : State) : State :=
  let n := (s.flk.mseq + 1) % 2 ^ 32
  let rev := if mtype = 1 then 1 else s.fld FLK_STAT 8 4
  let msg := leBytes 1 mtype ++ [0] ++ leBytes 1 rev ++ leBytes 1 s.rank ++ leBytes 4 n ++ leBytes 8 s.otp.force.devid ++ body
  s.fyrdUp.foldl (fun s p => flkQueue p msg s) { s with flk := { s.flk with mseq := n } }

/-- The oscillator-stop flag (RTC_STAT.OSF). -/
def State.osf (s : State) : Bool := s.flag RTC_STAT 0

/-- What a change of sends a STATE: LEADER, LOCAL, FSTATE and the codes of the own duty (R439). -/
def State.stateKey (s : State) : List Nat :=
  [s.fld FLK_STAT 4 2, s.fld FLK_FLOOR 4 3, s.fld FLK_STAT 0 2] ++ (List.range 64).map s.ownCode

/-- The body of STATE. -/
def State.stateBody (s : State) (descending : Bool) : List Byte :=
  leBytes 1 (s.fld FLK_STAT 4 2) ++ leBytes 1 (s.fld FLK_FLOOR 4 3) ++ leBytes 1 (b2n s.osf + 2 * b2n descending) ++
    leBytes 1 (s.fld FLK_STAT 0 2) ++ leBytes 4 (s.reg RTC_RUNTIME).toNat ++ codeBytes s.ownCode

/-- Liveness of T1 (R381). (log 180 DEDUCED) -/
def State.t1Live (s : State) : Bool := s.fld TT_T1_TMO 0 16 = 0 || s.proof.t1Alive

/-- T1's request for tell-tale `j`: 0 NONE, 1 OFF, 2 ON. -/
def State.t1Req (s : State) (j : Nat) : Nat :=
  let v := s.fld (TT_T1_REQ (j / 16)) (2 * (j % 16)) 2
  if v = 3 then 0 else v

/-- The sources outside the own duty: record index and state. -/
def State.foreignSrcs (s : State) : List (Nat × Nat) :=
  (s.canmaps.filter fun e => !s.duty e.1.tt).map fun e => (e.2, tget 0 s.srcs e.2)

/-- What a change of sends a TT (R443). -/
def State.ttKey (s : State) : List Nat :=
  (List.range 64).map s.t1Req ++ [b2n s.t1Live] ++ s.foreignSrcs.flatMap fun e => [e.1, e.2]

/-- One TT body for up to 27 sources. -/
def State.ttBody (s : State) (l : List (Nat × Nat)) : List Byte :=
  ((List.range 4).flatMap fun k => leBytes 4 (s.reg (TT_T1_REQ k)).toNat) ++ leBytes 1 (b2n s.t1Live) ++
    leBytes 1 l.length ++ [0, 0] ++ l.flatMap fun e => leBytes 2 e.1 ++ leBytes 1 e.2 ++ [0]

/-- The TT messages: up to 27 sources each, at least one message. -/
def sendTts : Nat → List (Nat × Nat) → State → State
  | 0, _, s => s
  | n + 1, l, s =>
    let s := flkSend 3 (s.ttBody (l.take 27)) s
    if 27 < l.length then sendTts n (l.drop 27) s else s

/-- Send TT. -/
def sendTt (s : State) : State :=
  sendTts 10 s.foreignSrcs { s with flk := { s.flk with lastTt := s.ttKey } }

/-- Send STATE, and TT with it (R439, R443). -/
def sendState (descending : Bool) (s : State) : State :=
  sendTt (flkSend 2 (s.stateBody descending) { s with flk := { s.flk with lastState := s.stateKey } })

/-- What follows a change of the tell-tales, of the sources or of the flock: a STATE at any change of its fields, one of
FSTATE out of JOINED too (R439), or in JOINED a TT, and a presence frame for a change of a status code or a FLAGS bit,
held back by the 10 ms spacing. (log 197 DEDUCED) -/
def notice (s : State) : State :=
  let s := if s.fld FLK_STAT 0 2 = 0 then s
    else if s.flk.lastState ≠ s.stateKey then sendState false s
    else if s.joined && s.flk.lastTt ≠ s.ttKey then sendTt s else s
  if s.cfg.isSome && s.shownNow ≠ s.proof.lastCodes then
    if s.proof.holdoff then { s with proof := { s.proof with change := true } } else queuePresence s
  else s

/-- A point of the door flow is reached: its register takes the ticks from the wake tick, once (R32).
(log 29 DEDUCED) -/
def doorPoint (a : Nat) (s : State) : State :=
  if s.door.counting && s.reg a == 0 then s.setReg a (BitVec.ofNat 32 (min s.door.ticks 0xFFFFFF)) else s

/-- The background restore ends with the last to-restore line: SYS_DOOR_FULL, RUN clears (R32), and the words that came
back with a single-bit error are corrected (R111). (log 64 DESIGN CHOICE) -/
def restoreCheck (s : State) : State :=
  if s.stoState = 4 ∧ !(s.mem.fill.any FillRun.restores) then
    (doorPoint SYS_DOOR_FULL (correctRestored 1 (correctRestored 0 (s.setFld STO_STAT 0 3 0)))).lower SYS_DOOR_STAT 0
  else s

/-! ### Windows and states (Table 18-4) -/

/-- Open windows are abandoned. -/
def abandonWindows (j : Nat) (s : State) : State :=
  let s := modTt j (fun t => { t with eWin := none, eBad := false, sWin := none, sFail := false, sUnread := false,
                                      oWin := none, oTail := [], lWin := false, lBad := false }) s
  match s.ttRec j with
  | some r => if r.pd < 8 then s.lower OPT_STAT (8 + r.pd) else s
  | none => s

/-- Every verdict is cleared. (log 171 DEDUCED) -/
def clearVerdicts (j : Nat) (s : State) : State :=
  match s.ttRec j with
  | some r => s.setFlds (TT_S j) ((List.range 4).map fun m => (8 + 2 * m, 2, b2n (bit r.methods m)))
  | none => s

/-- Tell-tale `j` goes back to WAIT (Table 18-4). (log 171 DEDUCED) -/
def backToWait (j : Nat) (s : State) : State :=
  if ttProving ≤ s.ttState j then clearVerdicts j (abandonWindows j (s.setFld (TT_S j) 0 3 ttWait)) else s

/-- A channel leaves RUN: its tell-tales go back to WAIT (R398). -/
def ttChannelDown (n : Nat) (s : State) : State :=
  notice ((s.tts.filter fun r => r.channel = n).foldl (fun s r => backToWait r.index s) s)

/-! ### Verdicts and unavailable methods (R383, R390) -/

/-- Fault sources met on the way and reported together at the end (R466, R480). -/
abbrev Rep := State × List Nat

/-- The reports that a command has collected are made together. (log 198 DEDUCED) -/
def Rep.run (x : Rep) : State := reportMany x.2 x.1

/-- Method `m` becomes unavailable for a tell-tale: its verdict is cleared. (log 171 DEDUCED) -/
def makeUnavail (r : TelltaleRec) (m : Nat) (x : Rep) : Rep :=
  let s := x.1
  if s.unavail r.index m then x
  else
    let s := ((s.raise (TT_S r.index) (16 + m)).setFld (TT_S r.index) (8 + 2 * m) 2 1).raise TT_ISTAT 3
    if m = 2 ∧ r.pd < 8 then ((s.raise OPT_STAT r.pd).raise OPT_ISTAT 1, x.2 ++ [73]) else (s, x.2)

/-- Electrically proven (R390). -/
def State.elecProven (s : State) (r : TelltaleRec) : Bool :=
  let l := [0, 1, 3].filter fun m => bit r.methods m && !s.unavail r.index m
  !l.isEmpty && l.all fun m => s.verdict r.index m = 2

/-- Put the state that the verdicts give (Table 18-4); TT_ISTAT.PROVEN, and the door's
point (R32), on becoming electrically proven. (log 171 DEDUCED) -/
def restate (was : Bool) (r : TelltaleRec) (s : State) : State :=
  if s.ttState r.index < ttProving then s
  else
    let ep := s.elecProven r
    let counted := bit r.methods 2 && !s.unavail r.index 2
    let st :=
      if (List.range 4).any fun m => s.verdict r.index m = 3 then ttFailed
      else if ep then (if !counted ∨ s.verdict r.index 2 = 2 then ttProven else ttEproven)
      else ttProving
    let s := s.setFld (TT_S r.index) 0 3 st
    if ep && !was then doorPoint SYS_DOOR_EPROOF (s.raise TT_ISTAT 2) else s

/-- CRC_SUP is 0 at an entry into VIDEO: S is unavailable for the tell-tales of the channel that declare it (R385).
(log 172 DEDUCED) -/
def crcMissing (n : Nat) (s : State) : State :=
  notice ((s.tts.filter fun r => r.channel = n && bit r.methods 1).foldl (fun s r =>
    let was := s.elecProven r && 2 ≤ s.ttState r.index
    restate was r (makeUnavail r 1 (s, [])).1) s)

/-! ### Sinks -/

/-- The sink of a tell-tale is on: SET not 0, not waiting for its retry; it flags nothing yet. (log 178 DEDUCED) -/
def sinkOn (r : TelltaleRec) (s : State) : State :=
  if r.led < 32 ∧ s.fld (LED_CUR r.led) 0 10 ≠ 0 ∧ !s.proof.ledRetry.getLsbD r.led ∧ !s.flag (LED_CUR r.led) 31 then
    s.setFlds (LED_CUR r.led) [(28, 2, 0), (31, 1, 1)]
  else s

/-- The sink goes off. (log 178 DEDUCED) -/
def sinkOff (r : TelltaleRec) (s : State) : State :=
  if r.led < 32 then
    { s.setFlds (LED_CUR r.led) [(28, 2, 0), (31, 1, 0)] with proof := { s.proof with ledRetry := s.proof.ledRetry &&& ~~~(1#32 <<< r.led) } }
  else s

/-- The shutdown order starts: every sink off, LED-only tell-tales back to WAIT (R398). (log 178 DEDUCED) -/
def sinksDown (s : State) : State :=
  notice (s.tts.foldl (fun s r => let s := sinkOff r s; if r.channel = 0xFF then backToWait r.index s else s) s)

end Sys2Proof.Machine
end

