-- ==== Sys2Proof/Machine/Display.lean ====
section
/-! DEFINITION. Display channels and backlights: the operations on channel states (Table 16-3), blank triggers (R350) and
the enabling of a backlight (R429) that the sequencer, the outputs and the frame start share. -/

namespace Sys2Proof.Machine

/-! ### Channel states (CH_STAT.STATE) -/

def chOff : Nat := 0
def chStarting : Nat := 1
def chSettle : Nat := 2
def chRun : Nat := 3
def chBlanking : Nat := 4
def chBlack : Nat := 5
def chStopping : Nat := 6

def State.chState (s : State) (n : Nat) : Nat := s.fld (CH_STAT n) 0 3
/-- Channel `n` enters a state; PIXn of a channel that is OFF is not monitored, and its bit reads 0 (R11); it has no
frame, and no layer hidden in it. -/
def setChState (n st : Nat) (s : State) : State :=
  let s := s.setFld (CH_STAT n) 0 3 st
  if st = 0 then (s.lower SYS_CLK_STAT (4 + n)).setFld (CH_STAT n) 16 6 0 else s

/-! ### Backlights (R427, R429, R431) -/

/-- A backlight register in effect. -/
def State.bklNow (s : State) (a : Nat) : Word := tget (regReset a) s.bkl a

/-- A field of it. -/
def State.bklFld (s : State) (a lsb width : Nat) : Nat := bits (s.bklNow a).toNat lsb width

/-- The BKL output that the record of channel `n` names. -/
def State.bklOf (s : State) (n : Nat) : Option Nat := (s.chanRec n).bind fun r => if r.bkl < 4 then some r.bkl else none

/-- The channel that owns BKL output `b`. -/
def State.bklOwner (s : State) (b : Nat) : Option Nat := (List.range 4).find? fun n => s.bklOf n = some b

/-- BKL output `b`, where no channel owns it, runs while its EN is 1 (20, registers). (log 187 DEDUCED) -/
def bklEnabled (b : Nat) (s : State) : State :=
  match s.bklOwner b with
  | some _ => s
  | none => s.putFlag BKL_STAT b (s.flag (BKL_CTRL b) 0)

/-- The conditions of R429. (log 187 DEDUCED) -/
def State.bklConds (s : State) (n : Nat) : Bool :=
  s.chState n = chRun && s.flag (OUT_STAT n) 8 && (s.chanOf n).bklDelay &&
    (match s.bklOf n with
     | none => true
     | some b => s.bklFld (BKL_DUTY b) 0 10 ≠ 0 &&
        (s.bklFld (BKL_CTRL b) 1 1 = 0 || s.bklFld (BKL_CTRL b) 8 8 ≠ 0))

/-- A backlight stops being enabled at once when a condition of R429 fails. -/
def dropBacklight (n : Nat) (s : State) : State :=
  if (s.chanOf n).bklOn && !s.bklConds n then
    let s := modChan n (fun c => { c with bklOn := false, bklSettle := false }) s
    match s.bklOf n with
    | none => s
    | some b => s.lower BKL_STAT b
  else s

/-- At a frame start of channel `n` where all conditions hold, its backlight becomes enabled (R429).
(log 187 DEDUCED) -/
def enableBacklight (n : Nat) (s : State) : State :=
  if !(s.chanOf n).bklOn && s.bklConds n then
    let settle := (s.chanRec n).any fun r => r.bklSettle = 0
    let s := (modChan n (fun c => { c with bklOn := true, bklSettle := settle }) s).raise BKL_ISTAT 0
    match s.bklOf n with
    | none => s
    | some b => s.raise BKL_STAT b
  else s

/-- Frames per second of a channel, as a fraction: pixel clocks per second over pixels per frame. -/
def frameRate (r : ChannelRec) : Nat × Nat := (r.pixclk * 1000, hTotal r * vTotal r)

/-- The settings of output `b` are outside R431's ranges. -/
def State.bklClamped (s : State) (b : Nat) (locked : Bool) : Bool :=
  if locked then
    match (s.bklOwner b).bind s.chanRec with
    | none => false
    | some r =>
      let f := frameRate r
      let d := s.bklFld (BKL_CTRL b) 8 8
      d ≠ 0 && (f.1 * d < 200 * f.2 || 40000 * f.2 < f.1 * d)
  else
    let p := s.bklFld (BKL_PER b) 0 19
    p < 2500 || 500000 < p

/-- Pending settings of output `b` take effect (R427), with the clamp of R431. (log 187 DEDUCED) -/
def applyBkl (b : Nat) (locked : Bool) (s : State) : State :=
  let s := [BKL_DUTY b, BKL_PER b, BKL_CTRL b].foldl
    (fun s a => { s with bkl := tset (regReset a) s.bkl a (s.reg a) }) s
  let c := s.bklClamped b locked
  let s := (s.putFlag BKL_STAT (4 + b) locked).putFlag BKL_STAT (8 + b) c
  if c then s.raise BKL_ISTAT 1 else s

/-! ### Black insertion (R350) -/

/-- A blank trigger meets channel `n`. (log 161 DEDUCED) -/
def blankChannel (n : Nat) (s : State) : State :=
  let st := s.chState n
  if st = chStarting then setChState n chOff s
  else if st = chSettle ∨ st = chRun then
    if st = chRun ∧ (s.chanOf n).blackSent then
      ttChannelDown n (dropBacklight n (setChState n chBlack
        (modChan n (fun c => { c with resume := false, live := false }) s)))
    else
      ttChannelDown n (dropBacklight n (setChState n chBlanking
        (modChan n (fun c => { c with blackLeft := 2, resume := false, live := false, lineDue := st = chRun && !c.resync }) s)))
  else modChan n (fun c => { c with resume := false }) s

/-- A blank trigger of every active channel. -/
def blankAll (s : State) : State := forEach s.activeChannels blankChannel s

/-- Every active channel has sent its black frame (R199). -/
def State.allBlack (s : State) : Bool := s.activeChannels.all fun n => s.chState n = chBlack

/-- The resume condition (Table 16-3): channels compose again from their next frame start. -/
def resumeChannels (s : State) : State := forEach s.activeChannels (fun n => modChan n fun c => { c with resume := true }) s

/-! ### Starting a channel (R357) -/

/-- Layer registers of channel `n`, as (offset, address). -/
def layerRegs (n : Nat) : List (Nat × Nat) :=
  (List.range 6).flatMap fun m => (List.range 5).map fun k => (0x20 * m + 4 * k, CH_L_CTRL n m + 4 * k)

/-- Copy every layer shadow of channel `n` into its working set. (log 163 DEDUCED) -/
def copyShadows (n : Nat) (s : State) : State :=
  let w := (layerRegs n).foldl (fun t e => tset 0 t e.1 (s.reg e.2)) ([] : Tab Word)
  modChan n (fun c => { c with work := w, palWork := c.palShadow }) s

/-- A palette entry of a PALETTE record: R, G, B and the expanded alpha (Table 16-2), as A[39:30] R[29:20] G[19:10]
B[9:0]. -/
def paletteEntry (v : Nat) : BitVec 40 := BitVec.ofNat 40 (bits v 0 30 + bits v 30 2 * 341 * 2 ^ 30)

/-- The palettes of the image for channel `n`. (log 163 DEDUCED) -/
def State.imagePalette (s : State) (n : Nat) : Tab (BitVec 40) :=
  match s.cfg with
  | none => []
  | some i => (i.palettes.filter fun p => p.channel = n).foldl
      (fun t p => tsetAll 0 t (p.layer * 1024) ((p.data.take p.entries).map paletteEntry)) []

/-- The working value of a layer register of channel `n`, layer `m`, word `k`. -/
def ChanSt.layer (c : ChanSt) (m k : Nat) : Nat := (tget 0 c.work (0x20 * m + 4 * k)).toNat

/-- Layers with EN 1 in the working set. -/
def ChanSt.enabled (c : ChanSt) : Nat := ofPositions ((List.range 6).filter fun m => bit (c.layer m 0) 0)

/-- Channel `n` is in safe-display where the latch names it (R468). -/
def takeSafe (n : Nat) (s : State) : State :=
  modChan n (fun c => { c with safe := s.flag FLT_SAFE 0 || s.flag FLT_SAFE (4 + n) }) s

/-- Channel `n` enters STARTING: PIXn locks, layers and palettes load, housekeeping leaves the array to the glyph store
(Table 16-3, R357, R171); under the latch it starts in safe-display (R468). (log 162 DEDUCED, 163 DEDUCED) -/
def startChannel (n : Nat) (s : State) : State :=
  if (s.chanRec n).isNone ∨ s.chState n ≠ chOff then s
  else
    let s := modChan n (fun _ => { ChanSt.reset with palShadow := s.imagePalette n, blackSent := false,
                                                     pixFault := (s.chanOf n).pixFault,
                                                     resync := (s.chanOf n).pixFault }) s
    let s := takeSafe n (setChState n chStarting (copyShadows n (hkSuspend s)))
    s.setFld (CH_STAT n) 16 6 (if (s.chanOf n).safe then (s.chanOf n).enabled else 0)

end Sys2Proof.Machine
end

