-- ==== Sys2Proof/Machine/Output.lean ====
section
/-! DEFINITION. Panel outputs (17): the output states of Table 17-2, the AUX wire with the device's own transactions
(training, link check, sink CRC) and the firmware's, and their events. DPCD bit layouts of the lane status, the adjust
requests and TRAINING_PATTERN_SET are those of VESA eDP 1.4b (PRESUMED). -/

namespace Sys2Proof.Machine

def outIdle : Nat := 0
def outWaitHpd : Nat := 1
def outTraining : Nat := 2
def outRetry : Nat := 3
def outVideo : Nat := 4
def outLvds : Nat := 5

def State.outState (s : State) (n : Nat) : Nat := s.fld (OUT_STAT n) 0 3
/-- Output `n` enters a state; SERn of an output in IDLE is not monitored, and its bit reads 0 (R11). -/
def setOutState (n st : Nat) (s : State) : State :=
  let s := s.setFld (OUT_STAT n) 0 3 st
  if st = 0 then s.lower SYS_CLK_STAT (8 + n) else s

/-- OUT_MODE of channel `n`: 0 eDP. -/
def State.outMode (s : State) (n : Nat) : Nat := ((s.chanRec n).map (·.outMode)).getD 0

/-- Lanes in use. -/
def State.outLanes (s : State) (n : Nat) : Nat := ((s.chanRec n).map (·.edpLanes)).getD 0

/-- READY falls; the backlight follows (R429). -/
def clearReady (n : Nat) (s : State) : State := dropBacklight n (s.lower (OUT_STAT n) 8)

/-- The delay of BKL_DELAY starts: its condition is set at once where the record declares 0. (log 187 DEDUCED) -/
def startBklDelay (n : Nat) (s : State) : State :=
  modChan n (fun c => { c with bklDelay := (s.chanRec n).any fun r => r.bklDelay = 0 }) s

/-- READY rises (R360). -/
def setReady (n : Nat) (s : State) : State := startBklDelay n ((s.raise (OUT_STAT n) 8).raise (OUT_ISTAT n) 0)

/-! ### The AUX wire (R364, R365, R374) -/

/-- A device transaction. -/
def devOp (write : Bool) (addr len : Nat) (data : List Byte) : AuxOp :=
  { firmware := false, write := write, addr := addr, len := len, data := data, retries := 0, defers := 0,
    waiting := false }

/-- LINK_BW_SET. -/
def linkBw (r : ChannelRec) : Nat := [0x06, 0x0A, 0x14, 0x1E].getD r.edpRate 0

/-- The equalisation pattern of a rate as TRAINING_PATTERN_SET codes it: TPS2 at RBR and HBR, TPS3 at HBR2, TPS4 at
HBR3; scrambling disabled but for TPS4. (log 164 PRESUMED) -/
def eqPatternCode (r : ChannelRec) : Nat := [0x22, 0x22, 0x23, 0x07].getD r.edpRate 0x22

/-- TRAINING_LANEk_SET bytes from OUT_VS: swing, pre-emphasis, and their "maximum reached" bits. (log 164 PRESUMED) -/
def State.laneSets (s : State) (n : Nat) : List Byte :=
  (List.range (s.outLanes n)).map fun k =>
    let sw := s.fld (OUT_VS n) (2 * k) 2
    let pe := s.fld (OUT_VS n) (8 + 2 * k) 2
    BitVec.ofNat 8 (sw + (if sw = 3 then 4 else 0) + 8 * pe + (if pe = 3 then 32 else 0))

/-- The sink offers enhanced framing, and ASSR (R362). -/
def OutSt.cap (o : OutSt) (i : Nat) : Nat := (o.caps.getD i 0).toNat

/-- The transaction of a step (R362, R366, R367, R372). (log 164 PRESUMED) -/
def State.stepOp (s : State) (n : Nat) : AuxStep → AuxOp
  | .caps => devOp false 0x00000 16 []
  | .config 0 =>
    let r := s.chanRec n
    devOp true 0x00100 2 (leBytes 1 ((r.map linkBw).getD 0) ++
      leBytes 1 (s.outLanes n + if bit ((s.outOf n).cap 2) 7 then 0x80 else 0))
  | .config 1 => devOp true 0x00107 1 [0]
  | .config _ => devOp true 0x0010A 1 [1]
  | .crPattern _ _ => devOp true 0x00102 (1 + s.outLanes n) (0x21 :: s.laneSets n)
  | .crRead _ _ => devOp false 0x00202 6 []
  | .eqPattern _ => devOp true 0x00102 (1 + s.outLanes n)
      (leBytes 1 (((s.chanRec n).map eqPatternCode).getD 0x22) ++ s.laneSets n)
  | .eqRead _ => devOp false 0x00202 6 []
  | .patternOff => devOp true 0x00102 1 [0]
  | .crcMisc => devOp false 0x00246 1 []
  | .crcStart => devOp true 0x00270 1 [1]
  | .crcRead => devOp false 0x00240 7 []
  | _ => devOp false 0x00200 6 []

/-- Begin a device step: at once on a free wire, else after the transaction on it. (log 168 DEDUCED) -/
def devStep (n : Nat) (st : AuxStep) (s : State) : State :=
  match (s.outOf n).aux with
  | none => modOut n (fun o => { o with step := st, aux := some (s.stepOp n st) }) s
  | some _ => modOut n (fun o => { o with want := if o.want.contains st then o.want else o.want ++ [st] }) s

/-- The wire is free: a waiting device step goes first, then a waiting firmware transaction. (log 168 DEDUCED) -/
def wireFree (n : Nat) (s : State) : State :=
  let o := s.outOf n
  if o.aux.isSome then s
  else match o.want, o.fw with
    | st :: rest, _ => devStep n st (modOut n (fun o => { o with want := rest }) s)
    | [], some f => if o.step = .none then modOut n (fun o => { o with aux := some f, fw := none }) s else s
    | [], none => s

/-- A firmware AUX command ends with `result`. -/
def fwEnd (n result count : Nat) (s : State) : State :=
  (s.setFlds (OUT_AUX_STAT n) [(0, 1, 0), (4, 4, result), (8, 5, count)]).raise (OUT_ISTAT n) 3

/-- Every transaction of the output is abandoned; a firmware command ends with ABORTED (R373). -/
def auxAbandon (n : Nat) (s : State) : State :=
  let o := s.outOf n
  let fw := (o.aux.any (·.firmware)) || o.fw.isSome
  let s := modOut n (fun o => { o with aux := none, fw := none, want := [], step := .none, retrain := false }) s
  if fw then fwEnd n 7 0 s else s

/-- A device sequence is dropped; a firmware transaction stays. (log 168 DEDUCED) -/
def devDrop (n : Nat) (s : State) : State :=
  modOut n (fun o => { o with aux := o.aux.filter (·.firmware), want := [], step := .none, retrain := false }) s

/-- A device sequence is dropped, and the wire is free for a waiting firmware transaction. -/
def devAbandon (n : Nat) (s : State) : State := wireFree n (devDrop n s)

/-! ### Output states (Table 17-2) -/

/-- The eDP map in `w` is a permutation of the `k` lanes (R369). -/
def mapOk (k : Nat) (w : Word) : Bool :=
  let l := (List.range k).map fun i => bits w.toNat (2 * i) 2
  l.all (· < k) && l.eraseDups.length == k

/-- OUT_LANE and OUT_INV take effect; MAP_ERR where the eDP map is no permutation (R369). (log 169 PRESUMED) -/
def checkMap (n : Nat) (s : State) : State :=
  let s := modOut n (fun o => { o with lane := s.reg (OUT_LANE n), inv := s.reg (OUT_INV n) }) s
  if s.outMode n = 0 then s.putFlag (OUT_STAT n) 12 (!mapOk (s.outLanes n) (s.reg (OUT_LANE n))) else s

/-- The training procedure starts (R362); its first transaction goes before a waiting firmware transaction (R365).
(log 168 DEDUCED) -/
def startTraining (n : Nat) (s : State) : State :=
  let s := checkMap n (setOutState n outTraining (devDrop n (clearReady n s)))
  let s := (s.bump (OUT_TRAIN n) 0 16 1).setFld (OUT_STAT n) 16 4 0
  devStep n .caps ((s.setReg (OUT_VS n) 0).lower (OUT_STAT n) 11)

/-- Training fails (R371). -/
def trainFail (n code : Nat) (s : State) : State :=
  let s := setOutState n outRetry (devAbandon n s)
  let s := ((s.setFld (OUT_STAT n) 16 4 code).bump (OUT_TRAIN n) 16 16 1).raise (OUT_ISTAT n) 1
  report (66 + n) s

/-- The output leaves IDLE where its channel is active and the sequencer is UP (R360). -/
def outputStart (n : Nat) (s : State) : State :=
  if s.outState n ≠ outIdle ∨ s.chState n = chOff ∨ s.fld SEQ_STAT 0 3 ≠ 2 ∨ (s.outOf n).serFault then s
  else if s.outMode n = 0 then
    let s := setOutState n outWaitHpd (checkMap n s)
    if s.flag (OUT_STAT n) 9 then startTraining n s else s
  else setReady n (setOutState n outLvds (checkMap n s))

/-- The output goes to IDLE (Table 17-2, R373). -/
def outputIdle (n : Nat) (s : State) : State :=
  if s.outState n = outIdle then s else setOutState n outIdle (auxAbandon n (clearReady n s))

/-- The output is eDP and some tell-tale of channel `n` declares method S: the sink CRC is enabled (R366). -/
def State.sinkCrcOn (s : State) (n : Nat) : Bool :=
  s.outMode n = 0 && s.tts.any fun t => t.channel = n && bit t.methods 1

/-- Entry into VIDEO (R362 step 5, R366). (log 165 DEDUCED) -/
def enterVideo (n : Nat) (s : State) : State :=
  let s := setReady n (setOutState n outVideo (modOut n (fun o => { o with retrain := false }) s))
  if s.sinkCrcOn n then devStep n .crcMisc s else modOut n (fun o => { o with step := .none }) s

/-! ### What a reply means -/

/-- Lane status of a read that starts at 0x202: CR_DONE, CHANNEL_EQ_DONE and SYMBOL_LOCKED of lane `k`.
(log 164 PRESUMED) -/
def laneStatus (d : List Byte) (k : Nat) : Nat := bits ((d.getD (k / 2) 0).toNat) (4 * (k % 2)) 3

/-- The adjust requests of a read that starts at 0x202, put into OUT_VS: the sum of swing and pre-emphasis is at most 3
(R497), and a request above it gets the pre-emphasis that its swing leaves. (log 164 PRESUMED) -/
def applyAdjust (n : Nat) (d : List Byte) (s : State) : State :=
  (List.range (s.outLanes n)).foldl (fun s k =>
    let r := bits ((d.getD (4 + k / 2) 0).toNat) (4 * (k % 2)) 4
    (s.setFld (OUT_VS n) (2 * k) 2 (r % 4)).setFld (OUT_VS n) (8 + 2 * k) 2 (min (r / 4) (3 - r % 4))) s

/-- The highest swing level in use. -/
def State.swing (s : State) (n : Nat) : Nat :=
  (List.range (s.outLanes n)).foldl (fun m k => max m (s.fld (OUT_VS n) (2 * k) 2)) 0

/-- The sink offers what the record needs (R362 step 1). -/
def State.capsOk (s : State) (n : Nat) (d : List Byte) : Bool :=
  match s.chanRec n with
  | none => false
  | some r =>
    let b := fun i => (d.getD i 0).toNat
    linkBw r ≤ b 1 && r.edpLanes ≤ b 2 % 32 &&
      (if r.edpRate = 2 then bit (b 2) 6 else if r.edpRate = 3 then bit (b 3) 7 else true)

/-- Link status shows every lane trained (R372), in a read that starts at 0x200. (log 164 PRESUMED) -/
def State.linkGood (s : State) (n : Nat) (d : List Byte) : Bool :=
  (List.range (s.outLanes n)).all (fun k => laneStatus (d.drop 2) k = 7) && bit (d.getD 4 0).toNat 0

/-- The sink has no CRC: nothing further of it is read (R366). (log 168 DEDUCED) -/
def crcGone (n : Nat) (s : State) : State :=
  modOut n (fun o => { o with step := .none, want := o.want.filter (· ≠ .crcRead) }) s

/-- The device's own transaction at `step` got its ACK with data `d`. (log 165 DEDUCED, 172 DEDUCED) -/
def devAck (n : Nat) (step : AuxStep) (d : List Byte) (s : State) : State :=
  let lanes := s.outLanes n
  match step with
  | .caps =>
    let s := modOut n (fun o => { o with caps := d }) s
    if s.capsOk n d then
      devStep n (.config 0) (s.putFlag (OUT_STAT n) 11 (bit ((d.getD 0xD 0).toNat) 0))
    else trainFail n 1 s
  | .config k =>
    if k = 0 then devStep n (.config 1) s
    else if k = 1 ∧ s.flag (OUT_STAT n) 11 then devStep n (.config 2) s
    else devStep n (.crPattern 0 0) s
  | .crPattern k l => modOut n (fun o => { o with step := .crWait k l }) s
  | .crRead k l =>
    if (List.range lanes).all fun i => bit (laneStatus d i) 0 then devStep n (.eqPattern 0) s
    else if l = 3 ∨ 4 ≤ k then trainFail n 2 s
    else
      let s := applyAdjust n d s
      let l' := s.swing n
      devStep n (.crPattern (if l' = l then k + 1 else 0) l') s
  | .eqPattern k => modOut n (fun o => { o with step := .eqWait k }) s
  | .eqRead k =>
    if (List.range lanes).any fun i => !bit (laneStatus d i) 0 then trainFail n 3 s
    else if (List.range lanes).all (fun i => laneStatus d i = 7) && bit ((d.getD 2 0).toNat) 0 then devStep n .patternOff s
    else if 4 ≤ k then trainFail n 3 s
    else devStep n (.eqPattern (k + 1)) (applyAdjust n d s)
  | .patternOff => enterVideo n s
  | .crcMisc =>
    let sup := bit ((d.getD 0 0).toNat) 5
    let s := s.putFlag (OUT_STAT n) 10 sup
    if sup then devStep n .crcStart s else crcMissing n (crcGone n s)
  | .crcStart => modOut n (fun o => { o with step := .none }) s
  | .crcRead =>
    let cnt := (d.getD 6 0).toNat % 16
    let s := modOut n (fun o => { o with step := .none }) s
    if (s.outOf n).crcCount = some cnt then s
    else
      let frame := s.fld (CH_POS n) 16 16
      let v := fun i => ofLe ((d.drop i).take 2)
      let s := modOut n (fun o => { o with crcCount := some cnt }) s
      let s := s.setFlds (OUT_SCRC_R n) [(0, 16, v 0), (16, 16, v 2)]
      let s := (s.setFlds (OUT_SCRC_B n) [(0, 16, v 4), (16, 16, frame)]).bump (OUT_SCRC_CNT n) 0 16 1
      modChan n (fun c => { c with sinkCrc := some (frame, ofLe (d.take 6)) }) s
  | .linkCheck =>
    let s := modOut n (fun o => { o with step := .none }) s
    if s.linkGood n d then s else startTraining n s
  | _ => s

/-- The device's own transaction ended without an ACK. (log 168 DEDUCED, 172 DEDUCED) -/
def devFail (n : Nat) (step : AuxStep) (s : State) : State :=
  match step with
  | .crcMisc => crcMissing n ((crcGone n s).lower (OUT_STAT n) 10)
  | .crcStart => modOut n (fun o => { o with step := .none }) s
  | .crcRead => modOut n (fun o => { o with step := .none }) s
  | .linkCheck => modOut n (fun o => { o with step := .none }) s
  | .none => s
  | _ => trainFail n 4 s

/-- Put the bytes of a firmware read into OUT_AUX_DATA. -/
def fwData (n : Nat) (d : List Byte) (s : State) : State :=
  d.zipIdx.foldl (fun s e => s.setFld (OUT_AUX_DATA n (e.2 / 4)) (8 * (e.2 % 4)) 8 e.1.toNat) s

/-- The transaction on the wire ends without an ACK: RESULT `code` for firmware. -/
def auxEnd (n code : Nat) (s : State) : State :=
  match (s.outOf n).aux with
  | none => s
  | some op =>
    let step := (s.outOf n).step
    let s := modOut n (fun o => { o with aux := none }) s
    wireFree n (if op.firmware then fwEnd n code 0 s else devFail n step s)

/-- AUX_TRANSACTION_DONE (R364). -/
def execAuxTransactionDone (n : Fin 4) (r : AuxReply) (s : State) : Host.Outcome State Fault Refusal :=
  match (s.outOf n).aux with
  | none => finish s
  | some op =>
    if op.waiting then finish s
    else match r with
    | .defer => finish (modOut n (fun o => { o with aux := some { op with waiting := true } }) s)
    | .nack => finish (auxEnd n 1 s)
    | .ack data =>
      let step := (s.outOf n).step
      let s := modOut n (fun o => { o with aux := none }) s
      if op.firmware then
        let d := if op.write then [] else data.take op.len
        finish (wireFree n (fwEnd n 0 d.length (fwData n d s)))
      else finish (wireFree n (devAck n step data s))

/-- AUX_TIMEOUT (R364): retried up to two times. -/
def execAuxTimeout (n : Fin 4) (s : State) : Host.Outcome State Fault Refusal :=
  match (s.outOf n).aux with
  | none => finish s
  | some op =>
    if op.waiting then finish s
    else if op.retries < 2 then
      finish (modOut n (fun o => { o with aux := some { op with retries := op.retries + 1 } }) s)
    else finish (auxEnd n 3 s)

/-- AUX_DEFER_RETRY (R364): retried up to seven times, then DEFER_LIMIT. -/
def execAuxDeferRetry (n : Fin 4) (s : State) : Host.Outcome State Fault Refusal :=
  match (s.outOf n).aux with
  | none => finish s
  | some op =>
    if !op.waiting then finish s
    else if op.defers < 7 then
      finish (modOut n (fun o => { o with aux := some { op with defers := op.defers + 1, waiting := false } }) s)
    else finish (auxEnd n 2 s)

/-- TRAINING_READ_INTERVAL (R362): the wait before a lane-status read ends. -/
def execTrainingReadInterval (n : Fin 4) (s : State) : Host.Outcome State Fault Refusal :=
  match (s.outOf n).step with
  | .crWait k l => finish (devStep n (.crRead k l) s)
  | .eqWait k => finish (devStep n (.eqRead k) s)
  | _ => finish s

/-! ### HPD (R361, R372, R375) -/

/-- HPD_RISE: seen only while VDDIO2 is powered, without which OUTn_HPD reads 0 (R491). (log 28 DESIGN CHOICE, 152
DEDUCED) (log 28 DESIGN CHOICE, 166 DEDUCED) -/
def execHpdRise (n : Fin 4) (s : State) : Host.Outcome State Fault Refusal :=
  if s.outMode n ≠ 0 ∨ !s.pinIn (.outHpd n) true then finish s
  else
    let s := s.raise (OUT_STAT n) 9
    finish (if s.outState n = outWaitHpd then startTraining n s else s)

/-- HPD_IRQ: a low pulse between two high levels of OUTn_HPD (R361, R491). (log 28 DESIGN CHOICE, 166 DEDUCED) -/
def execHpdIrq (n : Fin 4) (s : State) : Host.Outcome State Fault Refusal :=
  if s.outMode n ≠ 0 ∨ !s.pinIn (.outHpd n) true then finish s
  else
    let s := s.bump (OUT_HPD_CNT n) 0 16 1
    finish (if s.outState n = outVideo then devStep n .linkCheck s else s)

/-- HPD_LOSS. (log 166 DEDUCED) -/
def execHpdLoss (n : Fin 4) (s : State) : Host.Outcome State Fault Refusal :=
  if s.outMode n ≠ 0 then finish s
  else
    let s := ((s.lower (OUT_STAT n) 9).bump (OUT_HPD_CNT n) 16 16 1).raise (OUT_ISTAT n) 2
    finish (report (66 + n.val) (if 2 ≤ s.outState n then setOutState n outWaitHpd (devAbandon n (clearReady n s)) else s))

/-- PANEL_TRAINING_RETRY (R371). -/
def execPanelTrainingRetry (n : Fin 4) (s : State) : Host.Outcome State Fault Refusal :=
  finish (if s.outState n = outRetry ∧ s.flag (OUT_STAT n) 9 then startTraining n s else s)

/-- SINK_CRC_READ (R367): after the device's transaction on the wire, if any. (log 168 DEDUCED) -/
def execSinkCrcRead (n : Fin 4) (s : State) : Host.Outcome State Fault Refusal :=
  finish (if s.outState n = outVideo ∧ s.flag (OUT_STAT n) 10 then devStep n .crcRead s else s)

/-! ### Register commands -/

/-- A write of OUT_CTRL (R372). -/
def wrOutCtrl (n : Nat) (_who : Nat) (w : Word) (s : State) : State :=
  if bit w.toNat 0 ∧ s.outState n = outVideo then modOut n (fun o => { o with retrain := true }) (startTraining n s) else s

/-- A write of OUT_CLR. -/
def wrOutClr (n : Nat) (_who : Nat) (w : Word) (s : State) : State :=
  if bit w.toNat 0 then ((s.setReg (OUT_TRAIN n) 0).setReg (OUT_SCRC_CNT n) 0).setReg (OUT_HPD_CNT n) 0 else s

/-- A firmware write may not touch 0x00100 to 0x0010F or 0x00270 (R365). -/
def auxDenied (addr len : Nat) : Bool :=
  (addr ≤ 0x10F && 0x100 < addr + len) || (addr ≤ 0x270 && 0x270 < addr + len)

/-- A write of OUT_AUX_CMD (R365, R374). (log 167 DEDUCED) -/
def wrAuxCmd (n : Nat) (_who : Nat) (w : Word) (s : State) : State :=
  let s := s.write (OUT_AUX_CMD n) w
  let addr := bits w.toNat 0 20
  let len := min 16 (bits w.toNat 20 5)
  let write := bit w.toNat 28
  if !bit w.toNat 31 || s.flag (OUT_AUX_STAT n) 0 then s
  else if s.outMode n ≠ 0 then fwEnd n 5 0 s
  else if s.outState n = outIdle then fwEnd n 6 0 s
  else if len = 0 then fwEnd n 0 0 s
  else if write && auxDenied addr len then fwEnd n 4 0 s
  else
    let data := (List.range len).map fun i => BitVec.ofNat 8 (s.fld (OUT_AUX_DATA n (i / 4)) (8 * (i % 4)) 8)
    let op : AuxOp := { firmware := true, write := write, addr := addr, len := len,
                        data := if write then data else [], retries := 0, defers := 0, waiting := false }
    wireFree n (modOut n (fun o => { o with fw := some op }) (s.raise (OUT_AUX_STAT n) 0))

/-- OUTPUT_RETRAIN (R372). -/
def execOutputRetrain (t : Requester) (n : Fin 4) (w : Word) (s : State) : Host.Outcome State Fault Refusal :=
  finish (regCmd t (OUT_CTRL n) w (wrOutCtrl n) s)

/-- AUX_COMMAND (R365). -/
def execAuxCommand (t : Requester) (n : Fin 4) (w : Word) (s : State) : Host.Outcome State Fault Refusal :=
  finish (regCmd t (OUT_AUX_CMD n) w (wrAuxCmd n) s)

/-- OUTPUT_COUNTER_CLEAR (R371). -/
def execOutputCounterClear (t : Requester) (n : Fin 4) (w : Word) (s : State) : Host.Outcome State Fault Refusal :=
  finish (regCmd t (OUT_CLR n) w (wrOutClr n) s)

end Sys2Proof.Machine
end

