-- ==== Sys2Proof/Machine/Compose.lean ====
section
/-! DEFINITION. Composition (16, Tables 16-1 and 16-2): formats, blending, dither, the tell-tale plane with Heron's
modulation (R380, R386), the egress of one line, substitution (R354) and the checks on layers (R340, R342, R345). -/

namespace Sys2Proof.Machine

/-- A pixel of 10-bit components: A[39:30] R[29:20] G[19:10] B[9:0]. -/
def pix (a r g b : Nat) : Nat := a * 2 ^ 30 + r * 2 ^ 20 + g * 2 ^ 10 + b

/-- Component `k` of a pixel: 0 B, 1 G, 2 R, 3 A. -/
def comp (p k : Nat) : Nat := bits p (10 * k) 10

/-- An 8-bit component in 10 bits. -/
def c8 (c : Nat) : Nat := 4 * c + c / 64

/-- Expansion of a raw pixel value (Table 16-2); `pal` reads a palette entry. -/
def expand (format v : Nat) (pal : Nat → Nat) : Nat :=
  match format with
  | 1 => pix 1023 (bits v 20 10) (bits v 10 10) (bits v 0 10)
  | 2 => pix (bits v 30 2 * 341) (bits v 20 10) (bits v 10 10) (bits v 0 10)
  | 3 => pix 1023 (c8 (bits v 16 8)) (c8 (bits v 8 8)) (c8 (bits v 0 8))
  | 4 => pix (c8 (bits v 24 8)) (c8 (bits v 16 8)) (c8 (bits v 8 8)) (c8 (bits v 0 8))
  | 5 => pix 1023 (bits v 11 5 * 33) (16 * bits v 5 6 + bits v 5 6 / 4) (bits v 0 5 * 33)
  | 6 => pal (bits v 0 8)
  | _ => pal (bits v 0 10)

/-- Blend a layer pixel over the result below it (16, Blending). -/
def blend (galpha s d : Nat) : Nat :=
  let a := (comp s 3 * galpha + 511) / 1023
  let c := fun k => (a * comp s k + (1023 - a) * comp d k + 511) / 1023
  pix 1023 (c 2) (c 1) (c 0)

/-- The matrix M of the dither stage. -/
def ditherM (i j : Nat) : Nat := [0, 8, 2, 10, 12, 4, 14, 6, 3, 11, 1, 9, 15, 7, 13, 5].getD (4 * (i % 4) + j % 4) 0

/-- T of the dither stage at (x, y) in frame `k`. -/
def ditherT (mode x y k : Nat) : Nat :=
  match mode with
  | 0 => 2
  | 1 => ditherM y x / 4
  | _ => ditherM (y + k) (x + k) / 4

/-- Reduce a 10-bit component to 8 bits. -/
def to8 (c t : Nat) : Nat := min 255 ((c + t) / 4)

/-- The output depth is 8 (OUT_MODE 1), else 10. -/
def State.depth8 (s : State) (n : Nat) : Bool := s.outMode n = 1

/-- An egress pixel: at depth 10 R[29:20] G[19:10] B[9:0], at depth 8 R[23:16] G[15:8] B[7:0] (R384). -/
def egress (d8 : Bool) (r g b : Nat) : Nat :=
  if d8 then r * 65536 + g * 256 + b else r * 2 ^ 20 + g * 2 ^ 10 + b

/-! ### Layers -/

/-- Fields of a layer in the working set (`work`) or in the shadows. -/
structure LayerNow where
  en : Bool
  galpha : Nat
  base : Nat
  x : Nat
  y : Nat
  w : Nat
  h : Nat
  format : Nat
  owner : Nat
  pitch : Nat
deriving DecidableEq, Repr

/-- Decode the five words of a layer. -/
def layerNow (f : Nat → Nat) : LayerNow :=
  { en := bit (f 0) 0, galpha := bits (f 0) 16 10, base := f 1, x := bits (f 2) 0 16, y := bits (f 2) 16 16,
    w := bits (f 3) 0 16, h := bits (f 3) 16 16, format := bits (f 4) 0 8, owner := bits (f 4) 8 4,
    pitch := bits (f 4) 16 16 }

/-- Layer `m` of channel `n` in the working set, and in the shadows. -/
def State.workLayer (s : State) (n m : Nat) : LayerNow := layerNow fun k => (s.chanOf n).layer m k
def State.shadowLayer (s : State) (n m : Nat) : LayerNow := layerNow fun k => (s.reg (CH_L_CTRL n m + 4 * k)).toNat

/-- EN 1, and W, H and PITCH not 0 (R340). -/
def LayerNow.counts (l : LayerNow) : Bool := l.en && l.w != 0 && l.h != 0 && l.pitch != 0

/-- First byte after the footprint. -/
def LayerNow.last (l : LayerNow) : Nat := l.base + l.pitch * (l.h - 1) + l.w * bppOf l.format

/-- The demand of a layer as a fraction in bytes per second (R342). -/
def State.demand (s : State) (n : Nat) (l : LayerNow) : Nat × Nat :=
  match s.chanRec n with
  | some r => if l.counts then (l.w * bppOf l.format * (r.pixclk * 1000), hTotal r) else (0, 1)
  | none => (0, 1)

/-- The regions that the footprint of a layer meets. -/
def State.layerRegions (s : State) (l : LayerNow) : List RegionRec :=
  s.regions.filter fun r => r.size ≠ 0 && r.base < l.last && l.base < r.base + r.size

/-- The source region of a layer holds a to-restore line (R340). -/
def State.layerHeld (s : State) (l : LayerNow) : Bool :=
  (s.layerRegions l).any fun r =>
    (fillWithin s.mem.fill (r.base / lineSize) ((r.base + r.size) / lineSize)).any FillRun.restores

/-- The layer passes the region check of R345. -/
def State.layerPlacedNow (s : State) (l : LayerNow) : Bool :=
  s.regions.any fun r => r.size ≠ 0 && bit r.flags 0 && r.base ≤ l.base && l.last ≤ r.base + r.size &&
    (r.owner == l.owner || bit r.shareRd l.owner)

/-- Bytes and pixel span [x0, x1) of a layer on line `y` of a channel `hactive` wide. -/
def LayerNow.span (l : LayerNow) (y hactive : Nat) : Option (Nat × Nat) :=
  if l.counts && l.y ≤ y && y < l.y + l.h && l.x < min (l.x + l.w) hactive then some (l.x, min (l.x + l.w) hactive)
  else none

/-- Address of pixel `x` of line `y` of the active area. -/
def LayerNow.addr (l : LayerNow) (x y : Nat) : Nat := l.base + (y - l.y) * l.pitch + (x - l.x) * bppOf l.format

/-- Layers shown in the current frame. -/
def State.shownLayers (s : State) (n : Nat) : List (Nat × LayerNow) :=
  ((List.range 6).map fun m => (m, s.workLayer n m)).filter fun e => e.2.counts && !s.flag (CH_STAT n) (16 + e.1)

/-- The fetch of a line: lines filled, errors counted with SRC 1 (R108, R112, R120); the answer names the sources to
report, each error for itself (R124). (log 65 DEDUCED, 158 DESIGN CHOICE) -/
def fetchLine (n y hactive : Nat) (s : State) : State × List Nat :=
  (s.shownLayers n).foldl (fun x e =>
    match e.2.span y hactive with
    | none => x
    | some (x0, x1) =>
      let a := e.2.addr x0 y
      let k := (x1 - x0) * bppOf e.2.format
      let r := eccCount (wordsOf a k) 0 1 (touch a k x.1)
      (r.2, x.2 ++ r.1.flatten)) (s, [])

/-- Some byte of a fetched pixel at column `x` is poisoned. -/
def State.pixelBad (s : State) (ls : List (Nat × LayerNow)) (x y hactive : Nat) : Bool :=
  ls.any fun e => match e.2.span y hactive with
    | none => false
    | some (x0, x1) => x0 ≤ x && x < x1 && (wordsOf (e.2.addr x y) (bppOf e.2.format)).any fun w => s.mem.poison.contains w

/-- The result of the layer stages at column `x` of line `y`. -/
def State.composed (s : State) (n : Nat) (ls : List (Nat × LayerNow)) (x y hactive : Nat) : Nat :=
  let pal := (s.chanOf n).palWork
  ls.foldl (fun d e => match e.2.span y hactive with
    | none => d
    | some (x0, x1) =>
      if x0 ≤ x ∧ x < x1 then
        let v := ofLe (tgetAll 0 s.mem.wm (e.2.addr x y) (bppOf e.2.format))
        blend e.2.galpha (expand e.2.format v fun i => (tget 0 pal (e.1 * 1024 + i)).toNat) d
      else d) (pix 1023 (s.fld (CH_FILL n) 20 10) (s.fld (CH_FILL n) 10 10) (s.fld (CH_FILL n) 0 10))

/-! ### The tell-tale plane (R380, R386) -/

/-- The glyph store. -/
def State.glyphStore (s : State) : Reader := fun i => tget 0 s.proof.glyphs i

/-- Colour of index `i` of variant `v`, at the output depth. -/
def glyphColour (e : GlyphEntry) (d8 : Bool) (v i : Nat) : Nat × Nat × Nat :=
  let c := e.colours.getD (3 * v + (i - 1)) 0
  let f := fun k => let x := bits c (10 * k) 10; if d8 then to8 x 2 else x
  (f 2, f 1, f 0)

/-- The chip sequence of Heron (R386). -/
def heronChip (k : Nat) : Int := [0, 1, 1, 1, -1, 1, -1, 1, 1, -1, -1, 1, -1, -1, -1].getD (k % 15) 0

/-- The offset added to every component of a drawn glyph pixel in the current frame. (log 175 DEDUCED) -/
def State.heronOffset (s : State) (r : TelltaleRec) : Int :=
  match (s.ttOf r.index).oWin with
  | none => 0
  | some fs =>
    let d := s.fld OPT_CFG 0 4
    heronChip fs.length * (if s.depth8 r.channel then (d + 3) / 4 else d : Nat)

/-- The plane's pixel at (x, y) of channel `n`, if opaque. -/
def State.planePixel (s : State) (n x y : Nat) : Option Nat :=
  (s.tts.filter fun r => r.channel = n && (s.ttOf r.index).drawn).findSome? fun r =>
    let e := glyphEntry s.glyphStore r.glyph
    if r.x ≤ x ∧ x < r.x + e.w ∧ r.y ≤ y ∧ y < r.y + e.h then
      let i := glyphPixel s.glyphStore e (x - r.x) (y - r.y)
      if i = 0 then none
      else
        let (cr, cg, cb) := glyphColour e (s.depth8 n) (s.fld (TT_S r.index) 20 2) i
        let o := s.heronOffset r
        let f := fun (c : Nat) => (clampInt 0 (if s.depth8 n then 255 else 1023) (c + o)).toNat
        some (egress (s.depth8 n) (f cr) (f cg) (f cb))
    else none

/-- Channel `n` sends composed pixels; else every pixel is black (R350, Table 16-3). (log 158 DESIGN CHOICE) -/
def State.composes (s : State) (n : Nat) : Bool := s.chState n = chRun || (s.chanOf n).lineDue

/-- Dither, plane and egress of a pixel of the layer stages; black, with the plane suppressed, where the channel does
not compose (R350, R373). (log 158 DESIGN CHOICE) -/
def State.outPixel (s : State) (n x y p : Nat) : Nat :=
  if !s.composes n then 0
  else match s.planePixel n x y with
  | some v => v
  | none =>
    if s.depth8 n then
      let t := ditherT (s.fld (CH_CTRL n) 4 2) x y (s.fld (CH_POS n) 16 16 % 4)
      egress true (to8 (comp p 2) t) (to8 (comp p 1) t) (to8 (comp p 0) t)
    else egress false (comp p 2) (comp p 1) (comp p 0)

/-- The opaque pixels of a glyph in variant `v` as E hashes them (R384). -/
def glyphWords (rd : Reader) (g v : Nat) (d8 : Bool) : List Byte :=
  let e := glyphEntry rd g
  (glyphOpaque rd e).flatMap fun p =>
    let (r, gr, b) := glyphColour e d8 v p.2.2
    leBytes 4 (egress d8 r gr b)

/-- Glyph-store words read to draw glyph `g`. -/
def glyphReads (rd : Reader) (g : Nat) : List Nat :=
  let e := glyphEntry rd g
  wordsOf (0x40 + 64 * g) 64 ++ wordsOf e.offset (e.h * glyphRow e.w)

end Sys2Proof.Machine
end

