-- ==== Sys2Proof/Machine/Proof.lean ====
section
/-! DEFINITION. Tell-tale requests (Table 18-3), proof windows and verdicts (18, R383 to R391), LED sinks (R389, R400),
bulb-check (R382), T1's requests (R381) and the presence frame's timers (R392). -/

namespace Sys2Proof.Machine

/-! ### Requests -/

/-- The combined state of CANMAP record `i` (R443): FRESH_ON, FRESH_OFF, AWAITING, STALE, the first that any JOINED
member holds. -/
def State.srcState (s : State) (i : Nat) : Nat :=
  let l := tget 0 s.srcs i :: s.peers.filterMap fun r => tfind (s.member r).srcs i
  ([2, 1, 0].find? fun x => l.contains x).getD 3

/-- The CANMAP sources of tell-tale `j`. -/
def State.ttSrcs (s : State) (j : Nat) : List Nat :=
  (s.canmaps.filter fun e => e.1.tt = j).map fun e => s.srcState e.2

/-- T1's requests for tell-tale `j` over the JOINED members: request and liveness, where one is set. -/
def State.t1Reqs (s : State) (j : Nat) : List (Nat × Bool) :=
  ((s.t1Req j, s.t1Live) :: s.peers.map fun r =>
    let v := codeAt (s.member r).t1Req j
    (if v = 3 then 0 else v, (s.member r).t1Alive)).filter fun e => e.1 ≠ 0

/-- The request of a tell-tale: its SRC, 0 for OFF (Table 18-3). -/
def State.request (s : State) (r : TelltaleRec) : Nat :=
  let src := s.ttSrcs r.index
  let t1 := s.t1Reqs r.index
  if (s.ttOf r.index).bulb then 1
  else if src.contains 2 then 2
  else if t1.any (fun e => e.1 = 2 && e.2) then 3
  else if bit r.flags 1 && !(src.isEmpty && t1.isEmpty) && src.all (· = 3) && t1.all (fun e => !e.2) then 4
  else 0

/-! ### Unavailable methods (R383, R394, R395) -/

/-- The settings let method `m` run windows (R394). -/
def State.methodSet (s : State) (r : TelltaleRec) (m : Nat) : Bool :=
  match m with
  | 0 => s.fld TT_CFG 0 4 ≠ 0
  | 1 => s.fld TT_CFG 4 4 ≠ 0
  | 2 => s.fld OPT_CFG 0 4 ≠ 0
  | _ => s.fld TT_CFG 8 8 ≠ 0 && r.led < 32 && s.fld (LED_CUR r.led) 0 10 ≠ 0

/-- Method `m` runs windows (R394; R385 for S without a sink CRC). (log 172 DEDUCED) -/
def State.methodRuns (s : State) (r : TelltaleRec) (m : Nat) : Bool :=
  s.methodSet r m && (m != 1 || (r.channel < 4 && s.flag (OUT_STAT r.channel) 10))

/-! ### Verdicts -/

def TtSt.inc (t : TtSt) (m : Nat) : Nat := [t.eInc, t.sInc, t.oInc, t.lInc].getD m 0
def TtSt.setInc (t : TtSt) (m n : Nat) : TtSt :=
  match m with
  | 0 => { t with eInc := n }
  | 1 => { t with sInc := n }
  | 2 => { t with oInc := n }
  | _ => { t with lInc := n }

/-- A window of method `m` ends: 2 pass, 3 fail, 1 inconclusive (R383, R399). -/
def windowEnd (r : TelltaleRec) (m v : Nat) (x : Rep) : Rep :=
  let s := x.1
  let j := r.index
  let was := s.elecProven r && 2 ≤ s.ttState j
  if v = 1 then
    let k := min 15 ((s.ttOf j).inc m + 1)
    let s := modTt j (fun t => t.setInc m k) s
    let y := if 8 ≤ k then makeUnavail r m (s, x.2) else (s, x.2)
    (restate was r y.1, y.2)
  else
    let s := modTt j (fun t => t.setInc m 0) s
    let s := (s.setFld (TT_S j) (8 + 2 * m) 2 v).lower (TT_S j) (16 + m)
    let s := if m = 2 ∧ r.pd < 8 then s.lower OPT_STAT r.pd else s
    if v = 3 then
      let s := ((s.raise (TT_FAIL (j / 32)) (j % 32)).raise TT_ISTAT 0).bump (TT_S j) 24 8 1
      let s := if m = 2 then s.raise OPT_ISTAT 0 else s
      (restate was r s, x.2 ++ [if bit r.flags 0 then 70 else 71])
    else (restate was r (if m = 2 then doorPoint SYS_DOOR_OPROOF s else s), x.2)

/-! ### Opening windows -/

/-- Open the window of method `m` where it runs; else the method is unavailable (R394). An L window needs its sink on
(R389, R400). (log 171 DEDUCED, 172 DEDUCED) -/
def openWindow (r : TelltaleRec) (m : Nat) (x : Rep) : Rep :=
  if !bit r.methods m then x
  else if !x.1.methodRuns r m then
    let was := x.1.elecProven r && 2 ≤ x.1.ttState r.index
    let y := makeUnavail r m x
    (restate was r y.1, y.2)
  else
    let t := x.1.ttOf r.index
    match m with
    | 0 => if t.eWin.isSome then x else (modTt r.index (fun t => { t with eWin := some 0, eBad := false }) x.1, x.2)
    | 1 => if t.sWin.isSome then x
        else (modTt r.index (fun t => { t with sWin := some 0, sFail := false, sUnread := false }) x.1, x.2)
    | 2 =>
      if t.oWin.isSome ∨ !(r.channel < 4 && (x.1.chanOf r.channel).bklSettle) then x
      else
        let s := modTt r.index (fun t => { t with oWin := some [] }) x.1
        (if r.pd < 8 then s.raise OPT_STAT (8 + r.pd) else s, x.2)
    | _ => if t.lWin ∨ !x.1.flag (LED_CUR r.led) 31 then x else (modTt r.index (fun t => { t with lWin := true, lBad := false }) x.1, x.2)

/-- The O windows of a tell-tale whose samples are not all in are abandoned (R397). -/
def dropO (r : TelltaleRec) (s : State) : State :=
  let s := modTt r.index (fun t => { t with oWin := none, oTail := [] }) s
  if r.pd < 8 then s.lower OPT_STAT (8 + r.pd) else s

/-- The window of method `m` ends without a verdict. -/
def closeWindow (r : TelltaleRec) (m : Nat) (s : State) : State :=
  match m with
  | 0 => modTt r.index (fun t => { t with eWin := none, eBad := false }) s
  | 1 => modTt r.index (fun t => { t with sWin := none, sFail := false, sUnread := false }) s
  | 2 => dropO r s
  | _ => modTt r.index (fun t => { t with lWin := false, lBad := false }) s

/-- A setting of the methods has changed: one that runs no windows is unavailable for every tell-tale that declares it,
and L, which waits for no frame start, runs again where windows run (R394). (log 171 DEDUCED) -/
def methodsCheck (s : State) : Rep :=
  s.tts.foldl (fun x r =>
    let on := ttProving ≤ x.1.ttState r.index
    let x := (List.range 4).foldl (fun x m =>
      if !bit r.methods m || (if on then x.1.methodRuns r m else x.1.methodSet r m) then x
      else
        let was := on && x.1.elecProven r
        let y := makeUnavail r m (closeWindow r m x.1, x.2)
        (restate was r y.1, y.2)) x
    if on then openWindow r 3 x else x) ((s, []) : Rep)

def openWindows (r : TelltaleRec) (x : Rep) : Rep :=
  openWindow r 3 (openWindow r 2 (openWindow r 1 (openWindow r 0 x)))

/-- WAIT to PROVING: the first window of each declared method opens. -/
def enterProving (r : TelltaleRec) (x : Rep) : Rep :=
  if x.1.ttState r.index = ttWait then openWindows r (x.1.setFld (TT_S r.index) 0 3 ttProving, x.2) else x

/-! ### Request changes -/

/-- Evaluate the request of one tell-tale (Tables 18-3, 18-4). (log 171 DEDUCED) -/
def evalRequest (r : TelltaleRec) (x : Rep) : Rep :=
  let s := x.1
  let j := r.index
  let src := s.request r
  let s := s.setFld (TT_S j) 4 3 src
  if src ≠ 0 then
    if s.ttState j = ttOff then
      let s := sinkOn r (modTt j (fun t => { t with dlDone := false }) (s.setFld (TT_S j) 0 3 ttWait))
      if r.channel = 0xFF ∧ r.led < 32 ∧ s.flag (LED_CUR r.led) 31 then enterProving r (s, x.2) else (s, x.2)
    else (s, x.2)
  else if s.ttState j = ttOff then (s, x.2)
  else (sinkOff r ((clearVerdicts j (abandonWindows j s)).setFld (TT_S j) 0 3 ttOff), x.2)

/-- Evaluate every request; the presence frame and the flock messages follow. -/
def evalAll (s : State) : State :=
  let x := s.tts.foldl (fun x r => evalRequest r x) ((s, []) : Rep)
  Rep.run (notice x.1, x.2)

/-- Sinks of ON tell-tales come on again once the rails are up: LED-only tell-tales that wait go to PROVING.
(log 178 DEDUCED) -/
def sinksUp (s : State) : Rep :=
  s.tts.foldl (fun x r =>
    if x.1.ttState r.index = ttOff then x
    else
      let s := sinkOn r x.1
      if r.channel = 0xFF ∧ r.led < 32 ∧ s.flag (LED_CUR r.led) 31 then enterProving r (s, x.2) else (s, x.2))
    ((s, []) : Rep)

/-! ### Bulb-check (R382) -/

/-- Bulb-check starts for the tell-tales of channel `n`, or for the LED-only ones: once per restore or cold path. -/
def bulbStart (n : Option Nat) (s : State) : State :=
  if s.ctl.path = .warm ∨ s.fld TT_BULB 0 16 = 0 then s
  else
    let l := s.tts.filter fun r => bit r.flags 2 && r.channel == (n.getD 0xFF) && !(s.ttOf r.index).bulbDone
    if l.isEmpty then s
    else evalAll (l.foldl (fun s r => modTt r.index (fun t => { t with bulb := true, bulbDone := true }) s) s)

/-- BULB_CHECK_END. -/
def execBulbCheckEnd (n : Option (Fin 4)) (s : State) : Host.Outcome State Fault Refusal :=
  let c := (n.map (·.val)).getD 0xFF
  finish (evalAll ((s.tts.filter fun r => r.channel = c).foldl
    (fun s r => modTt r.index (fun t => { t with bulb := false }) s) s))

/-! ### E, S and O at a frame start (R384 to R388) -/

/-- The glyph-store reads of the frame that ended: single-bit errors are corrected, double-bit errors counted with SRC 2
(R108, R112, R379), each reported (R124). (log 176 DEDUCED) -/
def glyphFetch (r : TelltaleRec) (x : Rep) : Rep :=
  let s := x.1
  if !(s.ttOf r.index).drawn then x
  else
    let ws := glyphReads s.glyphStore r.glyph
    let one := ws.filter fun w => s.proof.glyphWeak.contains w
    let two := ws.filter fun w => s.proof.glyphPoison.contains w
    let s := one.foldl (fun s w => (s.bump MEM_ECC_CNT 0 16 1).setReg MEM_CE_ADDR (BitVec.ofNat 32 (w * 16))) s
    let s := { s with proof := { s.proof with glyphWeak := s.proof.glyphWeak.filter fun w => !one.contains w } }
    (two.foldl (fun s w => countUe (w * 16) 0 2 s) s, x.2 ++ two.map fun _ => 28)

/-- The E frame that ended: TT_ECRC follows; it matches, unless a word of the glyph store was poisoned (R399).
(log 176 DEDUCED) -/
def eFrame (r : TelltaleRec) (x : Rep) : Bool × Rep :=
  let s := x.1
  let v := s.fld (TT_S r.index) 20 2
  let bad := (glyphReads s.glyphStore r.glyph).filter fun w => s.proof.glyphPoison.contains w
  if bad.isEmpty then
    let c := crc32c (glyphWords s.glyphStore r.glyph v (s.depth8 r.channel))
    (c == r.expCrc.getD v 0, (s.setReg (TT_ECRC r.index) (BitVec.ofNat 32 c), x.2))
  else
    let (f, s) := s.free (2 ^ 32)
    (false, (s.setReg (TT_ECRC r.index) (BitVec.ofNat 32 f), x.2))

/-- The S frame that ended: `some true` passed, `some false` failed, none unread (R385). -/
def State.sFrame (s : State) (n : Nat) : Option Bool :=
  let c := s.chanOf n
  match c.sinkCrc with
  | none => none
  | some (tag, v) => (c.testCrc.find? fun e => e.1 = tag).map fun e => e.2 == v

/-- A register value of 16 signed bits; the spec gives none for a number that does not fit. (log 174 DESIGN CHOICE) -/
def fit16 (i : Int) (s : State) : Nat × State :=
  if -32768 ≤ i ∧ i ≤ 32767 then (ofSigned 16 i, s) else s.free 65536

/-- Sum of products of chips and frames; `off` shifts the sequence. -/
def chipSum (off : Nat) (fs : List PdFrame) : Int := (fs.zipIdx.map fun e => heronChip (e.2 + off) * (e.1.f : Int)).sum

/-- The O verdict of 15 frames on photodiode `p`: verdict (2 pass, 3 fail, 1 inconclusive) and CAUSE (Table 18-6).
(log 173 DESIGN CHOICE) -/
def State.oVerdict (s : State) (p : Nat) (fs : List PdFrame) : Nat × Nat :=
  let a := (fs.map (·.f)).sum
  let r := chipSum 0 fs
  let q14 := 14 * chipSum 7 fs + 3 * r
  if fs.any (·.saturated) then (1, 1)
  else if a < s.fld (OPT_AMB p) 0 10 * 960 ∨ s.fld (OPT_AMB p) 16 10 * 960 < a then (1, 2)
  else if 14 * (s.fld (OPT_NOISE p) 0 16 : Int) < q14.natAbs then (1, 3)
  else if (s.fld (OPT_THR p) 0 16 : Int) ≤ r then (2, 0)
  else if r < (s.fld (OPT_THR p) 16 16 : Int) then (3, 0)
  else (1, 4)

/-- An O window ends: OPT_RES, OPT_LAST and OPT_CNT of its photodiode. Which way OPT_RES.Q is rounded where it is not an
integer is not specified: free. (log 174 DESIGN CHOICE) -/
def oWindowEnd (r : TelltaleRec) (fs : List PdFrame) (x : Rep) : Rep :=
  let p := r.pd
  let (v, cause) := x.1.oVerdict p fs
  let rr := chipSum 0 fs
  let (r16, s) := fit16 rr x.1
  let (up, s) := if (14 * chipSum 7 fs + 3 * rr) % 14 = 0 then (0, s) else s.free 2
  let (q16, s) := fit16 ((14 * chipSum 7 fs + 3 * rr) / 14 + (up : Nat)) s
  let y := windowEnd r 2 v (s, x.2)
  let inc := if v = 1 then (y.1.ttOf r.index).oInc else 0
  let s := (y.1.setFlds (OPT_RES p) [(0, 16, r16), (16, 16, q16)]).setFlds (OPT_LAST p)
    [(0, 10, (fs.map (·.f)).sum / 960), (12, 2, if v = 2 then 1 else if v = 3 then 2 else 3), (16, 4, inc), (20, 4, cause)]
  let s := s.bump (OPT_CNT p) 0 16 1
  (if v = 1 then s.bump (OPT_CNT p) 16 16 1 else s, y.2)

/-- E at a frame start. -/
def stepE (r : TelltaleRec) (x : Rep) : Rep :=
  match (x.1.ttOf r.index).eWin with
  | none => x
  | some k =>
    let (ok, x) := eFrame r x
    let bad := (x.1.ttOf r.index).eBad || !ok
    if x.1.fld TT_CFG 0 4 ≤ k + 1 then
      windowEnd r 0 (if bad then 3 else 2) (modTt r.index (fun t => { t with eWin := none, eBad := false }) x.1, x.2)
    else (modTt r.index (fun t => { t with eWin := some (k + 1), eBad := bad }) x.1, x.2)

/-- S at a frame start. -/
def stepS (r : TelltaleRec) (x : Rep) : Rep :=
  match (x.1.ttOf r.index).sWin with
  | none => x
  | some k =>
    let f := x.1.sFrame r.channel
    let t := x.1.ttOf r.index
    let fail := t.sFail || f == some false
    let unread := t.sUnread || f.isNone
    if x.1.fld TT_CFG 4 4 ≤ k + 1 then
      windowEnd r 1 (if fail then 3 else if unread then 1 else 2)
        (modTt r.index (fun t => { t with sWin := none, sFail := false, sUnread := false }) x.1, x.2)
    else (modTt r.index (fun t => { t with sWin := some (k + 1), sFail := fail, sUnread := unread }) x.1, x.2)

/-- The samples averaged for one frame of channel `n`: ⌊frame period × 96,000⌋ (R387). (log 173 DESIGN CHOICE) -/
def State.pdCount (s : State) (n : Nat) : Nat :=
  match s.chanRec n with
  | some r => if r.pixclk = 0 then 0 else hTotal r * vTotal r * 96 / r.pixclk
  | none => 0

/-- Sum of the codes of the first `k` samples. -/
def pdSum : Nat → List PdRun → Nat
  | _, [] => 0
  | k, r :: rs => min k r.count * r.code.toNat + pdSum (k - r.count) rs

/-- One of the first `k` samples is at the rail or at code 1,023. -/
def pdRail : Nat → List PdRun → Bool
  | _, [] => false
  | k, r :: rs => (min k r.count != 0 && (r.rail || r.code == 1023)) || pdRail (k - r.count) rs

/-- The frame of a photodiode on channel `n` (R387): the average in units of 1/64 code. Which way it is rounded where it
is not an integer is not specified: free. (log 173 DESIGN CHOICE, 174 DESIGN CHOICE) -/
def pdFrame (n : Nat) (l : List PdRun) (s : State) : PdFrame × State :=
  let k := s.pdCount n
  let v := 64 * pdSum k l
  let (up, s) := if k = 0 ∨ v % k = 0 then (0, s) else s.free 2
  ({ f := (if k = 0 then 0 else v / k) + up, saturated := pdRail k l }, s)

/-- O at a frame start (R387): the frames of the open window, and those of the window before it, whose samples run
OPT_CFG.LAG frames behind; its verdict falls when the samples of its fifteenth frame are in. (log 173 DESIGN CHOICE) -/
def stepO (pd : List (List PdRun)) (r : TelltaleRec) (x : Rep) : Rep :=
  let t := x.1.ttOf r.index
  if t.oWin.isNone ∧ t.oTail.isEmpty then x
  else
    let lag := x.1.fld OPT_CFG 4 2
    let (f, s) := pdFrame r.channel (pd.getD r.pd []) x.1
    let tail := if t.oTail.isEmpty then [] else t.oTail ++ [f]
    let win := t.oWin.map (· ++ [f])
    let ended := win.any fun l => 15 ≤ l.length
    let tail := if ended then win.getD [] else tail
    let s := modTt r.index (fun t => { t with oWin := if ended then none else win, oTail := tail }) s
    let s := if ended && r.pd < 8 then s.lower OPT_STAT (8 + r.pd) else s
    if 15 + lag ≤ tail.length then
      oWindowEnd r (tail.drop lag) (modTt r.index (fun t => { t with oTail := [] }) s, x.2)
    else (s, x.2)

/-- The variant in force from this frame start on (R380); a change abandons an open O window (R397). -/
def stepVariant (r : TelltaleRec) (s : State) : State :=
  let v := s.fld TT_VAR (2 * r.channel) 2
  let v := if v < r.variants then v else 0
  if s.fld (TT_S r.index) 20 2 = v then s
  else
    dropO r (s.setFld (TT_S r.index) 20 2 v)

/-- Tell-tale `r` at a frame start of its channel: windows of the frame that ended, the frame that begins. -/
def ttFrame (pd : List (List PdRun)) (r : TelltaleRec) (x : Rep) : Rep :=
  let n := r.channel
  let x := glyphFetch r x
  let x := if 2 ≤ x.1.ttState r.index then stepO pd r (stepS r (stepE r x)) else x
  let s := stepVariant r x.1
  let drawn := s.ttState r.index ≠ ttOff && s.chState n == chRun
  let s := modTt r.index (fun t => { t with drawn := drawn }) s
  if !drawn then (s, x.2)
  else if s.ttState r.index = ttWait then (if (s.chanOf n).live then enterProving r (s, x.2) else (s, x.2))
  else openWindows r (s, x.2)

/-- Every tell-tale of channel `n` at its frame start. -/
def ttFrames (n : Nat) (pd : List (List PdRun)) (s : State) : Rep :=
  (s.tts.filter fun r => r.channel = n).foldl (fun x r => ttFrame pd r x) ((s, []) : Rep)

/-- An O window of the tell-tale has no verdict yet. -/
def State.oOpen (s : State) (r : TelltaleRec) : Bool :=
  (s.ttOf r.index).oWin.isSome || !(s.ttOf r.index).oTail.isEmpty

/-- Every open O window that `f` names is abandoned (R397). -/
def abandonO (f : TelltaleRec → Bool) (s : State) : State :=
  (s.tts.filter f).foldl (fun s r => if s.oOpen r then dropO r s else s) s

/-- A domain reset of OPT makes every open O window inconclusive (R397, R21). -/
def inconclusiveO (s : State) : Rep :=
  s.tts.foldl (fun x r => if x.1.oOpen r then windowEnd r 2 1 (dropO r x.1, x.2) else x) ((s, []) : Rep)

/-! ### LED sinks -/

/-- The newest sample of an LED sink, which measures its current once per ms while it drives (R389).
(log 178 DEDUCED) -/
def sinkMeasured (r : TelltaleRec) (samples : List Code) (s : State) : State :=
  match samples.getLast? with
  | some c => if r.led < 32 ∧ s.flag (LED_CUR r.led) 31 then s.setFld (LED_CUR r.led) 16 10 c.toNat else s
  | none => s

/-- L_WINDOW_END (R389): the samples of L_MS milliseconds; a sink that drives with no L window open is measured all the
same. -/
def execLWindowEnd (j : Fin 64) (samples : List Code) (s : State) : Host.Outcome State Fault Refusal :=
  match s.ttRec j with
  | none => finish s
  | some r =>
    let s := sinkMeasured r samples s
    if !(s.ttOf j).lWin ∨ s.ttState j < 2 then finish s
    else
      let set := s.fld (LED_CUR r.led) 0 10
      let tol := s.fld LED_CFG 0 10
      let ok := samples.all (fun c => c.toNat ≤ set + tol && set ≤ c.toNat + tol) && !(s.ttOf j).lBad
      let x := windowEnd r 3 (if ok then 2 else 3) (modTt j (fun t => { t with lWin := false, lBad := false }) s, [])
      let x := openWindow r 3 x
      finish (Rep.run (notice x.1, x.2))

/-- LED_FAULT_FLAG (R400): the flag, the open L window fails, the sink goes off for its retry. (log 178 DEDUCED) -/
def execLedFaultFlag (n : Fin 32) (short : Bool) (s : State) : Host.Outcome State Fault Refusal :=
  match s.tts.find? fun r => r.led = n.val with
  | none => finish s
  | some r =>
    if !s.flag (LED_CUR n) 31 then finish s
    else
      let s := if short then (s.raise LED_SHORT n).raise (LED_CUR n) 29 else (s.raise LED_OPEN n).raise (LED_CUR n) 28
      let s := s.lower (LED_CUR n) 31
      let s := { s with proof := { s.proof with ledRetry := s.proof.ledRetry ||| (1#32 <<< n.val) } }
      if (s.ttOf r.index).lWin then
        let x := windowEnd r 3 3 (modTt r.index (fun t => { t with lWin := false, lBad := false }) s, [])
        finish (Rep.run (notice x.1, x.2))
      else finish s

/-- LED_RETRY (R400): the sink of an ON tell-tale is switched on again. -/
def execLedRetry (n : Fin 32) (s : State) : Host.Outcome State Fault Refusal :=
  if !s.proof.ledRetry.getLsbD n then finish s
  else
    let s := { s with proof := { s.proof with ledRetry := s.proof.ledRetry &&& ~~~(1#32 <<< n.val) } }
    let s := s.setFlds (LED_CUR n) [(28, 2, 0)]
    match s.tts.find? fun r => r.led = n.val with
    | none => finish s
    | some r =>
      if s.ttState r.index = ttOff then finish s
      else
        let s := sinkOn r s
        let x : Rep := if s.ttState r.index = ttWait then
            (if r.channel = 0xFF then enterProving r (s, []) else (s, []))
          else openWindow r 3 (s, [])
        finish (Rep.run (notice x.1, x.2))

/-! ### Deadline, T1, presence timers -/

/-- PROOF_DEADLINE (R391): once per ON episode of a mandatory tell-tale that is not electrically proven.
(log 177 DEDUCED) -/
def execProofDeadline (j : Fin 64) (s : State) : Host.Outcome State Fault Refusal :=
  match s.ttRec j with
  | none => finish s
  | some r =>
    if !bit r.flags 0 ∨ s.fld TT_DEADLINE 0 16 = 0 ∨ s.ttState j = ttOff ∨ (s.ttOf j).dlDone ∨
        (2 ≤ s.ttState j ∧ s.elecProven r) then finish s
    else finish (report 72 ((modTt j (fun t => { t with dlDone := true }) s).raise TT_ISTAT 1))

/-- A write of TT_T1_ALIVE: only T1's kicks count (R381). (log 180 DEDUCED) -/
def wrT1Alive (who : Nat) (w : Word) (s : State) : State :=
  if bit w.toNat 0 ∧ who = 1 then evalAll { s with proof := { s.proof with t1Alive := true } } else s

/-- T1_ALIVE_KICK (R381). -/
def execT1AliveKick (t : Requester) (w : Word) (s : State) : Host.Outcome State Fault Refusal :=
  finish (regCmd t TT_T1_ALIVE w wrT1Alive s)

/-- T1_ALIVE_TIMEOUT (R381). (log 180 DEDUCED) -/
def execT1AliveTimeout (s : State) : Host.Outcome State Fault Refusal :=
  finish (if s.fld TT_T1_TMO 0 16 ≠ 0 ∧ s.proof.t1Alive then evalAll { s with proof := { s.proof with t1Alive := false } }
    else s)

/-- A write of TT_T1_REQ. -/
def wrT1Req (k : Nat) (_who : Nat) (w : Word) (s : State) : State := evalAll (s.write (TT_T1_REQ k) w)

/-- T1_REQUEST (R381). -/
def execT1Request (t : Requester) (k : Fin 4) (w : Word) (s : State) : Host.Outcome State Fault Refusal :=
  finish (regCmd t (TT_T1_REQ k) w (wrT1Req k) s)

/-- PRESENCE_PERIOD (R392): held back by the 10 ms spacing. (log 179 DEDUCED) -/
def execPresencePeriod (s : State) : Host.Outcome State Fault Refusal :=
  if s.cfg.isNone ∨ s.fld TT_CAN_PERIOD 0 16 = 0 then finish s
  else if s.proof.holdoff then finish { s with proof := { s.proof with change := true } }
  else finish (queuePresence s)

/-- PRESENCE_HOLDOFF_EXPIRY (R392): a change held back is queued. -/
def execPresenceHoldoffExpiry (s : State) : Host.Outcome State Fault Refusal :=
  let s := { s with proof := { s.proof with holdoff := false } }
  finish (if s.proof.change then queuePresence s else s)

/-! ### Registers of TT, OPT and LED that do more than store -/

/-- The settings of the methods are read again (R394). -/
def methodsNow (s : State) : State :=
  let x := methodsCheck s
  Rep.run (notice x.1, x.2)

/-- A write of an RB register of TT: requests are evaluated again, and the methods' settings. -/
def wrTtRb (a who : Nat) (w : Word) (s : State) : State := rbWrite a who w (fun s => methodsNow (evalAll s)) s

/-- A change of OPT_CFG abandons every open O window (R397). -/
def wrOptCfg (who : Nat) (w : Word) (s : State) : State :=
  let was := s.reg OPT_CFG
  rbWrite OPT_CFG who w (fun s => if s.reg OPT_CFG = was then s else methodsNow (abandonO (fun _ => true) s)) s

/-- The sink of `n` has a current again: it comes on while its tell-tale is ON, and L runs (R389, R394).
(log 178 DEDUCED) -/
def sinkBack (n : Nat) (s : State) : State :=
  match s.tts.find? fun r => r.led = n with
  | none => s
  | some r =>
    if s.ttState r.index = ttOff then s
    else
      let s := sinkOn r s
      let x : Rep := if s.ttState r.index = ttWait then
          (if r.channel = 0xFF ∧ s.flag (LED_CUR n) 31 then enterProving r (s, []) else (s, []))
        else openWindow r 3 (s, [])
      Rep.run (notice x.1, x.2)

/-- A write of LED_CURn: SET 0 switches the sink off and makes L unavailable (R394), and SET after a 0 brings it back.
-/
def wrLedCur (n : Nat) (who : Nat) (w : Word) (s : State) : State :=
  let was := s.fld (LED_CUR n) 0 10
  rbWrite (LED_CUR n) who w (fun s =>
    if s.fld (LED_CUR n) 0 10 = 0 then methodsNow (s.setFlds (LED_CUR n) [(28, 2, 0), (31, 1, 0)]) else if was = 0 then sinkBack n s else s) s

end Sys2Proof.Machine
end

