-- ==== Sys2Proof/Machine/Sequencer.lean ====
section
/-! DEFINITION. Rail sequencing and supervision (10): the power-up and shutdown orders (Table 10-1), the triggers, the
supervisor and the fixed monitors. -/

namespace Sys2Proof.Machine

def seqOff : Nat := 0
def seqRising : Nat := 1
def seqUp : Nat := 2
def seqBlanking : Nat := 3
def seqFalling : Nat := 4

def State.seqState (s : State) : Nat := s.fld SEQ_STAT 0 3
def setSeqState (st : Nat) (s : State) : State := s.setFld SEQ_STAT 0 3 st

/-- The RAIL records of the image. -/
def State.rails (s : State) : List RailRec := (s.cfg.map (·.rails)).getD []

/-- The RAIL record of a slot. -/
def State.railRec (s : State) (n : Nat) : Option RailRec := s.rails.find? fun r => r.slot = n

/-- The declared slots by ascending UP_ORDER, and by ascending DOWN_ORDER. -/
def State.upSlots (s : State) : List Nat := (sortBy (·.upOrder) s.rails).map (·.slot)
def State.downSlots (s : State) : List Nat := (sortBy (·.downOrder) s.rails).map (·.slot)

/-- SEQ_ENn is high. -/
def State.enabled (s : State) (n : Nat) : Bool := s.flag SEQ_STAT (16 + n)

/-- The SEQ_DONE record (Table 10-4). -/
def seqRecord (dir total : Nat) (s : State) : State :=
  logWrite 0x06 (leBytes 1 dir ++ leBytes 1 s.seq.cause ++ leBytes 2 s.seq.done.toNat ++ leBytes 4 (min total 0xFFFFFFFF) ++
    leBytes 1 (min s.seq.timeouts 255)) s

/-- Supervision of slot `n` starts or ends. -/
def supervise (n : Nat) (b : Bool) (s : State) : State :=
  let m := 1#16 <<< n
  { s with seq := { s.seq with supervised := if b then s.seq.supervised ||| m else s.seq.supervised &&& ~~~m } }

/-! ### The power-up order (R196) -/

/-- The order position of the running step. -/
def orderPos (l : List Nat) (n : Nat) : Nat := (l.findIdx? (· = n)).getD 0

/-- The power-up order completes: UP, outputs start (R360), channels in black resume, sinks of ON tell-tales come on;
the first completion starts the bulb-check of LED-only tell-tales (R382). (log 107 DEDUCED) -/
def upDone (total : Nat) (s : State) : State :=
  let first := !s.seq.everUp
  let s := seqRecord 0 total { s with seq := { s.seq with step := .idle, everUp := true } }
  let s := resumeChannels (setSeqState seqUp s)
  let s := forEach s.activeChannels outputStart s
  let s := if first then bulbStart none s else s
  let x := sinksUp s
  Rep.run (notice x.1, x.2)

/-- Raise slot `n`. -/
def raiseSlot (n : Nat) (s : State) : State :=
  let s := { s with seq := { s.seq with slot := n, step := .rise, done := s.seq.done ||| (1#16 <<< n) } }
  ((s.raise SEQ_STAT (16 + n)).lower (SEQ_SENSE n) 17).setFld SEQ_STAT 4 4 (orderPos s.upSlots n)

/-- The next power-up step, or the end of the order. -/
def nextRise (total : Nat) (s : State) : State :=
  match s.seq.todo with
  | [] => upDone total s
  | n :: rest => raiseSlot n { s with seq := { s.seq with todo := rest } }

/-- The power-up order starts; slots whose enable is high and whose rail is in range are adopted as raised (R220).
(log 107 DEDUCED, 109 DEDUCED) -/
def startUp (cause : Nat) (s : State) : State :=
  let adopted := s.upSlots.filter fun n => s.enabled n && s.flag (SEQ_SENSE n) 17
  let s := { s with seq := { s.seq with
    cause := cause, heldCause := 0, offWait := false, adopt := none, timeouts := 0, done := BitVec.ofNat 16 (ofPositions adopted),
    todo := s.upSlots.filter fun n => !adopted.contains n } }
  let s := forEach adopted (fun n => supervise n true) s
  nextRise 0 ((setSeqState seqRising s).lower SEQ_STAT 8)

/-- An up trigger (R215); the sequencer is inactive without an image (R59). -/
def upTrigger (cause : Nat) (s : State) : State :=
  if s.cfg.isNone then s
  else if s.seqState = seqOff then (if s.seq.offWait then s else startUp cause s)
  else if (s.seqState = seqBlanking ∨ s.seqState = seqFalling) ∧ s.seq.heldCause = 0 then
    { s with seq := { s.seq with heldCause := cause } }.raise SEQ_STAT 8
  else s

/-! ### The shutdown order (R198, R199, R373) -/

/-- DIS output of a slot, if declared. -/
def RailRec.disOf (r : RailRec) : Option Nat := if r.dis < 8 then some r.dis else none

/-- Drive the DIS output of slot `n`. -/
def driveDis (n : Nat) (b : Bool) (s : State) : State :=
  match (s.railRec n).bind RailRec.disOf with
  | none => s
  | some d =>
    let m := 1#8 <<< d
    { s with seq := { s.seq with dis := if b then s.seq.dis ||| m else s.seq.dis &&& ~~~m } }

/-- Begin the shutdown step of slot `n`: enable low, DIS high, no more supervision. (log 113 DESIGN CHOICE) -/
def lowerSlot (n : Nat) (s : State) : State :=
  let s := supervise n false { s with seq := { s.seq with slot := n, step := .fall, done := s.seq.done ||| (1#16 <<< n) } }
  driveDis n true ((((s.lower SEQ_STAT (16 + n)).lower (SEQ_SENSE n) 17).lower SUP_STAT n).setFld SEQ_STAT 4 4
    (orderPos s.downSlots n))

/-- OFF_MIN runs before a held or supply-return power-up order; 0 is no wait (R6, R214, R215). -/
def offHeld (s : State) : State :=
  if s.seq.heldCause = 0 then s
  else if s.fld SEQ_CFG 0 10 = 0 then startUp s.seq.heldCause s
  else { s with seq := { s.seq with offWait := true } }

/-- The store has ended and the shutdown order is complete: the power-loss flow ends, and where the supply has not
returned the fixed monitors declare no departure (R17, R202). (log 73 DEDUCED, 112 DEDUCED) -/
def lossEnd (s : State) : State :=
  if s.ctl.lossFlow && !s.ctl.supplyBack && s.stoState ≠ 1 && s.stoState ≠ 2 && s.seqState = seqOff then
    { s with ctl := { s.ctl with monitorsArmed := false, lossFlow := false, lossOver := true } }
  else s

/-- The shutdown order completes. -/
def downDone (total : Nat) (s : State) : State :=
  let s := seqRecord 1 total { s with seq := { s.seq with step := .idle } }
  lossEnd (offHeld (setSeqState seqOff s))

/-- The next shutdown step, or the end of the order. -/
def nextFall (total : Nat) (s : State) : State :=
  match s.seq.todo with
  | [] => downDone total s
  | n :: rest => lowerSlot n { s with seq := { s.seq with todo := rest } }

/-- The shutdown order starts: over every declared slot, or over those whose enable is high after a rise fault (R210);
outputs go to IDLE (R373), every LED sink goes off (R398). -/
def startDown (s : State) : State :=
  let slots := if s.seq.cause = 6 then s.downSlots.filter s.enabled else s.downSlots
  let s := { s with seq := { s.seq with todo := slots, done := 0, timeouts := 0 } }
  nextFall 0 (sinksDown (forEach (List.range 4) outputIdle (setSeqState seqFalling s)))

/-- BLANKING ends once every active channel has sent its black frame (R199). -/
def checkBlank (s : State) : State := if s.seqState = seqBlanking ∧ s.allBlack then startDown s else s

/-- A blank trigger meets every active channel; the output of a channel whose start is abandoned goes to IDLE (R350,
Table 17-2). (log 160 DEDUCED) -/
def blankNow (s : State) : State :=
  forEach (List.range 4) (fun n s => if s.chState n = chOff then outputIdle n s else s) (blankAll s)

/-- No up trigger is held any more (R215). -/
def dropHeld (s : State) : State :=
  { s with seq := { s.seq with heldCause := 0, offWait := false } }.lower SEQ_STAT 8

/-- A down trigger (Table 10-1, R199, R215): it cancels a held up trigger. (log 107 DEDUCED) -/
def downTrigger (cause : Nat) (s : State) : State :=
  if s.cfg.isNone then s
  else
    let s := dropHeld s
    if s.seqState = seqRising ∨ s.seqState = seqUp then
      let s := { s with seq := { s.seq with cause := cause, wasUp := s.seqState = seqUp, step := .idle } }
      checkBlank (blankNow (setSeqState seqBlanking s))
    else checkBlank (blankNow s)

/-- The supply returns (R214): before the shutdown order has started, UP again, or the step that was running afresh; a
shutdown order that has started runs to its end, and the power-up order follows after OFF_MIN.
(log 115 DESIGN CHOICE) -/
def seqSupplyReturn (s : State) : State :=
  if s.seqState = seqBlanking then
    let s := dropHeld s
    if s.seq.wasUp then
      let s := resumeChannels (setSeqState seqUp { s with seq := { s.seq with cause := 0 } })
      forEach s.activeChannels outputStart s
    else raiseSlot s.seq.slot (setSeqState seqRising { s with seq := { s.seq with cause := 5 } })
  else if s.seqState = seqFalling then { s with seq := { s.seq with heldCause := 5 } }.raise SEQ_STAT 8
  else if s.seqState = seqOff ∧ s.seq.atTrip then
    offHeld ({ s with seq := { s.seq with heldCause := 5 } }.raise SEQ_STAT 8)
  else s

/-! ### Sequencer events -/

/-- Orders and supervision run: not in P3 and P4, where enables and DIS outputs hold their levels and supervision is
suspended (R221), but for a power-loss flow. -/
def State.seqRuns (s : State) : Bool := s.ladder ≤ 2 || s.ctl.lossFlow

/-- Slot `r` is sensed now: ADC senses stand still while the measurement block is in its domain reset (R217). -/
def State.senseRuns (s : State) (r : RailRec) : Bool := s.seqRuns && !(r.senseKind = 0 && s.adc.stopped)

/-- The qualifying condition (R197, R218): the code inside [V_LO, V_HI], or the filtered level of SEQ_PGn high.
(log 108 DESIGN CHOICE) -/
def RailRec.qualifies (r : RailRec) (code : Nat) (pg : Bool) : Bool :=
  if r.senseKind = 0 then r.vLo ≤ code && code ≤ r.vHi else pg

/-- A condition has lasted for SUP_CTRL.DEBOUNCE: `held` in 10 µs units, counted from the newest restart of the debounce
(R197, R217, R221). (log 108 DESIGN CHOICE) -/
def State.debounced (s : State) (held : Nat) : Bool := s.fld SUP_CTRL 0 10 ≤ held

/-- A conversion of ADC channel `n`: its result register, and the sense code of every rail that it samples (R201, R423).
(log 111 DEDUCED) -/
def adcResult (n code : Nat) (s : State) : State :=
  let s := s.setFlds (ADC_RES n) [(0, 10, code), (16, 8, s.fld (ADC_RES n) 16 8 + 1), (31, 1, 1)]
  (s.rails.filter fun r => r.senseKind = 0 && r.sense = n).foldl (fun s r => s.setFld (SEQ_SENSE r.slot) 0 10 code) s

/-- The level that a power-good sense gives: the pin that SENSE names, which belongs to VDDIO2 and reads 0 while that is
off (Table 3-8, R491). (log 28 DESIGN CHOICE) -/
def State.pgIn (s : State) (r : RailRec) (pg : Bool) : Bool := s.pinIn (.seqPg r.sense) pg

/-- The newest sample of slot `n`: a conversion of its channel, or the level of its power-good sense (R201).
(log 111 DEDUCED) -/
def senseSlot (n code : Nat) (pg : Bool) (s : State) : State :=
  match s.railRec n with
  | none => s
  | some r =>
    if r.senseKind = 0 then adcResult r.sense code s
    else
      let m := 1#16 <<< n
      let pg := s.pgIn r pg
      { s with seq := { s.seq with pg := if pg then s.seq.pg ||| m else s.seq.pg &&& ~~~m } }.putFlag (SEQ_SENSE n) 16 pg

/-- Slot `n` is in range: INRANGE, and the supervisor watches it (R197, R200). -/
def slotInRange (n : Nat) (s : State) : State := supervise n true (s.raise (SEQ_SENSE n) 17)

/-- RAIL_IN_RANGE (R197, R201, R212, R218): a sample of the slot, whatever its enable; where it qualifies, has done so
for DEBOUNCE, and falls before the end of the rise window, a rise step that runs goes on to its DELAY. (log 108 DESIGN
CHOICE) -/
def execRailInRange (slot : Fin 16) (code : Code) (pg : Bool) (held time : Nat) (s : State) :
    Host.Outcome State Fault Refusal :=
  match s.railRec slot with
  | none => finish s
  | some r =>
    if !s.senseRuns r then finish s
    else
      let s := senseSlot slot code.toNat pg s
      if !s.enabled slot ∨ !r.qualifies code.toNat (s.pgIn r pg) ∨ !s.debounced held then finish s
      else
        let s := slotInRange slot s
        if s.seqState = seqRising ∧ s.seq.step = .rise ∧ s.seq.slot = slot ∧ time < 10 * r.riseWindow then
          finish ({ s with seq := { s.seq with step := .delay } }.setFld (SEQ_TIME slot) 0 16 (min time 0xFFFF))
        else finish s

/-- The adoption of R220 is judged, and the power-up order of the remaining slots starts. (log 109 DEDUCED) -/
def adoptNow (s : State) : State :=
  if s.ctl.lossFlow then s else upTrigger 1 { s with seq := { s.seq with adopt := none } }

/-- STEP_DELAY_EXPIRY (R196): a step's DELAY, or the DEBOUNCE period of the adoption after a warm reset (R220). -/
def execStepDelayExpiry (time : Nat) (s : State) : Host.Outcome State Fault Refusal :=
  if !s.seqRuns then finish s
  else if s.seqState = seqRising ∧ s.seq.step = .delay then finish (nextRise time s)
  else if s.seqState = seqOff ∧ s.seq.adopt.isSome then finish (adoptNow s)
  else finish s

/-- The code that a timeout finds on an ADC sense is its newest conversion (R423). (log 111 DEDUCED) -/
def lastCode (n code : Nat) (s : State) : State :=
  match s.railRec n with
  | some r => if r.senseKind = 0 ∧ s.senseRuns r then adcResult r.sense code s else s
  | none => s

/-- RISE_WINDOW_EXPIRY (R210, R212): `time` has reached RISE_WINDOW. (log 108 DESIGN CHOICE, 114 DESIGN CHOICE) -/
def execRiseWindowExpiry (code : Code) (time : Nat) (s : State) : Host.Outcome State Fault Refusal :=
  let n := s.seq.slot
  if s.seqRuns ∧ s.seqState = seqRising ∧ s.seq.step = .rise ∧ (s.railRec n).all (·.riseWindow ≤ time) then
    let s := logWrite 0x03 (leBytes 1 n ++ [0] ++ leBytes 2 code.toNat ++ leBytes 2 (min time 0xFFFF)) (lastCode n code.toNat s)
    finish (downTrigger 6 ((s.raise SEQ_STAT 3).raise SEQ_TOUT n))
  else finish s

/-- The end of a shutdown step (R198). -/
def fallEnd (time total : Nat) (s : State) : State :=
  let n := s.seq.slot
  nextFall total (driveDis n false (s.setFld (SEQ_TIME n) 16 16 (min time 0xFFFF)))

/-- The discharge level (R198): a code at or below V_LO / 8, or a low power-good level. (log 108 DESIGN CHOICE) -/
def RailRec.discharged (r : RailRec) (code : Nat) (pg : Bool) : Bool :=
  if r.senseKind = 0 then code ≤ r.vLo / 8 else !pg

/-- RAIL_DISCHARGED (R198, R212): the sample is at the discharge level and falls before the end of DIS_TIMEOUT.
(log 108 DESIGN CHOICE) -/
def execRailDischarged (code : Code) (pg : Bool) (time total : Nat) (s : State) : Host.Outcome State Fault Refusal :=
  let n := s.seq.slot
  match s.railRec n with
  | none => finish s
  | some r =>
    if !(s.seqState = seqFalling ∧ s.seq.step = .fall) ∨ !s.senseRuns r then finish s
    else
      let s := senseSlot n code.toNat pg s
      finish (if r.discharged code.toNat (s.pgIn r pg) ∧ time < 10 * r.disTimeout then fallEnd time total s else s)

/-- DIS_TIMEOUT (R211, R212): `time` has reached DIS_TIMEOUT. (log 114 DESIGN CHOICE) -/
def execDisTimeout (code : Code) (time total : Nat) (s : State) : Host.Outcome State Fault Refusal :=
  let n := s.seq.slot
  if s.seqRuns ∧ s.seqState = seqFalling ∧ s.seq.step = .fall ∧ (s.railRec n).all (10 * ·.disTimeout ≤ time) then
    let d := ((s.railRec n).bind RailRec.disOf).getD 0xFF
    let s := logWrite 0x05 (leBytes 1 n ++ leBytes 1 d ++ leBytes 2 code.toNat) (lastCode n code.toNat s)
    let s := { s with seq := { s.seq with timeouts := s.seq.timeouts + 1 } }
    finish (fallEnd time total (s.raise SEQ_TOUT (16 + n)))
  else finish s

/-- OFF_MIN_EXPIRY (R214). -/
def execOffMinExpiry (s : State) : Host.Outcome State Fault Refusal :=
  finish (if s.seqRuns ∧ s.seqState = seqOff ∧ s.seq.offWait then startUp s.seq.heldCause s else s)

/-- One slot of a window fault (R200): OUT, SUP_FAULT and, where that was clear, a RAIL_WINDOW record. -/
def windowFault (n code : Nat) (pg : Bool) (s : State) : State :=
  let s := ((senseSlot n code pg s).lower (SEQ_SENSE n) 17).raise SUP_STAT n
  let s := if s.flag SUP_FAULT n then s
    else match s.railRec n with
      | none => s
      | some r => logWrite 0x04 (leBytes 1 n ++ [0] ++ leBytes 2 (if r.senseKind = 0 then code else 0) ++ leBytes 2 r.vLo ++
          leBytes 2 r.vHi) s
  s.raise SUP_FAULT n

/-- The supervisor watches slot `n` now, and has not declared it out (R200, R221). -/
def State.watched (s : State) (n : Nat) : Bool := s.seq.supervised.getLsbD n && !s.flag SUP_STAT n && s.ladder ≤ 2

/-- The sample of slot `n` declares a window fault: the condition has failed throughout DEBOUNCE. -/
def State.outOfWindow (s : State) (n code : Nat) (pg : Bool) (held : Nat) : Bool :=
  s.watched n && ((s.railRec n).any fun r => s.senseRuns r && !r.qualifies code (s.pgIn r pg)) && s.debounced held

/-- RAIL_WINDOW_FAULT (R200, R216): in ascending slot order. (log 108 DESIGN CHOICE) -/
def execRailWindowFault (slots : List RailSample) (s : State) : Host.Outcome State Fault Refusal :=
  let hit := (List.range 16).filterMap fun n =>
    (slots.find? fun e => e.slot.val = n).filter fun e => s.outOfWindow n e.code.toNat e.pg e.held
  finish (reportMany (hit.map fun e => 32 + e.slot.val)
    (hit.foldl (fun s e => windowFault e.slot e.code.toNat e.pg s) s))

/-- RAIL_REQUALIFY (R200): the condition holds again for DEBOUNCE. (log 108 DESIGN CHOICE) -/
def execRailRequalify (e : RailSample) (s : State) : Host.Outcome State Fault Refusal :=
  let n := e.slot.val
  match s.railRec n with
  | none => finish s
  | some r =>
    if !s.flag SUP_STAT n ∨ !s.senseRuns r then finish s
    else
      let s := senseSlot n e.code.toNat e.pg s
      finish (if r.qualifies e.code.toNat (s.pgIn r e.pg) ∧ s.debounced e.held then (s.lower SUP_STAT n).raise (SEQ_SENSE n) 17 else s)

/-- A CORE_RAIL record (Table 10-4). -/
def coreRailRecord (event : Nat) (out : Nat) (s : State) : State :=
  logWrite 0x07 (leBytes 1 ((bitsSet 7 out).head?.getD 0) ++ leBytes 1 event ++ leBytes 2 out) s

/-- CORE_RAIL_FAULT (R202). (log 112 DEDUCED) -/
def execCoreRailFault (out : BitVec 7) (s : State) : Host.Outcome State Fault Refusal :=
  let was := s.fld SUP_STAT 16 7
  if s.ctl.monitorsArmed ∧ s.ladder ≤ 4 ∧ (bitsSet 7 out.toNat).any (fun m => !bit was m) then
    let now := was ||| out.toNat
    let s := (s.setFld SUP_STAT 16 7 now).setFld SUP_FAULT 16 7 (s.fld SUP_FAULT 16 7 ||| out.toNat)
    finish (report 48 (coreRailRecord 1 now s))
  else finish s

/-- CORE_RAIL_REQUALIFY (R202). -/
def execCoreRailRequalify (m : Fin 7) (s : State) : Host.Outcome State Fault Refusal :=
  finish (s.lower SUP_STAT (16 + m))

/-- A write of SEQ_CTRL (R215): DOWN goes before UP. -/
def wrSeqCtrl (_who : Nat) (w : Word) (s : State) : State :=
  if bit w.toNat 1 then downTrigger 2 s else if bit w.toNat 0 then upTrigger 2 s else s

/-- SEQ_UP (R196). -/
def execSeqUp (t : Requester) (w : Word) (s : State) : Host.Outcome State Fault Refusal :=
  finish (regCmd t SEQ_CTRL w wrSeqCtrl s)

/-- SEQ_DOWN (R199). -/
def execSeqDown (t : Requester) (w : Word) (s : State) : Host.Outcome State Fault Refusal :=
  finish (regCmd t SEQ_CTRL w wrSeqCtrl s)

end Sys2Proof.Machine
end

