-- ==== Sys2Proof/WellFormed.lean ====
section
/-! DEFINITION. Which commands the outside world can send: the lengths and ranges that an operand's type does not
state. The meanings are total and do not ask for them; statements may. -/

namespace Sys2Proof

/-- Data bytes of a CAN frame by data length code (19, Data length). -/
def canDataLen (fdf : Bool) (dlc : Nat) : Nat :=
  if dlc ≤ 8 then dlc else if fdf then [12, 16, 20, 24, 32, 48, 64].getD (dlc - 9) 64 else 8

/-- A flit as the link layer accepts it: at most 144 payload bytes (R290). -/
def Flit.wf (f : Flit) : Bool := f.payload.length ≤ 144

/-- A request packet: at most 144 payload bytes (R312). -/
def ReqPacket.wf (q : ReqPacket) : Bool := q.payload.length ≤ 144

/-- A CAN frame whose identifier and data fit its flags: a standard identifier has 11 bits; a remote frame, which FD
frames do not have, carries no data; bit-rate switch exists in FD frames only. -/
def CanFrame.wf (f : CanFrame) : Bool :=
  (f.ide || f.id.toNat < 2 ^ 11) && (!f.remote || (!f.fdf && f.data.isEmpty)) && (f.fdf || !f.brs) &&
    (f.remote || f.data.length == canDataLen f.fdf f.dlc.toNat)

/-- A run of photodiode samples is not empty. -/
def PdRun.wf (p : PdRun) : Bool := p.count != 0

/-- A marker period has 64 codewords, of which those decoded can have corrections (R274, R275). -/
def LockPeriod.wf (p : LockPeriod) : Bool := p.corrected ≤ p.decoded && p.decoded ≤ 64

/-- OP of a sideband request (Table 12-1). -/
def sbpOp (frame : List Byte) : Nat := (frame.getD 0 0).toNat / 16

/-- A sideband request is complete: its length follows from OP, CRC and COUNT alone (R252). (log 125 DESIGN CHOICE) -/
def sbpWhole (frame : List Byte) : Bool :=
  frame.length == 5 + (if sbpOp frame = 2 then 4 * (frame.getD 4 0).toNat else 0) + (frame.getD 0 0).toNat / 8 % 2

/-- The command carries operands that its interface can deliver. (log 125 DESIGN CHOICE) -/
def Instr.wf : Instr → Bool
  | .clockCheckWindow edges => edges.length == 25
  | .apertureWrite _ _ data _ => data.length ≤ 128
  | .readRequest _ q => q.wf
  | .writeRequest _ q => q.wf
  | .atomicRequest _ q => q.wf
  | .classARestoreDone bad => bad.all (· < 0x400000)
  | .backgroundRestore _ bad => bad.all (· < 0x400000)
  | .railWindowFault slots => !slots.isEmpty
  | .sbpRead frame _ => sbpWhole frame && sbpOp frame != 2
  | .sbpWrite frame => sbpWhole frame && sbpOp frame == 2
  | .alignCandidate _ hits _ => hits.length ≤ 4
  | .lockAcquired _ _ periods => periods.all LockPeriod.wf
  | .trainingRecord _ bytes _ => bytes.length == 160
  | .flitReceived _ f _ => f.wf && !f.payload.isEmpty
  | .nullFlitReceived _ f _ _ => f.payload.isEmpty
  | .frameStart _ pd => pd.length == 8 && pd.all fun l => l.all PdRun.wf
  | .auxTransactionDone _ (.ack data) => data.length ≤ 16
  | .canFrameReceived _ f _ _ m => f.wf && m.all fun e => e.2.length ≤ 144
  | .flkHello _ b => b.length ≤ 144
  | .flkState _ b m => b.length ≤ 144 && m.all fun e => e.2.length ≤ 144
  | .flkTt _ b => b.length ≤ 144
  | .flkTime _ b => b.length ≤ 144
  | .flkRoleReq _ b => b.length ≤ 144
  | .flkRoleAck _ b => b.length ≤ 144
  | .alsWindowEnd _ l => !l.isEmpty && l.all PdRun.wf
  | .arbBwWindow k => k.length == 7
  | _ => true

end Sys2Proof
end

