-- ==== Sys2Proof/Machine/Can.lean ====
section
/-! DEFINITION. CAN FD controllers (19): error states, transmission and its arbitration, filters, the mapping engine, the
sources of tell-tales, release of the bus and restart. -/

namespace Sys2Proof.Machine

def canOff : Nat := 0
def canActive : Nat := 1
def canPassive : Nat := 2
def canBusOff : Nat := 3

def State.canState (s : State) (c : Nat) : Nat := s.fld (CAN_STAT c) 0 2

/-- The controller takes part in bus traffic. (log 184 DEDUCED) -/
def State.canOnline (s : State) (c : Nat) : Bool :=
  (s.canState c = canActive || s.canState c = canPassive) && !(s.canOf c).suspended && s.flag (CAN_STAT c) 3

/-- CANn_RX shows the bus: while VDDIO1 is unpowered it reads 0 (R491), and neither a frame nor an idle bus is seen.
(log 28 DESIGN CHOICE) -/
def State.canHears (s : State) (c : Nat) : Bool := s.pinIn (.canRx c) true

/-- FD, BRS and wake flags of the CANCTL record. -/
def State.canFlag (s : State) (c i : Nat) : Bool := (s.canRec c).any fun r => bit r.flags i

/-! ### Error states (R417) -/

def State.tec (s : State) (c : Nat) : Nat := s.fld (CAN_ERRC c) 0 9
def State.recCount (s : State) (c : Nat) : Nat := s.fld (CAN_ERRC c) 16 8

/-- The state that the error counters give; a change sets CANx_ISTAT.STATE. (log 183 PRESUMED) -/
def canRestate (c : Nat) (s : State) : State :=
  let st := s.canState c
  let new := if 255 < s.tec c then canBusOff else if 128 ≤ s.tec c ∨ 128 ≤ s.recCount c then canPassive else canActive
  if st = canOff ∨ st = canBusOff ∨ st = new then s
  else
    let s := (s.setFld (CAN_STAT c) 0 2 new).raise (CAN_ISTAT c) 2
    if new = canBusOff then (s.raise (CAN_ISTAT c) 3).bump (CAN_ECNT c) 16 16 1 else s

/-- LEC code of an error. -/
def lecCode : CanError → Nat
  | .stuff => 1
  | .form => 2
  | .ack => 3
  | .bit1 => 4
  | .bit0 => 5
  | .crc => 6

/-- An error is detected (R418). -/
def canError (c : Nat) (e : CanError) (s : State) : State :=
  (s.setFld (CAN_LEC c) 0 3 (lecCode e)).bump (CAN_ECNT c) 0 16 1

/-- An error while receiving (R417). (log 183 PRESUMED) -/
def rxError (c : Nat) (e : CanError) (heavy : Bool) (s : State) : State :=
  canRestate c ((canError c e s).setFld (CAN_ERRC c) 16 8 (min 255 (s.recCount c + if heavy then 8 else 1)))

/-! ### Transmission (R408, R411) -/

/-- A buffer is pending. -/
def State.pendingBuf (s : State) (c n : Nat) : Bool := s.flag (CAN_MB_CTRL c n) 4

/-- The arbitration field of a buffer: base identifier, IDE, extension. -/
def State.arbKey (s : State) (c n : Nat) : Nat :=
  let id := s.fld (CAN_MB c n 0) 0 29
  if s.flag (CAN_MB c n 0) 29 then (id / 2 ^ 18 * 2 + 1) * 2 ^ 18 + id % 2 ^ 18 else id % 2 ^ 11 * 2 * 2 ^ 18

/-- The pending buffer whose arbitration field wins, ties to the lower number; only buffer 0 while ALONE (R411).
(log 181 DESIGN CHOICE) -/
def State.winner (s : State) (c : Nat) : Option Nat :=
  let l := (List.range 64).filter fun n => s.pendingBuf c n && (n = 0 || !s.flag (CAN_STAT c) 2)
  l.foldl (fun m n => match m with
    | none => some n
    | some k => if s.arbKey c n < s.arbKey c k then some n else m) none

/-- The buffer that the controller offers: one known to be on the bus finishes its attempt. (log 181 DESIGN CHOICE) -/
def State.offered (s : State) (c : Nat) : Option Nat := ((s.canOf c).onBus.filter (s.pendingBuf c)).or (s.winner c)

/-- The frame of buffer `n` as it goes out (R403, R409): ESI of an FD frame shows error passive; bytes follow the DLC.
-/
def State.canSent (s : State) (c n : Nat) : CanFrame :=
  let w := CAN_MB c n 0
  let dlc := s.fld (CAN_MB c n 1) 0 4
  { id := BitVec.ofNat 29 (s.fld w 0 (if s.flag w 29 then 29 else 11)), ide := s.flag w 29, fdf := s.flag w 30,
    brs := s.flag w 31, esi := s.flag w 30 && s.canState c == canPassive, dlc := BitVec.ofNat 4 dlc, remote := false,
    data := ((List.range 16).flatMap fun k => leBytes 4 (s.reg (CAN_MB c n (3 + k))).toNat).take
      (canDataLen (s.flag w 30) dlc) }

/-- The transmitter delay of an FD frame sent with BRS, with FLAGS bit 1 set (R404). -/
def noteDelay (c n d : Nat) (s : State) : State :=
  if s.flag (CAN_MB c n 0) 30 && s.flag (CAN_MB c n 0) 31 && s.canFlag c 1 then
    let s := s.setFld (CAN_TDC c) 0 7 (min d 127)
    if 127 < d then s.raise (CAN_TDC c) 7 else s
  else s

/-- The secondary sample point of a transmitted data-phase bit: the measured delay, at most 127, and TDCO, in CANC
periods (R404, Bit timing). (log 181 DESIGN CHOICE) -/
def State.secondaryPoint (s : State) (c : Nat) : Nat := s.fld (CAN_TDC c) 0 7 + ((s.canRec c).map (·.tdco)).getD 0

/-- What the check at the sample point finds in a bit `sent` that reads `seen` there, recessive being true (R404).
(log 181 DESIGN CHOICE) -/
def bitCheck (sent seen : Bool) : Option CanError := if sent == seen then none else some (if sent then .bit1 else .bit0)

/-- Every pending request of a controller that leaves the bus ends: firmware's with ABORTED, the presence frame is not
sent (R415). (log 182 DEDUCED) -/
def canLeft (c : Nat) (s : State) : State :=
  let s := (List.range 64).foldl (fun s n =>
    if s.pendingBuf c n then
      let s := (s.lower (CAN_MB_CTRL c n) 4).lower (CAN_MB_CTRL c n) 5
      if n = 0 then s else s.raise (CAN_MB_CTRL c n) 11
    else s) s
  modCan c (fun k => { k with suspended := true, leaving := false, onBus := none }) (s.lower (CAN_STAT c) 3)

/-- A frame on the bus has ended: a controller that was to leave leaves now (R415). (log 182 DEDUCED) -/
def frameOver (c : Nat) (s : State) : State := if (s.canOf c).leaving then canLeft c s else s

/-- The attempt of buffer `n` has ended: an ABORT that waited for it has (R408). -/
def attemptEnd (c n : Nat) (s : State) : State := modCan c (fun k => { k with onBus := none }) (s.lower (CAN_MB_CTRL c n) 5)

/-- ALONE ends, and with it the count of ACK errors that has set it (R411). (log 184 DEDUCED) -/
def endAlone (c : Nat) (s : State) : State :=
  if s.flag (CAN_STAT c) 2 then modCan c (fun k => { k with ackErrors := 0 }) (s.lower (CAN_STAT c) 2) else s

/-- CAN_TX_DONE (R408, R404). (log 181 DESIGN CHOICE) -/
def execCanTxDone (c : Fin 2) (time : Word) (delay : Nat) (s : State) : Host.Outcome State Fault Refusal :=
  match if s.canOnline c && s.canHears c then s.offered c else none with
  | none => finish s
  | some n =>
    let s := attemptEnd c n (noteDelay c n delay s)
    let s := ((s.lower (CAN_MB_CTRL c n) 4).raise (CAN_MB_CTRL c n) 10).raise (CAN_ISTAT c) 1
    let s := modCan c (fun k => { k with ackErrors := 0 }) ((endAlone c s).setReg (CAN_TIME c) time)
    let s := (s.setReg (CAN_MB c n 2) time).bump (CAN_CNT c) 16 16 1
    let s := s.setFld (CAN_ERRC c) 0 9 (s.tec c - 1)
    let s := if n = 0 then
        { s with proof := { s.proof with presSeq := tset 0 s.proof.presSeq c ((tget 0 s.proof.presSeq c + 1) % 256) } }
      else s
    finish (frameOver c (canRestate c s))

/-- CAN_TX_ERROR (R417, R411): an ACK error while error passive leaves TEC unchanged; a buffer that ABORT has met on the
bus is not offered again (R408). (log 181 DESIGN CHOICE, 183 PRESUMED) -/
def execCanTxError (c : Fin 2) (e : CanError) (delay : Option Nat) (s : State) : Host.Outcome State Fault Refusal :=
  match if s.canOnline c then s.offered c else none with
  | none => finish s
  | some b =>
    let keep := e = .ack && s.canState c = canPassive
    let n := if e = .ack then (s.canOf c).ackErrors + 1 else 0
    let s := match delay with
      | some d => noteDelay c b d s
      | none => s
    let s := if (s.canOf c).onBus = some b then (s.lower (CAN_MB_CTRL c b) 4).raise (CAN_MB_CTRL c b) 11 else s
    let s := modCan c (fun k => { k with ackErrors := n }) (canError c e (attemptEnd c b s))
    let s := if keep then s else s.setFld (CAN_ERRC c) 0 9 (min 511 (s.tec c + 8))
    let s := if 16 ≤ n ∧ !s.flag (CAN_STAT c) 2 then (s.raise (CAN_STAT c) 2).raise (CAN_ISTAT c) 4 else s
    let s := canRestate c s
    finish (frameOver c (if s.canState c = canBusOff then report (74 + c.val) s else s))

/-- CAN_RX_ERROR (R417). -/
def execCanRxError (c : Fin 2) (e : CanError) (heavy : Bool) (s : State) : Host.Outcome State Fault Refusal :=
  finish (if s.canOnline c then frameOver c (rxError c e heavy s) else s)

/-- BUS_OFF_RECOVERY (R417). (log 184 DEDUCED) -/
def execBusOffRecovery (c : Fin 2) (s : State) : Host.Outcome State Fault Refusal :=
  if s.canState c = canBusOff ∧ s.canHears c then
    finish (((s.setReg (CAN_ERRC c) 0).setFld (CAN_STAT c) 0 2 canActive).raise (CAN_ISTAT c) 2)
  else finish s

/-- CAN_SYNC (R419). (log 184 DEDUCED) -/
def execCanSync (c : Fin 2) (s : State) : Host.Outcome State Fault Refusal :=
  finish (if s.canState c ≠ canOff ∧ !(s.canOf c).suspended ∧ s.canHears c then s.raise (CAN_STAT c) 3 else s)

/-! ### Mapping (R405, Table 19-4) -/

/-- A record names the identifier and format of a frame. -/
def mapMatches (r : CanmapRec) (c : Nat) (f : CanFrame) : Bool :=
  r.ctrl = c && bit r.id 31 == f.ide && bits r.id 0 29 == f.id.toNat

/-- Put the state of source `i`. -/
def setSrc (i v : Nat) (s : State) : State := { s with srcs := tset 0 s.srcs i v }

/-- One record over a received data frame. -/
def mapRecord (c : Nat) (f : CanFrame) (s : State) (e : CanmapRec × Nat) : State :=
  if !mapMatches e.1 c f then s
  else match f.data[e.1.byte]? with
    | none => s.bump (CAN_MAP c) 16 16 1
    | some b => setSrc e.2 (if bits b.toNat e.1.bit e.1.width = e.1.onValue then 2 else 1) (s.bump (CAN_MAP c) 0 16 1)

/-! ### Filters (R406, R407) -/

/-- Filter `k` matches the frame. -/
def State.filterMatches (s : State) (c k : Nat) (f : CanFrame) : Bool :=
  let b := s.fld (CAN_FLT_BUF c k) 0 6
  s.flag (CAN_FLT_ID c k) 31 && s.flag (CAN_FLT_ID c k) 29 == f.ide &&
    (s.fld (CAN_FLT_ID c k) 0 29 ^^^ f.id.toNat) &&& s.fld (CAN_FLT_MASK c k) 0 29 == 0 &&
    b != 0 && s.fld (CAN_MB_CTRL c b) 0 2 == 1

/-- Store a frame in buffer `n`, or drop it. -/
def storeFrame (c n : Nat) (f : CanFrame) (time : Word) (s : State) : State :=
  if s.flag (CAN_MB_CTRL c n) 8 then (s.raise (CAN_MB_CTRL c n) 9).raise (CAN_ISTAT c) 5
  else
    let s := s.setFlds (CAN_MB c n 0) [(0, 29, f.id.toNat), (29, 1, b2n f.ide), (30, 1, b2n f.fdf), (31, 1, b2n f.brs)]
    let s := (s.setFlds (CAN_MB c n 1) [(0, 4, f.dlc.toNat), (4, 1, b2n f.esi)]).setReg (CAN_MB c n 2) time
    ((putBuffer c n f.data s).raise (CAN_MB_CTRL c n) 8).raise (CAN_ISTAT c) 0

/-- The controller receives frame `f` correctly, and sends a dominant bit in its ACK slot, whether or not a filter or a
mapping matches (R403); an FD frame where FD is disabled is a form error. -/
def State.acknowledges (s : State) (c : Nat) (f : CanFrame) : Bool :=
  s.canOnline c && s.canHears c && !(f.fdf && !s.canFlag c 0)

/-- A valid frame is received: counted, mapped, stored (R403, R405, R406); remote frames are discarded. REC falls by 1;
from above 127 ISO 11898-1 sets it to a value from 119 to 127. (log 183 PRESUMED) -/
def receiveFrame (c : Nat) (f : CanFrame) (time : Word) (s : State) : State :=
  let s := ((endAlone c s).setReg (CAN_TIME c) time).bump (CAN_CNT c) 0 16 1
  let (x, s) := if 127 < s.recCount c then s.free 9 else (0, s)
  let s := s.setFld (CAN_ERRC c) 16 8 (if 127 < s.recCount c then 119 + x else s.recCount c - 1)
  let s := canRestate c s
  if f.remote then s
  else
    let s := s.canmaps.foldl (mapRecord c f) s
    let s := match (List.range 128).find? fun k => s.filterMatches c k f with
      | none => s
      | some k => storeFrame c (s.fld (CAN_FLT_BUF c k) 0 6) f time s
    evalAll s

/-- SRC_TIMEOUT of CANMAP record `r` expires: STALE, unless it is so already (Table 19-4). -/
def expireSrc (s : State) (r : Nat) : State :=
  match s.canmaps.find? fun e => e.2 = r with
  | none => s
  | some e => if tget 0 s.srcs r = 3 then s else setSrc r 3 (s.raise (CAN_ISTAT e.1.ctrl) 6)

/-- SOURCE_TIMEOUT (R413, Table 19-4). -/
def execSourceTimeout (r : Fin 256) (s : State) : Host.Outcome State Fault Refusal :=
  if (s.canmaps.find? fun e => e.2 = r.val).isNone ∨ tget 0 s.srcs r = 3 then finish s
  else finish (evalAll (expireSrc s r))

/-! ### Start, release, restart (R415, R416, R419) -/

/-- A declared controller starts: it integrates on the bus, error active, a change of state where it was error passive
or bus-off (R417); with `fresh` every source of it is AWAITING. (log 182 DEDUCED) -/
def canStart (c : Nat) (fresh : Bool) (s : State) : State :=
  if (s.canRec c).isNone then s
  else
    let s := if canPassive ≤ s.canState c then s.raise (CAN_ISTAT c) 2 else s
    let s := modCan c (fun _ => CanSt.reset) ((s.setFld (CAN_STAT c) 0 2 canActive).setFld (CAN_STAT c) 2 2 0)
    let s := s.setReg (CAN_ERRC c) 0
    if fresh then (s.canmaps.filter fun e => e.1.ctrl = c).foldl (fun s e => setSrc e.2 0 s) s else s

/-- A controller is to leave the bus (R415): after the frame that it is sending or receiving, which the state knows only
of a buffer met by ABORT; else whether one is on the bus is a free value. (log 182 DEDUCED) -/
def canRelease (c : Nat) (s : State) : State :=
  if s.canState c = canOff ∨ (s.canOf c).suspended ∨ (s.canOf c).leaving then s
  else
    let x := if !s.canOnline c || !s.canHears c then (0, s) else if (s.canOf c).onBus.isSome then (1, s) else s.free 2
    if x.1 = 1 then modCan c (fun k => { k with leaving := true }) x.2 else canLeft c x.2

/-- Controllers that left the bus restart: their sources are AWAITING again, and the requests follow.
(log 182 DEDUCED) -/
def canResume (s : State) : State :=
  let s := frameOver 1 (frameOver 0 s)
  if [0, 1].any fun c => (s.canOf c).suspended then
    evalAll ([0, 1].foldl (fun s c => if (s.canOf c).suspended then canStart c true s else s) s)
  else s

/-! ### Registers -/

/-- The identifier and format checks of R408. -/
def State.badBuffer (s : State) (c n : Nat) : Bool :=
  let w := CAN_MB c n 0
  (s.flag w 30 && !s.canFlag c 0) || (s.flag w 31 && (!s.flag w 30 || !s.canFlag c 1)) ||
    (!s.flag w 29 && 0x7FF < s.fld w 0 29)

/-- Buffer `n` can be on the bus: its controller takes part in traffic, offers it, and no other buffer is known to be
there. (log 181 DESIGN CHOICE) -/
def State.mayBeSent (s : State) (c n : Nat) : Bool :=
  s.canOnline c && (n = 0 || !s.flag (CAN_STAT c) 2) && ((s.canOf c).onBus.all (· = n))

/-- ABORT of a pending buffer (R408): one on the bus finishes its attempt first. (log 181 DESIGN CHOICE) -/
def abortBuf (c n : Nat) (onBus : Bool) (s : State) : State :=
  if onBus then modCan c (fun k => { k with onBus := some n }) (s.raise (CAN_MB_CTRL c n) 5)
  else (s.lower (CAN_MB_CTRL c n) 4).raise (CAN_MB_CTRL c n) 11

/-- A write of CAN_MB_CTRLn (R408, R409): MODE under R51, flags, REQ on a TX buffer, then ABORT. Whether the buffer is
on the bus comes from the row, else it is free. (log 181 DESIGN CHOICE) -/
def wrMbCtrl (c n : Nat) (onBus : Option Bool) (who : Nat) (w : Word) (s : State) : State :=
  if n = 0 then s
  else rbWrite (CAN_MB_CTRL c n) who w (fun s =>
    let s := if bit w.toNat 4 ∧ s.fld (CAN_MB_CTRL c n) 0 2 = 2 then
        (if s.badBuffer c n then (s.raise (CAN_MB_CTRL c n) 12).lower (CAN_MB_CTRL c n) 4 else s.raise (CAN_MB_CTRL c n) 4)
      else s
    if bit w.toNat 5 ∧ s.pendingBuf c n then
      if !s.mayBeSent c n then abortBuf c n false s
      else if (s.canOf c).onBus = some n then abortBuf c n true s
      else match onBus with
        | some b => abortBuf c n b s
        | none => let (x, s) := s.free 2; abortBuf c n (x = 1) s
    else s) s

/-- CAN_TX_REQUEST (R408). -/
def execCanTxRequest (t : Requester) (c : Fin 2) (n : Fin 64) (w : Word) (s : State) : Host.Outcome State Fault Refusal :=
  finish (regCmd t (CAN_MB_CTRL c n) w (wrMbCtrl c n none) s)

/-- CAN_TX_ABORT (R408). -/
def execCanTxAbort (t : Requester) (c : Fin 2) (n : Fin 64) (w : Word) (onBus : Bool) (s : State) :
    Host.Outcome State Fault Refusal :=
  finish (regCmd t (CAN_MB_CTRL c n) w (wrMbCtrl c n (some onBus)) s)

/-- A write of a buffer word; buffer 0 is the device's own (R409). -/
def wrMbWord (a : Nat) (_who : Nat) (w : Word) (s : State) : State := if a % 0x10000 < 0x1050 then s else s.write a w

/-- A write of CAN_CTRL. -/
def wrCanCtrl (c : Nat) (_who : Nat) (w : Word) (s : State) : State :=
  if bit w.toNat 0 then ((s.setReg (CAN_CNT c) 0).setReg (CAN_ECNT c) 0).setReg (CAN_MAP c) 0 else s

/-- CAN_COUNTER_CLEAR (R418). -/
def execCanCounterClear (t : Requester) (c : Fin 2) (w : Word) (s : State) : Host.Outcome State Fault Refusal :=
  finish (regCmd t (CAN_CTRL c) w (wrCanCtrl c) s)

end Sys2Proof.Machine
end

