-- ==== Sys2Proof/Machine/Coding.lean ====
section
/-! DEFINITION. The coding path of a link port (13): flits as bytes (Tables 14-1 to 14-3), data symbols, the RS(136,128)
codeword, striping, the self-synchronous scrambler, alignment markers and training records. -/

namespace Sys2Proof.Machine

/-! ### Flits as bytes (R289) -/

/-- The ack and credit field (Table 14-3). -/
def ackValue (a : AckField) : Nat :=
  a.ackSeq.toNat + b2n a.ackV * 2 ^ 10 + a.nakSeq.toNat * 2 ^ 11 + b2n a.nakV * 2 ^ 21 + b2n a.snap * 2 ^ 22 +
    b2n a.init * 2 ^ 23 + a.credReq.toNat * 2 ^ 24 + a.credRsp.toNat * 2 ^ 36

/-- The header (Table 14-2). -/
def flitHeader (f : Flit) : Nat :=
  f.type.toNat + b2n f.vc * 2 ^ 4 + f.tenant.val * 2 ^ 5 + f.seq.toNat * 2 ^ 9 + f.payload.length % 256 * 2 ^ 19 +
    b2n f.initDone * 2 ^ 27

/-- The 160 bytes of a flit (Table 14-1). -/
def flitBytes (f : Flit) : List Byte :=
  let body := leBytes 6 (flitHeader f) ++ leBytes 6 (ackValue f.ack) ++ (f.payload ++ List.replicate 144 0).take 144
  body ++ leBytes 4 (crc32c body)

/-! ### Reed-Solomon code over GF(2^10) (R270) -/

/-- Multiplication by the root of x^10 + x^3 + 1. -/
def gfTimesA (v : Nat) : Nat := if 512 ≤ v then (2 * v) ^^^ 0x409 else 2 * v

/-- Product of two field elements. -/
def gfMul (a b : Nat) : Nat :=
  [9, 8, 7, 6, 5, 4, 3, 2, 1, 0].foldl (fun acc i => gfTimesA acc ^^^ (if bit b i then a else 0)) 0

/-- Coefficients of (x - r) times a polynomial, lowest first. -/
def gfTimesRoot (r : Nat) (g : List Nat) : List Nat :=
  List.zipWith (fun a b => a ^^^ gfMul r b) (0 :: g) (g ++ [0])

/-- The generator polynomial's coefficients of x^0 to x^8. -/
def rsGenerator : List Nat := [1, 2, 4, 8, 16, 32, 64, 128].foldl (fun g r => gfTimesRoot r g) [1]

/-- One step of the division by the generator: the remainder's coefficients, lowest first. -/
def rsStep (r : List Nat) (d : Nat) : List Nat :=
  let f := d ^^^ r.getD 7 0
  List.zipWith (fun a g => a ^^^ gfMul f g) (0 :: r.take 7) (rsGenerator.take 8)

/-- The codeword of 128 data symbols: the symbols in transmission order, parity c7 to c0 last (R270, R271). -/
def rsEncode (d : List Nat) : List Nat := d ++ (d.foldl rsStep (List.replicate 8 0)).reverse

/-- Data symbol k of 160 bytes: bits 10k to 10k + 9 (R269). -/
def dataSymbols (l : List Byte) : List Nat := (List.range 128).map fun k => bits (ofLe l) (10 * k) 10

/-! ### Lanes (R271 to R273) -/

/-- The symbols of logical lane `n` of `k`: symbols t with t mod k = n, ascending. -/
def laneSymbols (k n : Nat) (cw : List Nat) : List Nat := (cw.zipIdx.filter fun e => e.2 % k = n).map (·.1)

/-- The scrambler register at reset: 58 ones. -/
def scrReset : BitVec 58 := BitVec.allOnes 58

/-- Scramble one bit: the line bit and the register after it (R272). -/
def scrBit (r : BitVec 58) (d : Bool) : Bool × BitVec 58 :=
  let x := d ^^ r.getLsbD 38 ^^ r.getLsbD 57
  (x, (r <<< 1) ||| (if x then 1 else 0))

/-- Scramble a list of bits. -/
def scramble (r : BitVec 58) : List Bool → List Bool × BitVec 58
  | [] => ([], r)
  | d :: ds =>
    let (x, r') := scrBit r d
    let (xs, r'') := scramble r' ds
    (x :: xs, r'')

/-- The LID symbol (Table 13-2). -/
def lidSymbol (training : Bool) (k n : Nat) : Nat :=
  (if training then 9 else 5) * 64 + (if k = 4 then 2 else k - 1) * 4 + n

/-- The marker block of logical lane `n` of `k`: the group repeated, cut off after 136 / k symbols (Table 13-2). -/
def markerBlock (training : Bool) (k n : Nat) : List Nat :=
  let lid := lidSymbol training k n
  let group := [0x329, 0x0D6, lid, lid ^^^ 0x3FF]
  (List.range (136 / k)).map fun i => group.getD (i % 4) 0

/-- Symbols as line bits, each bit 0 first. -/
def symbolBits (l : List Nat) : List Bool := l.flatMap (bitList 10)

/-- Transmit 160 data bytes on `k` lanes: the line bits by physical lane and the port after it. `inv` and `rev` are
PHY_CTRL.TX_INV and TX_REV (R277). (log 131 DESIGN CHOICE) -/
def transmit (k inv : Nat) (rev : Bool) (data : List Byte) (s : PhySt) : PhySt :=
  let cw := rsEncode (dataSymbols data)
  let mark := s.codewords + 1 = 64
  let lane := fun n =>
    let (b, r) := scramble (tget scrReset s.scr n) (symbolBits (laneSymbols k n cw))
    let b := b ++ if mark then symbolBits (markerBlock s.training k n) else []
    (if bit inv n then b.map (!·) else b, r)
  let out := (List.range k).map lane
  { s with scr := (List.range k).foldl (fun t n => tset scrReset t n (((out[n]?).map (·.2)).getD scrReset)) s.scr,
           codewords := if mark then 0 else s.codewords + 1,
           line := (if rev then out.reverse else out).map (·.1) }

/-! ### Training records (Table 13-3) -/

/-- The 160 data bytes of a training codeword. -/
def trainingBytes (kind lanes rate : Nat) (seen idle : Bool) (devid : Nat) : List Byte :=
  let body := [0x43, 0x52, 0x54, 0x53] ++ leBytes 1 kind ++ leBytes 1 lanes ++ leBytes 1 rate ++
    leBytes 1 (b2n seen + 2 * b2n idle) ++ [1] ++ List.replicate 7 0 ++ leBytes 8 devid ++ List.replicate 132 0
  body ++ leBytes 4 (crc32c body)

/-- A decoded training record is valid: MAGIC and CRC match. (log 132 DEDUCED) -/
def trainingValid (l : List Byte) : Bool :=
  l.take 4 == [0x43, 0x52, 0x54, 0x53] && ofLe ((l.drop 0x9C).take 4) == crc32c (l.take 0x9C)

/-- A field of a training record. -/
def recField (l : List Byte) (o n : Nat) : Nat := ofLe ((l.drop o).take n)

end Sys2Proof.Machine
end

