-- ==== Sys2Proof/Machine/Phy.lean ====
section
/-! DEFINITION. The physical layer of the link ports (13): configuration (Table 13-1), training and lock (Table 13-4),
and the parts of a training that the link layer shares. -/

namespace Sys2Proof.Machine

def phIdle : Nat := 0
def phCdr : Nat := 1
def phSearch : Nat := 2
def phVerify : Nat := 3
def phExchange : Nat := 4
def phActive : Nat := 5
def phFail : Nat := 6
def phDisabled : Nat := 7

/-- The LINK record of a port. -/
def State.linkRec (s : State) (p : Nat) : Option LinkRec := s.cfg.bind fun i => i.links.find? fun r => r.port = p

/-- A port is enabled (R268): the Ihlov ports always, a Fyrd port with a LINK record and its bit in FLOCK PORTS. -/
def State.portEnabled (s : State) (p : Nat) : Bool :=
  p < 2 || ((s.linkRec p).isSome && (s.cfg.bind (·.flock)).any fun f => bit f.ports (p - 2))

/-- Active lanes of a port. -/
def State.portLanes (s : State) (p : Nat) : Nat := if 2 ≤ p then 2 else ((s.linkRec p).map (·.lanes)).getD 1

/-- The RATE of the FRD1 record is overridden by that of FRD0 (R268). -/
def State.rateOver (s : State) : Bool :=
  s.portEnabled 2 && s.portEnabled 3 && ((s.linkRec 2).map (·.rate)) != ((s.linkRec 3).map (·.rate))

/-- The rate code of a port. -/
def State.portRate (s : State) (p : Nat) : Nat :=
  ((s.linkRec (if p = 3 ∧ s.portEnabled 2 then 2 else p)).map (·.rate)).getD 0

/-- KIND sent, and KIND expected (Table 13-4). -/
def kindSent (p : Nat) : Nat := if p < 2 then 1 else 2
def kindExpected (p : Nat) : Nat := if p < 2 then 0 else 2

def State.phyState (s : State) (p : Nat) : Nat := s.fld (PHY_STAT p) 0 4

/-- The receiver is LOCKED (R275). -/
def State.locked (s : State) (p : Nat) : Bool := s.flag (PHY_STAT p) 11

/-- Enter a state: LANES only in ACTIVE, LOCKED in EXCHANGE and ACTIVE. (log 135 DEDUCED) -/
def setPhyState (p st : Nat) (s : State) : State :=
  s.setFlds (PHY_STAT p) [(0, 4, st), (4, 3, if st = phActive then s.portLanes p else 0), (8, 3, s.portRate p),
    (11, 1, b2n (st = phExchange || st = phActive))]

/-- Training starts: training markers and records with SEEN 0 are sent (Table 13-4, from IDLE and FAIL to CDR).
(log 134 DEDUCED, 144 DEDUCED) -/
def phyTrain (p : Nat) (s : State) : State :=
  if !s.portEnabled p then s
  else
    let s := modPhy p (fun y => { y with training := true, retrain := false, elecIdle := false, recvValid := 0, recvSeen := 0,
                                         sentSeen := 0, idleMarks := none, misses := 0 }) s
    let s := if p = 3 then s.putFlag (PHY_STAT p) 18 s.rateOver else s
    (setPhyState p phCdr s).bump (PHY_TRAIN p) 0 16 1

/-- A training attempt fails with FAILCODE `code` (R280, R286); the report comes last. (log 135 DEDUCED) -/
def phyFail (p code : Nat) (s : State) : State :=
  report (50 + p) ((setPhyState p phFail (s.setFld (PHY_STAT p) 12 4 code)).bump (PHY_TRAIN p) 16 16 1)

/-- The port goes to IDLE in electrical idle (R284). (log 136 DEDUCED) -/
def electricalIdle (p : Nat) (s : State) : State :=
  setPhyState p phIdle (modPhy p (fun y => { y with elecIdle := true, training := false, idleMarks := none }) s)

/-- An ACTIVE port on its way to electrical idle sends two marker periods of training markers and records with
FLAGS.IDLE first (R284); the period that runs is no whole one. Any other port is idle at once. (log 136 DEDUCED) -/
def startIdle (p : Nat) (s : State) : State :=
  if s.phyState p ≠ phActive then electricalIdle p s
  else if (s.phyOf p).idleMarks.isSome then s
  else modPhy p (fun y => { y with training := true, idleMarks := some (if y.codewords = 0 then 2 else 3) }) s

/-- CDR_LOCK. -/
def execCdrLock (p : Port) (s : State) : Host.Outcome State Fault Refusal :=
  finish (if s.phyState p = phCdr then setPhyState p phSearch s else s)

/-- The logical lane that a LID names, where its fixed bits and lane count are the port's own. -/
def lidLane (k : Nat) (lid : Nat) : Option Nat :=
  if (lid / 64 = 5 ∨ lid / 64 = 9) ∧ bits lid 4 2 = 0 ∧ bits lid 2 2 = (if k = 4 then 2 else k - 1) ∧ lid % 4 < k then
    some (lid % 4)
  else none

/-- The LIDs name every logical lane once (R275): the physical lane of each logical lane. -/
def laneMap (k : Nat) (hits : List LaneHit) : Option (List Nat) :=
  let l := hits.map fun h => lidLane k h.lid.toNat
  if l.length = k then (List.range k).mapM fun n => l.findIdx? (· = some n) else none

/-- ALIGN_CANDIDATE (R275, R277, R281). -/
def execAlignCandidate (p : Port) (hits : List LaneHit) (skewOk : Bool) (s : State) :
    Host.Outcome State Fault Refusal :=
  match laneMap (s.portLanes p) hits with
  | some m =>
    if s.phyState p = phSearch ∧ skewOk then
      let inv := ofPositions ((List.range hits.length).filter fun i => (hits[i]?).any (·.inverted))
      let map := m.zipIdx.foldl (fun a e => a + e.1 * 4 ^ e.2) 0
      finish (setPhyState p phVerify (s.setFlds (PHY_LANEMAP p) [(0, 8, map), (8, 4, inv)]))
    else finish s
  | none => finish s

/-- ALIGN_VERIFY_FAIL. -/
def execAlignVerifyFail (p : Port) (s : State) : Host.Outcome State Fault Refusal :=
  finish (if s.phyState p = phVerify then (setPhyState p phSearch s).bump (PHY_LOCK p) 24 8 1 else s)

/-- One marker period, with a hit on every lane or without: three in a row without one end the lock of an ACTIVE port; a
hit resets the count. (log 134 DEDUCED) -/
def markerPeriod (p : Nat) (s : State) (hit : Bool) : State :=
  if !s.locked p then s
  else if hit then modPhy p (fun y => { y with misses := 0 }) s
  else
    let s := (modPhy p (fun y => { y with misses := y.misses + 1 }) s).bump (PHY_LOCK p) 0 16 1
    if s.phyState p = phActive ∧ 3 ≤ (s.phyOf p).misses then
      (setPhyState p phSearch (modPhy p (fun y => { y with misses := 0 }) s)).bump (PHY_LOCK p) 16 8 1
    else s

/-- LOCK_LOSS (R276): the marker periods up to the loss of lock; with fewer than three misses in a row the lock stays.
(log 134 DEDUCED) -/
def execLockLoss (p : Port) (hits : List Bool) (s : State) : Host.Outcome State Fault Refusal :=
  finish (hits.foldl (markerPeriod p) s)

/-- The lock conditions (R275): four marker periods in a row with a hit on every lane, every one of their 256 codewords
decoded, those of at least three of them without corrections. (log 131 DESIGN CHOICE) -/
def lockTest (l : List LockPeriod) : Bool :=
  l.length == 4 && l.all (fun r => r.hit && r.decoded == 64) && 3 ≤ (l.filter fun r => r.corrected = 0).length

/-- ATTEMPT_TIMEOUT (R280, R281, R286). -/
def execAttemptTimeout (p : Port) (cdrLane : Option (Fin 4)) (skew : Bool) (s : State) :
    Host.Outcome State Fault Refusal :=
  if 1 ≤ s.phyState p ∧ s.phyState p ≤ phExchange then
    match cdrLane with
    | some l => finish (phyFail p 1 (s.setFld (PHY_STAT p) 16 2 l.val))
    | none => finish (phyFail p (if skew then 2 else 5) s)
  else finish s

/-- TRAINING_RETRY. -/
def execTrainingRetry (p : Port) (s : State) : Host.Outcome State Fault Refusal :=
  finish (if s.phyState p = phFail then phyTrain p s else s)

/-- A write of PHY_CTRL: TX_INV and TX_REV under R51, RETRAIN from ACTIVE (R277, R282). -/
def wrPhyCtrl (p : Nat) (who : Nat) (w : Word) (s : State) : State :=
  rbWrite (PHY_CTRL p) who w
    (fun s => if bit w.toNat 0 ∧ s.phyState p = phActive then modPhy p (fun y => { y with retrain := true }) (phyTrain p s)
      else s) s

/-- RETRAIN (R282). -/
def execRetrain (t : Requester) (p : Port) (w : Word) (s : State) : Host.Outcome State Fault Refusal :=
  finish (regCmd t (PHY_CTRL p) w (wrPhyCtrl p) s)

/-- Zero the PHY counters. -/
def phyClear (p : Nat) (s : State) : State :=
  (((s.setReg (PHY_CORR p) 0).setReg (PHY_UNCORR p) 0).setReg (PHY_LOCK p) 0).setReg (PHY_TRAIN p) 0

/-- A write of PHY_CLR. -/
def wrPhyClr (p : Nat) (_who : Nat) (w : Word) (s : State) : State := if bit w.toNat 0 then phyClear p s else s

/-- PHY_COUNTER_CLEAR (R280). -/
def execPhyCounterClear (t : Requester) (p : Port) (w : Word) (s : State) : Host.Outcome State Fault Refusal :=
  finish (regCmd t (PHY_CLR p) w (wrPhyClr p) s)

/-- PEER_IDLE (R284): a record with FLAGS.IDLE while the peer's records arrive. (log 136 DEDUCED) -/
def execPeerIdle (p : Port) (s : State) : Host.Outcome State Fault Refusal :=
  finish (if s.phyState p = phExchange ∨ s.phyState p = phActive then electricalIdle p s else s)

/-- A codeword was corrected in at least one symbol. -/
def noteCorrected (p : Nat) (c : Bool) (s : State) : State := if c then s.bump (PHY_CORR p) 0 32 1 else s

end Sys2Proof.Machine
end

