-- ==== Sys2Proof/Machine/Link.lean ====
section
/-! DEFINITION. The link layer (14): flits received and sent, sequence numbers, acknowledgement and replay (Tables 14-4,
14-5), the receive pool and credits (Tables 14-6, 14-7), link down (Table 14-9) and trainings (R305, R311, R312). -/

namespace Sys2Proof.Machine

def lnDown : Nat := 0
def lnInit : Nat := 1
def lnUp : Nat := 2

def State.lnkState (s : State) (p : Nat) : Nat := s.fld (LNK_STAT p) 0 2
def setLnkState (p st : Nat) (s : State) : State := s.setFld (LNK_STAT p) 0 2 st
def State.goBack (s : State) (p : Nat) : Bool := s.flag (LNK_STAT p) 2
def State.tolerant (s : State) (p : Nat) : Bool := s.flag (LNK_STAT p) 3
def State.txNext (s : State) (p : Nat) : Nat := s.fld (LNK_SEQ p) 0 10
def State.rxExp (s : State) (p : Nat) : Nat := s.fld (LNK_SEQ p) 16 10
def State.poolMin (s : State) (p : Nat) : Nat := s.fld (LNK_CFG1 p) 16 9

/-- Distance (a - b) modulo 1,024. -/
def seqDist (a b : Nat) : Nat := (a + 1024 - b % 1024) % 1024

/-! ### Terms per class (false: Request, true: Response) -/

def LnkSt.sent (l : LnkSt) (v : Bool) : Nat := if v then l.sentRsp else l.sentReq
def LnkSt.rel (l : LnkSt) (v : Bool) : Nat := if v then l.relRsp else l.relReq
def LnkSt.leak (l : LnkSt) (v : Bool) : Nat := if v then l.leakRsp else l.leakReq
def LnkSt.rcnt (l : LnkSt) (v : Bool) : Nat := if v then l.rcntRsp else l.rcntReq
def LnkSt.setSent (l : LnkSt) (v : Bool) (n : Nat) : LnkSt := if v then { l with sentRsp := n } else { l with sentReq := n }
def LnkSt.setRel (l : LnkSt) (v : Bool) (n : Nat) : LnkSt := if v then { l with relRsp := n } else { l with relReq := n }
def LnkSt.setLeak (l : LnkSt) (v : Bool) (n : Nat) : LnkSt := if v then { l with leakRsp := n } else { l with leakReq := n }

/-- OUT_v (Table 14-6). -/
def LnkSt.outV (l : LnkSt) (v : Bool) : Nat :=
  (toSigned 12 ((l.sent v + 4096 - l.rel v % 4096) % 4096) + (l.leak v : Int)).toNat

/-- The effective pool E. -/
def LnkSt.effective (l : LnkSt) : Nat := 1024 - l.leakReq - l.leakRsp

/-- The sending test of R298. -/
def LnkSt.maySend (l : LnkSt) (poolMin : Nat) (v : Bool) : Bool :=
  l.outV v < poolMin || (l.outV false - poolMin) + (l.outV true - poolMin) < 1024 - 2 * poolMin

/-! ### The receive pool (R296) -/

/-- Slots of class `v` occupied on port `p`: flits held out of order, and Request packets that wait for delivery or for
their execution. -/
def State.occupied (s : State) (p : Nat) (v : Bool) : Nat :=
  ((s.lnkOf p).held.filter (·.vc = v)).length +
    (if v then 0
     else
      (s.txn.held.filter fun h => match h with | .packet q _ _ => q.val = p | _ => false).length +
      (s.sto.heldWrites.filter (·.port.val = p)).length + (s.sto.heldReads.filter (·.port.val = p)).length)

/-- One more slot of class `v` would exceed its reserved and the shared slots (R303). -/
def State.poolFull (s : State) (p : Nat) (v : Bool) : Bool :=
  let m := s.poolMin p
  let own := s.occupied p v + 1
  let other := s.occupied p (!v)
  m < own && 1024 - 2 * m < (own - m) + (other - m)

/-- A slot of class `v` is released (R317): RCNT_v and the increment to send. -/
def releaseSlot (p : Nat) (v : Bool) (s : State) : State :=
  modLnk p (fun l => if v then { l with rcntRsp := (l.rcntRsp + 1) % 4096, newRsp := l.newRsp + 1 }
                     else { l with rcntReq := (l.rcntReq + 1) % 4096, newReq := l.newReq + 1 }) s

/-! ### Trainings and link down (R305, R310, R311) -/

/-- A completion handed back or not yet sent at a training: RESENT, with the SEQ of its last transmission (R331).
(log 153 DEDUCED) -/
def markResent (seq : Nat) (k : Packet) : Packet :=
  let b := k.payload
  { k with payload := b.take 3 ++ [b.getD 3 0 ||| 2] ++ (b.drop 4).take 2 ++ leBytes 2 seq ++ b.drop 8 }

/-- A completion packet already marked RESENT. -/
def Packet.resent (k : Packet) : Bool := bit (k.payload.getD 3 0).toNat 1

/-- TYPEs of completions and of message interrupts. -/
def Packet.isCompletion (k : Packet) : Bool := k.type = 8 || k.type = 9
def Packet.isMsg (k : Packet) : Bool := k.type = 4

/-- The delivered requests of port `p` that wait: their completions will be re-sent (R331). -/
def markAgain (p : Nat) (l : List Delivered) : List Delivered := l.map fun d => if d.port.val = p then { d with again := true } else d

/-- The discards of R305, with the outcome of R331: completions wait to be re-sent, MSGs that were sent are due again
(R326), flock messages that were sent are dropped; flits not yet sent stay queued. (log 155 DEDUCED) -/
def linkDiscard (p : Nat) (s : State) : State :=
  let l := s.lnkOf p
  let back := (l.replay.filter (·.pkt.isCompletion)).map fun e => markResent e.seq e.pkt
  let unsent := fun (k : Packet) => if k.isCompletion && !k.resent then markResent 0xFFFF k else k
  let due := ((l.replay.map (·.pkt)).filter (·.isMsg)).map (·.tenant.val)
  let s := { s with
    txn := { s.txn with msgWait := s.txn.msgWait ++ due.eraseDups.filter fun t => !s.txn.msgWait.contains t },
    sto := { s.sto with heldWrites := markAgain p s.sto.heldWrites, heldReads := markAgain p s.sto.heldReads } }
  modLnk p (fun l => { l with replay := [], retx := [], held := [], naks := [], marked := [],
                              qRsp := back ++ l.qRsp.map unsent, qLate := l.qLate.map unsent }) s

/-- The port enters EXCHANGE (R305). (log 136 DEDUCED, 144 DEDUCED) -/
def enterExchange (p : Nat) (s : State) : State := setLnkState p lnDown (linkDiscard p (setPhyState p phExchange s))

/-- A link-down condition (R309, R310); the report comes last. (log 139 DEDUCED, 143 DEDUCED) -/
def linkDown (p cause : Nat) (s : State) : State :=
  if s.lnkState p = lnDown then s
  else
    let s := (s.setFld (LNK_STAT p) 8 4 cause).raise (LNK_STAT p) 6
    let s := setLnkState p lnDown (linkDiscard p ((s.bump (LNK_DOWNS p) 0 16 1).lower (LNK_STAT p) 4))
    report (54 + p) (phyTrain p (setPhyState p phIdle s))

/-- Entry into INIT (R311). (log 139 DEDUCED, 143 DEDUCED) -/
def linkInit (p : Nat) (s : State) : State :=
  let rc := fun v => (4096 - s.occupied p v % 4096) % 4096
  let s := modLnk p (fun l => { l with
    replay := [], retx := [], naks := [], marked := [], ackDue := false, ackTimer := false, accSince := 0,
    ackedTo := 1023, sentReq := 0, sentRsp := 0, relReq := 0, relRsp := 0, leakReq := 0, leakRsp := 0,
    rcntReq := rc false, rcntRsp := rc true, newReq := 0, newRsp := 0, sinceSnap := 0, peerInit := false,
    peerDone := false, initSent := false, seqSent := false, alive := false, expiries := 0, tx := none,
    quiet := true, sinceNull := 0 }) s
  setLnkState p lnInit (((s.setReg (LNK_SEQ p) 0).lower (LNK_STAT p) 4).bump (LNK_DOWNS p) 16 16 1)

/-- The exchange is complete (Table 13-4): it ends at the next marker, which is a data marker. (log 133 DEDUCED) -/
def State.exchanged (s : State) (p : Nat) : Bool :=
  s.phyState p == phExchange && 8 ≤ (s.phyOf p).sentSeen && 2 ≤ (s.phyOf p).recvSeen

/-- EXCHANGE ends: ACTIVE, and the link layer enters INIT (Tables 13-4, 14-8). (log 133 DEDUCED) -/
def exchangeEnd (p : Nat) (s : State) : State :=
  linkInit p (setPhyState p phActive (modPhy p (fun y => { y with retrain := false }) s))

/-- INIT ends once the peer's INIT snapshot and INITDONE have arrived (R312); completions handed back are re-sent from
now on (R331). (log 153 DEDUCED) -/
def linkUpCheck (p : Nat) (s : State) : State :=
  let l := s.lnkOf p
  if s.lnkState p = lnInit ∧ l.peerInit ∧ l.peerDone then
    (setLnkState p lnUp s).bump TXN_RESENT 0 16 ((l.qRsp ++ l.qLate).filter fun k => k.isCompletion && k.resent).length
  else s

/-! ### Acks, NAKs and credits received (R294, R297, R303) -/

/-- Apply an ACK_SEQ; `none`: a protocol error. (log 138 DEDUCED) -/
def applyAck (p a : Nat) (s : State) : Option State :=
  let l := s.lnkOf p
  let oldest := seqDist (s.txNext p) l.replay.length
  let n := seqDist (a + 1) oldest
  if seqDist a (s.txNext p) < 512 ∨ l.replay.length < n then none
  else
    let gone := (l.replay.take n).map (·.seq)
    some (modLnk p (fun l => { l with replay := l.replay.drop n, retx := l.retx.filter fun q => !gone.contains q,
                                      expiries := if n = 0 then l.expiries else 0 }) s)

/-- Apply a NAK_SEQ (Table 14-5); `none`: a protocol error. One that names an acknowledged sequence is ignored;
retransmissions go in sequence order. -/
def applyNak (p n : Nat) (s : State) : Option State :=
  let l := s.lnkOf p
  if seqDist n (s.txNext p) < 512 then none
  else
    let un := l.replay.map (·.seq)
    let want := if s.goBack p then un.dropWhile (· ≠ n) else un.filter (· = n)
    if want.isEmpty then some s
    else some (modLnk p (fun l => { l with retx := un.filter fun q => l.retx.contains q || want.contains q })
      (s.bump (LNK_NAK p) 16 16 1))

/-- Compare a snapshot of class `v` (Table 14-7), with its count; `true`: the link goes down with CREDIT_MISMATCH. -/
def compareSnap (p snap : Nat) (v : Bool) (s : State) : Bool × State :=
  let l := s.lnkOf p
  let d := (snap + 4096 - l.rel v % 4096 + l.leak v) % 4096
  if d = 0 then (false, s)
  else if d ≤ 1024 then
    let back := if s.tolerant p then min d (l.leak v) else 0
    (false, (modLnk p (fun l => ((l.setLeak v (l.leak v - back)).setRel v ((l.rel v + (d - back)) % 4096))) s).bump
      (LNK_SNAP p) 0 16 1)
  else if s.tolerant p then
    let s := modLnk p (fun l => l.setLeak v (l.leak v + (4096 - d))) (s.bump (LNK_SNAP p) 16 16 1)
    let l := s.lnkOf p
    if 1024 < l.leakReq + l.leakRsp then (true, s)
    else (false, if l.effective < 256 then s.raise (LNK_STAT p) 4 else s)
  else (true, s)

/-- The credit timer restarts because a credit field came back with at least one slot, or starts because slots are out
again: no good flit has arrived since then (R299). (log 141 DEDUCED) -/
def creditBack (p : Nat) (before : LnkSt) (s : State) : State :=
  let l := s.lnkOf p
  if l.rel false ≠ before.rel false ∨ l.rel true ≠ before.rel true ∨ l.leakReq < before.leakReq ∨
      l.leakRsp < before.leakRsp ∨ before.outV false + before.outV true = 0 then
    modLnk p (fun l => { l with alive := false }) s
  else s

/-- Apply the credit fields of a flit: a link-down cause, if any, and the port after it. -/
def applyCredits (p : Nat) (f : AckField) (s : State) : Option Nat × State :=
  let l := s.lnkOf p
  let q := f.credReq.toNat
  let r := f.credRsp.toNat
  if !f.snap then
    if 1024 < q ∨ 1024 < r then (some 7, s)
    else (none, creditBack p l (modLnk p (fun l => { l with
      relReq := (l.relReq + q) % 4096, relRsp := (l.relRsp + r) % 4096 }) s))
  else
    let s := if f.init then modLnk p (fun l => { l with peerInit := true }) s else s
    if f.init && !l.seqSent then
      (none, creditBack p l (modLnk p (fun l => { l with sentReq := 0, sentRsp := 0, relReq := q, relRsp := r }) s))
    else
      let x := compareSnap p q false s
      let y := if x.1 then x else compareSnap p r true x.2
      if y.1 then (some 5, y.2) else (none, creditBack p l y.2)

/-- Take the ack and credit field of a good flit (R291): a link-down cause, if any, and the port after it, with whatever
came before the cause. (log 141 DEDUCED) -/
def takeAck (p : Nat) (f : Flit) (s : State) : Option Nat × State :=
  let s := modLnk p (fun l => { l with alive := true, peerDone := l.peerDone || f.initDone }) s
  match (if f.ack.ackV then applyAck p f.ack.ackSeq.toNat s else some s) with
  | none => (some 7, s)
  | some s =>
    match (if f.ack.nakV then applyNak p f.ack.nakSeq.toNat s else some s) with
    | none => (some 7, s)
    | some s => applyCredits p f.ack s

/-! ### Sequenced flits received (Table 14-4) -/

/-- Mark sequences for NAK; none is marked again while it remains missing (R293). -/
def markNak (p : Nat) (qs : List Nat) (s : State) : State :=
  modLnk p (fun l =>
    let new := qs.filter fun q => !l.marked.contains q
    { l with naks := l.naks ++ new, marked := l.marked ++ new }) s

/-- The missing sequences at distances 0 to `d` - 1 from RX_EXP. -/
def State.missing (s : State) (p d : Nat) : List Nat :=
  ((List.range d).map fun k => (s.rxExp p + k) % 1024).filter fun q => !((s.lnkOf p).held.any fun f => f.seq.toNat = q)

/-- A sequenced flit is accepted (R292). -/
def noteAccept (p : Nat) (s : State) : State :=
  modLnk p (fun l => { l with accSince := l.accSince + 1, ackTimer := true,
                              ackDue := l.ackDue || l.accSince + 1 = 32 }) s

/-- RX_EXP moves past `seq`; it is no longer missing. -/
def advanceRx (p seq : Nat) (s : State) : State :=
  let s := s.setFld (LNK_SEQ p) 16 10 ((seq + 1) % 1024)
  modLnk p (fun l => { l with naks := l.naks.filter (· ≠ seq), marked := l.marked.filter (· ≠ seq) }) s

/-- Receive a sequenced flit: whether it is delivered now, its held successors after it, or a link-down cause.
(log 140 DEDUCED) -/
def receiveSeq (p : Nat) (f : Flit) (s : State) : Nat ⊕ (Bool × State) :=
  let s := modLnk p (fun l => { l with quiet := false }) s
  let q := f.seq.toNat
  let d := seqDist q (s.rxExp p)
  if !(s.lnkOf p).initSent then .inl 7
  else if d = 0 then
    if s.poolFull p f.vc then .inl 6
    else .inr (true, advanceRx p q (noteAccept p s))
  else if d ≤ 511 then
    if s.goBack p then .inr (false, markNak p [s.rxExp p] s)
    else if (s.lnkOf p).held.any fun g => g.seq = f.seq then .inr (false, s)
    else if s.poolFull p f.vc then .inl 6
    else
      let s := modLnk p (fun l => { l with held := l.held ++ [f], naks := l.naks.filter (· ≠ q),
                                           marked := l.marked.filter (· ≠ q) }) (noteAccept p s)
      .inr (false, markNak p (s.missing p d) s)
  else .inr (false, modLnk p (fun l => { l with ackDue := true }) s)

/-- Receive a null flit; a link-down cause, or the state after it. -/
def receiveNull (p : Nat) (f : Flit) (s : State) : Nat ⊕ State :=
  let d := seqDist f.seq.toNat (s.rxExp p)
  if d = 0 then .inr s
  else if d ≤ 512 then .inr (markNak p (if s.goBack p then [s.rxExp p] else s.missing p d) s)
  else .inl 7

/-- Flits arrive: the link layer is in INIT or UP and the receiver is locked. -/
def State.receives (s : State) (p : Nat) : Bool := s.lnkState p ≠ lnDown && s.locked p

/-- The window of R309. -/
def winSize : Nat := 0x100000

/-- Count a received flit in the window; `bad`: 1 decoded but bad, 2 uncorrectable. (log 139 DEDUCED) -/
def countFlit (p bad : Nat) (s : State) : State :=
  let s := modLnk p (fun l =>
    let n := l.flits
    { l with flits := n + 1,
             badCrc := (l.badCrc ++ if bad = 1 then [n] else []).filter fun i => n < i + winSize,
             badUnc := (l.badUnc ++ if bad = 2 then [n] else []).filter fun i => n < i + winSize }) s
  s.setFlds (LNK_WIN p) [(0, 4, min 15 (s.lnkOf p).badCrc.length), (8, 5, min 31 (s.lnkOf p).badUnc.length)]

/-- NULL_FLIT_RECEIVED (R278, R291): the elastic buffer deletes the flit where it is filled above half; a local null
flit that it inserts below a quarter is discarded unread. (log 131 DESIGN CHOICE) -/
def execNullFlitReceived (p : Port) (f : Flit) (corrected : Bool) (fill : ElasticFill) (s : State) :
    Host.Outcome State Fault Refusal :=
  if !s.receives p then finish s
  else
    let s := modPhy p (fun y => { y with fill := fill }) (noteCorrected p corrected s)
    if fill = .aboveHalf then finish s
    else match takeAck p f (countFlit p 0 s) with
      | (some c, t) => finish (linkDown p c t)
      | (none, t) => match receiveNull p f t with
        | .inl c => finish (linkDown p c t)
        | .inr t => finish (linkUpCheck p t)

/-- BAD_FLIT_RECEIVED (R276, R290, R309): every codeword of a locked receiver counts in the PHY; the window counts those
that the link layer takes. -/
def execBadFlitReceived (p : Port) (decoded corrected : Bool) (s : State) : Host.Outcome State Fault Refusal :=
  let t := if !s.locked p then s else if decoded then noteCorrected p corrected s else s.bump (PHY_UNCORR p) 0 32 1
  if !s.receives p then finish t
  else if decoded then
    let s := countFlit p 1 t
    finish (if 9 ≤ (s.lnkOf p).badCrc.length then linkDown p 1 s else s)
  else
    let s := countFlit p 2 t
    finish (if 16 ≤ (s.lnkOf p).badUnc.length then linkDown p 2 s else s)

/-! ### Sending (R295, R297, R292, R293) -/

/-- The ack and credit field of the next flit, and the port after sending it. (log 145 DESIGN CHOICE) -/
def buildAck (p : Nat) (s : State) : AckField × State :=
  let l := s.lnkOf p
  let init := s.lnkState p = lnInit
  let snap := init || l.sinceSnap = 255
  let last := seqDist (s.rxExp p) 1
  let nak := l.naks.foldl (fun m q => match m with
    | none => some q
    | some k => if seqDist q (s.rxExp p) < seqDist k (s.rxExp p) then some q else some k) none
  let f : AckField :=
    { ackSeq := if l.ackDue then BitVec.ofNat 10 last else 0, ackV := l.ackDue,
      nakSeq := BitVec.ofNat 10 (nak.getD 0), nakV := nak.isSome, snap := snap, init := init,
      credReq := BitVec.ofNat 12 (if snap then l.rcntReq else l.newReq),
      credRsp := BitVec.ofNat 12 (if snap then l.rcntRsp else l.newRsp) }
  let s := modLnk p (fun l => { l with
    ackDue := false, ackTimer := l.ackTimer && !l.ackDue, accSince := if l.ackDue then 0 else l.accSince,
    ackedTo := if l.ackDue then last else l.ackedTo, naks := l.naks.filter fun q => some q ≠ nak,
    newReq := 0, newRsp := 0, sinceSnap := if snap then 0 else l.sinceSnap + 1, initSent := l.initSent || init }) s
  (f, if nak.isSome then s.bump (LNK_NAK p) 0 16 1 else s)

/-- A null flit. (log 145 DESIGN CHOICE) -/
def State.nullFlit (s : State) (p : Nat) : Flit :=
  { type := 0, vc := false, tenant := 0, seq := BitVec.ofNat 10 (s.txNext p), initDone := (s.lnkOf p).peerInit,
    ack := ⟨0, false, 0, false, false, false, 0, 0⟩, payload := [] }

/-- A packet as a flit. -/
def packetFlit (k : Packet) (seq : Nat) (done : Bool) : Flit :=
  { type := k.type, vc := k.vc, tenant := k.tenant, seq := BitVec.ofNat 10 seq, initDone := done,
    ack := ⟨0, false, 0, false, false, false, 0, 0⟩, payload := k.payload }

/-- First transmission of a packet: a sequence number, a replay entry, SENT_v, the start of the credit timer where no
slot was out (R299); the completion with LAST frees its tag. (log 141 DEDUCED) -/
def firstSend (p : Nat) (k : Packet) (s : State) : State :=
  let q := s.txNext p
  let s := s.setFld (LNK_SEQ p) 0 10 ((q + 1) % 1024)
  let s := modLnk p (fun l => { (l.setSent k.vc ((l.sent k.vc + 1) % 4096)) with
    replay := l.replay ++ [{ seq := q, pkt := { k with tag := none } }], seqSent := true,
    alive := l.alive && l.outV false + l.outV true != 0 }) s
  match k.tag with
  | some t => if k.last then { s with txn := { s.txn with tags := tdel s.txn.tags t } } else s
  | none => s

/-- The message interrupt of tenant `t` (Table 15-2). -/
def State.msgPacket (s : State) (t : Nat) : Packet :=
  { type := 4, vc := false, tenant := Fin.ofNat 16 t,
    payload := leBytes 4 (s.reg (INT_MSG_ADDR t)).toNat ++ leBytes 4 (s.reg (INT_MSG_DATA t)).toNat, tag := none,
    last := false }

/-- The port on which the MSG of tenant `t` goes: the lowest-numbered one of its PORT_MASK that is UP (R326). -/
def State.msgPort (s : State) (t : Nat) : Option Nat :=
  [0, 1].find? fun p => s.lnkState p = lnUp && (s.tenantRec t).any fun r => bit r.portMask p

/-- A MSG of tenant `t` has been sent and is not acknowledged. (log 155 DEDUCED) -/
def State.msgInFlight (s : State) (t : Nat) : Bool :=
  s.lnk.any fun e => e.2.replay.any fun k => k.pkt.isMsg && k.pkt.tenant.val = t

/-- Queue the waiting MSGs that go on port `p`; one whose tenant has a MSG in flight waits for that (R326).
(log 155 DEDUCED) -/
def queueMsgs (p : Nat) (s : State) : State :=
  let (go, stay) := s.txn.msgWait.partition fun t => s.msgPort t = some p ∧ !s.msgInFlight t
  modLnk p (fun l => { l with qReq := l.qReq ++ go.map s.msgPacket })
    { s with txn := { s.txn with msgWait := stay } }

/-- The flit that the device sends next on an UP link, less its ack and credit field, and the port after it (R295). -/
def nextFlit (p : Nat) (s : State) : Flit × State :=
  let l := s.lnkOf p
  let done := l.peerInit
  match l.retx.filterMap fun q => l.replay.find? fun e => e.seq = q with
  | e :: _ =>
    (packetFlit e.pkt e.seq done,
      (modLnk p (fun l => { l with retx := l.retx.filter (· ≠ e.seq) }) s).bump (LNK_RETX p) 0 32 1)
  | [] =>
    let room := l.replay.length < 512
    match l.qRsp, l.qReq with
    | k :: ks, qs =>
      if room ∧ l.maySend (s.poolMin p) true then
        (packetFlit k (s.txNext p) done, firstSend p k (modLnk p (fun l => { l with qRsp := ks }) s))
      else match qs with
        | k' :: ks' =>
          if room ∧ l.maySend (s.poolMin p) false then
            (packetFlit k' (s.txNext p) done, firstSend p k' (modLnk p (fun l => { l with qReq := ks' }) s))
          else (s.nullFlit p, s)
        | [] => (s.nullFlit p, s)
    | [], k' :: ks' =>
      if room ∧ l.maySend (s.poolMin p) false then
        (packetFlit k' (s.txNext p) done, firstSend p k' (modLnk p (fun l => { l with qReq := ks' }) s))
      else (s.nullFlit p, s)
    | [], [] => (s.nullFlit p, s)

/-- Put 160 bytes on the lanes of port `p` (13, Coding path). (log 131 DESIGN CHOICE) -/
def putLine (p : Nat) (data : List Byte) (s : State) : State :=
  modPhy p (transmit (s.portLanes p) (s.fld (PHY_CTRL p) 8 4) (s.flag (PHY_CTRL p) 12) data) s

/-- A training codeword is sent; in EXCHANGE those with SEEN 1 count, and the marker that follows a complete exchange is
a data marker (Table 13-4). On the way to electrical idle the records carry FLAGS.IDLE, and the last marker ends them
(R284). (log 131 DESIGN CHOICE, 133 DEDUCED, 136 DEDUCED) -/
def sendRecord (p : Nat) (s : State) : State :=
  let y := s.phyOf p
  let seen := 2 ≤ y.recvValid
  let mark := y.codewords + 1 == 64
  let s := if s.phyState p = phExchange ∧ seen then modPhy p (fun y => { y with sentSeen := y.sentSeen + 1 }) s else s
  let ends := mark && s.exchanged p
  let s := if ends then modPhy p (fun y => { y with training := false }) s else s
  let s := putLine p
    (trainingBytes (kindSent p) (s.portLanes p) (s.portRate p) seen y.idleMarks.isSome s.otp.force.devid) s
  if ends then exchangeEnd p s
  else match y.idleMarks, mark with
    | some 1, true => electricalIdle p s
    | some n, true => modPhy p (fun y => { y with idleMarks := some (n - 1) }) s
    | _, _ => s

/-- A request of the port that was delivered before the link left UP still owes its completion (R331).
(log 153 DEDUCED) -/
def State.owes (s : State) (p : Nat) : Bool :=
  (s.sto.heldWrites ++ s.sto.heldReads).any fun d => d.port.val = p && d.again && !d.gone

/-- Completions that waited behind such a one are queued once none is owed any more. (log 153 DEDUCED) -/
def lateRelease (p : Nat) (s : State) : State :=
  if s.owes p then s else modLnk p (fun l => { l with qRsp := l.qRsp ++ l.qLate, qLate := [] }) s

/-- FLIT_SEND (R278, R295, R312): what the port sends in one codeword; at least every 1,024th one is a null flit.
(log 131 DESIGN CHOICE) -/
def execFlitSend (p : Port) (s : State) : Host.Outcome State Fault Refusal :=
  let y := s.phyOf p
  if y.elecIdle ∨ s.phyState p = phDisabled then finish s
  else if y.training then finish (sendRecord p s)
  else if s.lnkState p = lnDown then finish s
  else
    let (f, s) := if s.lnkState p = lnInit ∨ 1023 ≤ (s.lnkOf p).sinceNull then (s.nullFlit p, s) else nextFlit p (queueMsgs p (lateRelease p s))
    let (a, s) := buildAck p s
    let f := { f with ack := a }
    finish (linkUpCheck p (putLine p (flitBytes f) (modLnk p (fun l => { l with
      tx := some f, sinceNull := if f.payload.isEmpty then 0 else l.sinceNull + 1 }) s)))

/-! ### Timers (R292, R294, R299, R304, R306) -/

/-- ACK_TIMER_EXPIRY. -/
def execAckTimerExpiry (p : Port) (s : State) : Host.Outcome State Fault Refusal :=
  finish (if (s.lnkOf p).ackTimer then modLnk p (fun l => { l with ackDue := true }) s else s)

/-- REPLAY_TIMER_EXPIRY. (log 142 DEDUCED) -/
def execReplayTimerExpiry (p : Port) (s : State) : Host.Outcome State Fault Refusal :=
  let l := s.lnkOf p
  if l.replay.isEmpty then finish s
  else
    let n := if s.locked p then l.expiries + 1 else l.expiries
    if 8 ≤ n then finish (linkDown p 3 s)
    else finish ((modLnk p (fun l => { l with expiries := n, retx := l.replay.map (·.seq) }) s).bump (LNK_REPLAY p) 16 16 1)

/-- CREDIT_TIMEOUT. (log 141 DEDUCED, 142 DEDUCED) -/
def execCreditTimeout (p : Port) (s : State) : Host.Outcome State Fault Refusal :=
  let l := s.lnkOf p
  if s.lnkState p = lnDown ∨ !s.locked p ∨ l.outV false + l.outV true = 0 then finish s
  else if !l.alive then finish s
  else if s.tolerant p then finish (s.raise (LNK_STAT p) 5)
  else finish (linkDown p 4 s)

/-- The conditions of an idle point (R302). (log 143 DEDUCED) -/
def State.idlePoint (s : State) (p : Nat) : Bool :=
  let l := s.lnkOf p
  l.replay.isEmpty && l.held.isEmpty && l.ackedTo == seqDist (s.rxExp p) 1 && l.quiet

/-! ### Register commands -/

/-- Zero the link-layer counters. -/
def lnkClear (p : Nat) (s : State) : State :=
  ((((s.setFld (LNK_REPLAY p) 16 16 0).setReg (LNK_NAK p) 0).setReg (LNK_RETX p) 0).setReg (LNK_SNAP p) 0).setReg
    (LNK_DOWNS p) 0

/-- A write of LNK_CTRL (R302, R308). -/
def wrLnkCtrl (p : Nat) (_who : Nat) (w : Word) (s : State) : State :=
  let s := if bit w.toNat 1 then lnkClear p s else s
  if bit w.toNat 0 then s.raise (LNK_STAT p) 4 else s

/-- SCHEDULE_RETRAIN (R302). -/
def execScheduleRetrain (t : Requester) (p : Port) (w : Word) (s : State) : Host.Outcome State Fault Refusal :=
  finish (regCmd t (LNK_CTRL p) w (wrLnkCtrl p) s)

/-- LINK_COUNTER_CLEAR (R309). -/
def execLinkCounterClear (t : Requester) (p : Port) (w : Word) (s : State) : Host.Outcome State Fault Refusal :=
  finish (regCmd t (LNK_CTRL p) w (wrLnkCtrl p) s)

/-! ### Trainings -/

/-- LOCK_ACQUIRED (R275, R283): the newest four marker periods satisfy the lock conditions; EXCHANGE on training
markers, else ACTIVE. -/
def execLockAcquired (p : Port) (training : Bool) (periods : List LockPeriod) (s : State) :
    Host.Outcome State Fault Refusal :=
  if s.phyState p ≠ phVerify ∨ !lockTest periods then finish s
  else
    let s := modPhy p (fun y => { y with misses := 0 }) s
    if training then
      let s := if (s.phyOf p).training then s
        else modPhy p (fun y => { y with training := true, recvValid := 0, recvSeen := 0, sentSeen := 0 }) s
      finish (enterExchange p s)
    else finish (setPhyState p phActive (modPhy p (fun y => { y with retrain := false }) s))

/-- PEER_TRAINING (R283). -/
def execPeerTraining (p : Port) (s : State) : Host.Outcome State Fault Refusal :=
  finish (if s.phyState p = phActive then
    enterExchange p (modPhy p (fun y => { y with training := true, recvValid := 0, recvSeen := 0, sentSeen := 0 }) s)
    else s)

/-- TRAINING_RECORD (R275, R284): only a valid record is read; LANES, RATE and KIND are compared first; with FLAGS.IDLE
the port goes to IDLE. (log 132 DEDUCED, 136 DEDUCED) -/
def execTrainingRecord (p : Port) (bytes : List Byte) (corrected : Bool) (s : State) : Host.Outcome State Fault Refusal :=
  let s := if s.locked p then noteCorrected p corrected s else s
  if s.phyState p ≠ phExchange ∨ !trainingValid bytes then finish s
  else
    let s := if 2 ≤ p.val then
        (s.setReg (PHY_PEER_LO p) (BitVec.ofNat 32 (recField bytes 0x10 4))).setReg (PHY_PEER_HI p)
          (BitVec.ofNat 32 (recField bytes 0x14 4))
      else s
    if recField bytes 5 1 ≠ s.portLanes p ∨ recField bytes 6 1 ≠ s.portRate p then finish (phyFail p 3 s)
    else if recField bytes 4 1 ≠ kindExpected p then finish (phyFail p 4 s)
    else if bit (recField bytes 7 1) 1 then finish (electricalIdle p s)
    else
      let seen := bit (recField bytes 7 1) 0
      finish (modPhy p (fun y => { y with recvValid := y.recvValid + 1, recvSeen := y.recvSeen + b2n seen }) s)

end Sys2Proof.Machine
end

