-- ==== Sys2Proof/Machine/Ladder.lean ====
section
/-! DEFINITION. The power ladder (09): votes and target, refusal and hold of a descent, the entry sequences of Table 9-3,
their cancellation, the wake sources of Table 9-2 and the exits of Table 9-4. -/

namespace Sys2Proof.Machine

/-! ### Votes and target (R175, R176, R448) -/

/-- The votes of the voting tenants; 7 is a withdrawn vote. -/
def State.votes (s : State) : List Nat :=
  (((List.range 16).filter s.voter).map fun t => tget 0 s.pwr.votes t).filter (· ≠ 7)

/-- LOCAL: the own target with the flock floor left out. (log 96 DEDUCED) -/
def State.ownTarget (s : State) : Nat :=
  if s.votes.isEmpty && s.flock.isNone then 0 else s.votes.foldl min (s.fld PWR_DEEPEST 0 3)

/-- The flock floor: the smallest LOCAL of every JOINED member. -/
def State.flockFloor (s : State) : Nat := (s.peers.map fun r => (s.member r).local_).foldl min s.ownTarget

/-- The target; without a flock and without a voting tenant it is P0. (log 96 DEDUCED) -/
def State.targetNow (s : State) : Nat :=
  if s.joined then s.flockFloor else if s.votes.isEmpty then 0 else s.ownTarget

/-! ### Ports and buses at entry and exit (R284, R307, R415) -/

/-- Ports that are up now: ILV0, ILV1 trained, FRD0, FRD1 with their link UP. -/
def State.portsUp (s : State) : BitVec 4 :=
  BitVec.ofNat 4 (ofPositions ((List.range 4).filter fun p =>
    if p < 2 then s.phyState p = phActive else s.lnkState p = lnUp))

/-- A port may enter electrical idle: its link is down, or it is at an idle point (R307); a Fyrd port has sent what
waits, the STATE of this entry with it (R448). (log 98 DEDUCED) -/
def State.mayIdle (s : State) (p : Nat) : Bool :=
  s.lnkState p = lnDown || (s.idlePoint p && (p < 2 || s.lnkState p ≠ lnUp || (s.lnkOf p).qReq.isEmpty))

/-- The enabled ports that may do so leave for electrical idle (R284). (log 98 DEDUCED) -/
def idlePorts (s : State) : State :=
  forEach ((List.range 4).filter fun p => s.portEnabled p && s.mayIdle p) startIdle s

/-- Every enabled port is in electrical idle. (log 98 DEDUCED) -/
def State.portsIdle (s : State) : Bool := (List.range 4).all fun p => !s.portEnabled p || (s.phyOf p).elecIdle

/-- Every enabled port in IDLE or on its way there trains, and the CAN controllers come back to their buses.
(log 98 DEDUCED) -/
def portsBack (s : State) : State :=
  canResume (forEach ((List.range 4).filter fun p => s.portEnabled p &&
    (s.phyState p = phIdle || (s.phyOf p).idleMarks.isSome)) phyTrain s)

/-- Before P2 or deeper: STATE with DESCENDING to the flock, and the CAN controllers leave their buses. -/
def leaveBuses (s : State) : State :=
  let s := if s.joined then sendState true s else s
  canRelease 1 (canRelease 0 s)

/-! ### Refusal and hold (R185, R187) -/

/-- A descent to `t` is held. -/
def State.descentHeld (s : State) (t : Nat) : Bool :=
  (2 ≤ t && s.otp.prog.isSome) || (3 ≤ t && s.upd.op != .none) || s.stoState = 2

/-- EVTn is enabled as a wake source (R237). -/
def State.evtWakes (s : State) (n : Nat) : Bool := s.fld (EVT_CFG n) 0 2 ≠ 0 && s.flag (EVT_CFG n) 2

/-- CAN activity on controller `c` may wake from state `t` (R420); in P5 its detector keeps CANCTL FLAGS bit 2. -/
def State.canWakes (s : State) (c t : Nat) : Bool :=
  (if 5 ≤ s.ladder then s.pwr.canDetect.getLsbD c else s.canFlag c 2) &&
    (t ≤ 4 || (t = 5 && s.flag PWR_WAKE_EN (5 + c)))

/-- A wake source other than RST_N is enabled for P5 or P6 (Table 9-2). -/
def State.anyWake (s : State) (t : Nat) : Bool :=
  ((List.range 4).any fun n => s.evtWakes n && s.flag PWR_WAKE_EN n) || s.flag PWR_WAKE_EN 4 || s.flag PWR_WAKE_EN 7 ||
    (t = 5 && (s.canWakes 0 5 || s.canWakes 1 5))

/-- The first check of Table 9-5 that fails; 0 where none does. -/
def State.refuseCode (s : State) (t vhold : Nat) : Nat :=
  if 5 ≤ t ∧ !s.anyWake t then 1
  else if t ≤ 4 ∧ !s.activeChannels.isEmpty then 2
  else if s.reserveLow then 3
  else if 6 ≤ t then 0
  else [0, 4, 5, 6].getD (s.admission (t ≠ 3) vhold) 0

/-- A new VHOLD_SNS code outside a store. (log 69 DESIGN CHOICE) -/
def noteVhold (vhold : Nat) (s : State) : State :=
  (s.setFld STO_SNS 0 10 vhold).setFld STO_EST 0 24 (min (s.energyOf vhold / 32000000000) 0xFFFFFF)

/-- The newest VHOLD_SNS code. (log 204 DESIGN CHOICE) -/
def State.vholdNow (s : State) : Nat := s.fld STO_SNS 0 10

/-- A refusal ends: REFUSE 0. (log 94 DEDUCED) -/
def refusalEnd (s : State) : State := { s with pwr := { s.pwr with refused := none } }.setFld PWR_STAT 12 4 0

/-- A descent is refused. (log 94 DEDUCED) -/
def refuse (t code : Nat) (s : State) : State :=
  ({ s with pwr := { s.pwr with refused := some t } }.setFld PWR_STAT 12 4 code).raise PWR_STAT 16

/-! ### Entries and exits -/

/-- An exit sequence starts (Table 9-4, P1 to P4). (log 29 DEDUCED, 97 DEDUCED) -/
def exitStart (s : State) : State :=
  { s with pwr := { s.pwr with exiting := some s.ladder, dozeHeld := false } }.raise PWR_STAT 9

/-- An entry sequence starts at step `st`. -/
def entryStart (t : Nat) (st : EntryStep) (s : State) : State :=
  { s with pwr := { s.pwr with entry := some (t, st), committed := false, lateWake := none, dozeHeld := false,
                               upAtEntry := if s.ladder = 0 then s.portsUp else s.pwr.upAtEntry } }.raise PWR_STAT 8

/-- The entry into P3 or deeper starts: the ports close to new requests (Table 9-3). -/
def descend (t : Nat) (s : State) : State :=
  let s := entryStart t .drain (refusalEnd s)
  leaveBuses { s with pwr := { s.pwr with portsClosed := true } }

/-- The entry into P2 starts from P1. -/
def doze (s : State) : State := idlePorts (leaveBuses (entryStart 2 .last s))

/-- The device stands where a descent may start: serving, no entry, no exit, no power-loss flow.
(log 105 DESIGN CHOICE) -/
def State.mayDescend (s : State) : Bool :=
  s.ctl.phase = .run && s.pwr.entry.isNone && s.pwr.exiting.isNone && !s.supplyAway && s.ladder ≤ 2

/-- Try the descent to `t`, P3 or deeper (R178, R185, R187); from P1 or P2 the exit comes first.
(log 104 DESIGN CHOICE, 105 DESIGN CHOICE) -/
def tryDescent (t vhold : Nat) (s : State) : State :=
  if !s.mayDescend ∨ t < 3 then s
  else if s.descentHeld t then s.raise PWR_STAT 10
  else
    let s := s.lower PWR_STAT 10
    let code := s.refuseCode t vhold
    if code ≠ 0 then refuse t code s
    else if s.ladder = 0 then descend t s
    else exitStart (refusalEnd s)

/-- PWR_WAKE_SRC takes a wake; a wake from P3 or deeper resets every vote (R182). -/
def wakeRecord (src : Nat) (s : State) : State :=
  let n := s.ladder
  let s := (s.setFlds PWR_WAKE_SRC [(0, 4, src), (4, 3, n)]).bump PWR_WAKE_SRC 8 16 1
  if 3 ≤ n then { s with pwr := { s.pwr with votes := [] } } else s

/-- PMIC_ON rises: the wake request (R28). The core starts from its reset values; a P5 wake starts the door flow at
its tick (R40, R237). -/
def powerUp (src tick : Nat) (s : State) : State :=
  let n := s.ladder
  let after := s.ctl.warmAfterExit
  let abort := s.flag SYS_DOOR_STAT 3
  let s := (clearCold s).putFlag SYS_DOOR_STAT 3 abort
  let s := { s with pwr := { s.pwr with exiting := some n } }
  let s := { s with ctl := { s.ctl with pmicOn := true, porHigh := false, railsOk := false, monitorsArmed := false,
                                        warmAfterExit := after } }
  if n = 5 then
    let s := { s with door := { DoorSt.reset with counting := true, ticks := s.rtc.raw - tick } }
    s.setFlds SYS_DOOR_STAT [(0, 1, 1), (4, 4, src)]
  else s

/-- A wake of the resting state (R182) by a source that came in raw tick `tick`, the wake tick (R237). -/
def exitBy (src tick : Nat) (s : State) : State :=
  let s := wakeRecord src s
  let s := if 5 ≤ s.ladder then powerUp src tick s else exitStart s
  { s with pwr := { s.pwr with wakeTick := some tick } }

/-- Raw tick `k` is the present BK32 tick; no two moments share a tick while BK32 stands. -/
def State.tickIs (s : State) (k : Nat) : Bool := k = s.rtc.raw && !s.rtc.stopped

/-- The waiting wake source once `src` has come too: the first one, and of one tick the lowest code (R246).
(log 95 DEDUCED) -/
def State.lateWith (s : State) (src : Nat) : Nat × Nat :=
  match s.pwr.lateWake with
  | none => (src, s.rtc.raw)
  | some (a, k) => (if s.tickIs k then min a src else a, k)

/-- An entry before its commit point is cancelled (R188); from P1 the exit follows. Where a wake ends an entry into P1
with a target that has deepened to P3 or more meanwhile, the descent to that starts (R178). (log 95 DEDUCED) -/
def cancelEntry (src : Nat) (s : State) : State :=
  let (src, tick) := s.lateWith src
  let deep : Nat := (s.pwr.entry.map Prod.fst).getD 0
  let s := { s with pwr := { s.pwr with entry := none, lateWake := none, portsClosed := false } }
  let s := (s.lower PWR_STAT 8).raise PWR_STAT 17
  let s := if 2 ≤ deep then portsBack s else s
  if s.ladder ≠ 0 then exitBy src tick s
  else warmAfter (if deep = 1 ∧ s.pwr.refused ≠ some s.targetNow then tryDescent s.targetNow s.vholdNow s else s)

/-- Source `src` may wake from state `n` (Table 9-2); the conditions of a CAN controller are tested by its caller. -/
def State.wakeAllowed (s : State) (src n : Nat) : Bool :=
  if src < 4 then s.evtWakes src && (n ≤ 4 || s.flag PWR_WAKE_EN src)
  else if src = 4 ∨ src = 7 then n ≤ 4 || s.flag PWR_WAKE_EN src
  else if src = 5 then n ≤ 5
  else if src = 6 then 3 ≤ n
  else if src < 12 then n ≤ 4 && s.pwr.upAtEntry.getLsbD (src - 8)
  else n ≤ 4

/-- A further source of the tick in which a wake was recorded (R246): the lowest code is recorded. (log 95 DEDUCED) -/
def joinWake (src : Nat) (s : State) : State :=
  if s.pwr.wakeTick.any s.tickIs && s.wakeAllowed src (s.fld PWR_WAKE_SRC 4 3) && src < s.fld PWR_WAKE_SRC 0 4 then
    let s := s.setFld PWR_WAKE_SRC 0 4 src
    if s.door.counting then s.setFld SYS_DOOR_STAT 4 4 src else s
  else s

/-- A source whose tick counts: EVT0 to EVT3 and the countdown are captured by BK32 (R189). -/
def State.tickSource (s : State) (src : Nat) : Bool := src ≤ 4 && !s.rtc.stopped

/-- A wake source arrives: it cancels an entry before the commit point, ends the resting state, or waits for the end of
a committed entry or of a store (R182, R188, R191). One that BK32 captures waits for the end of its tick, in which the
commit point may fall too (R189). A rise of the target counts during any entry. (log 95 DEDUCED) -/
def wake (src : Nat) (s : State) : State :=
  match s.pwr.entry with
  | some (t, st) =>
    if !(s.wakeAllowed src t || (src = 12 && !s.pwr.committed)) then s
    else if s.pwr.committed ∨ st = .store ∨ s.tickSource src then
      { s with pwr := { s.pwr with lateWake := some (s.lateWith src) } }
    else cancelEntry src s
  | none =>
    if s.pwr.exiting.isSome then joinWake src s
    else if s.ladder = 0 ∨ (s.ctl.phase ≠ .run ∧ s.ctl.phase ≠ .off) then s
    else if s.wakeAllowed src s.ladder then exitBy src s.rtc.raw s
    else s

/-- The tick of a wake source that waits has ended without a commit point: the entry is cancelled (R188, R189).
(log 3 DESIGN CHOICE, 95 DEDUCED) -/
def lateCancel (s : State) : State :=
  match s.pwr.entry, s.pwr.lateWake with
  | some (_, st), some (src, k) =>
    if s.pwr.committed ∨ st = .store ∨ s.tickIs k then s else cancelEntry src s
  | _, _ => s

/-- The state the device is in or is entering. -/
def State.headedFor (s : State) : Nat := (s.pwr.entry.map (·.1)).getD s.ladder

/-- The target is computed and acted on (R175, R178, R186, R191, R460). `again`: a descent may start although the target
has not changed. (log 94 DEDUCED, 96 DEDUCED) -/
def retarget (again : Bool) (vhold : Nat) (s : State) : State :=
  let old := s.fld PWR_STAT 4 3
  let t := s.targetNow
  let s := s.setFld PWR_STAT 4 3 t
  let s := if s.flock.isSome then
      s.setFlds FLK_FLOOR [(0, 3, if s.joined then s.flockFloor else 0), (4, 3, s.ownTarget)]
    else s
  let s := if s.joined ∧ s.flk.lastState ≠ s.stateKey then notice s else s
  let s := if t < s.headedFor then wake 12 s else s
  if t < 3 then
    let s := if s.pwr.refused.isSome then refusalEnd s else s
    if s.ladder = 1 ∧ t = 2 then s else s.lower PWR_STAT 10
  else if again ∨ t ≠ old then tryDescent t vhold s
  else s

/-- The record of P5 passes the commit point: holder, then black insertion (Table 9-3). -/
def entryBlack (s : State) : State :=
  downTrigger 4 { s with pwr := { s.pwr with entry := s.pwr.entry.map fun e => (e.1, .black) } }

/-- The entry store has ended: a wake that came before the commit point cancels now (R188), but for one captured in this
tick, in which the commit point may fall too (R189); P5 is recorded (R184). An entry whose store has ended without a
commit goes on in the same way. (log 79 DESIGN CHOICE, 95 DEDUCED) -/
def entryStored (s : State) : State :=
  match s.pwr.entry with
  | some (t, .store) =>
    match s.pwr.lateWake.filter fun p => !(s.tickSource p.1 && s.tickIs p.2) with
    | some (src, _) => cancelEntry src s
    | none =>
      if t = 5 then
        entryBlack { s.setFld PWR_HOLD 0 3 5 with pwr := { s.pwr with committed := true } }
      else { s with pwr := { s.pwr with entry := some (t, .last) } }
  | _ => s

/-- A trip ends an entry without a further step; the ports open again (R190). -/
def entryTrip (s : State) : State :=
  { s with pwr := { s.pwr with entry := none, lateWake := none, committed := false, portsClosed := s.ladder = 3 } }.lower
    PWR_STAT 8

/-- The device is in P0 Run: the holder records it, and the target is computed again (R175, R184). -/
def reachRun (s : State) : State :=
  let s := ((s.setFld PWR_STAT 0 3 0).lower PWR_STAT 9).setFld PWR_HOLD 0 3 0
  let s := { s with pwr := { s.pwr with exiting := none, portsClosed := false }, ctl := { s.ctl with gated := 0 } }
  retarget true s.vholdNow s

/-! ### Commands -/

/-- The idle conditions of R177 that the state shows. -/
def State.idle (s : State) : Bool :=
  s.mayDescend && s.activeChannels.isEmpty && s.txn.tags.isEmpty && s.stoState = 0

/-- A write of PWR_REQ (R176). (log 103 DEDUCED) -/
def wrPwrReq (vhold : Nat) (who : Nat) (w : Word) (s : State) : State :=
  if s.voter who then
    retarget true vhold { s with pwr := { s.pwr with votes := tset 0 s.pwr.votes who (w.toNat % 8) } }
  else { s with lastStatus := stPermission }

/-- A vote that another one of the same CORE cycle follows: recorded, and the target is computed after that one
(R191). (log 103 DEDUCED) -/
def voteFirst (who : Nat) (w : Word) (s : State) : State :=
  if s.voter who then { s with pwr := { s.pwr with votes := tset 0 s.pwr.votes who (w.toNat % 8) } }
  else { s with lastStatus := stPermission }

/-- VOTE (R176, R191). (log 103 DEDUCED) -/
def execVote (t : Requester) (w : Word) (vhold : Code) (more : Bool) (s : State) : Host.Outcome State Fault Refusal :=
  finish (regCmd t PWR_REQ w
    (if more then voteFirst else fun who w s => wrPwrReq vhold.toNat who w (noteVhold vhold.toNat s)) s)

/-- DESCENT_RELEASE (R187): a held descent proceeds once nothing holds it; an automatic entry into P2 also while a
descent to a deeper target is refused (R185). (log 100 DESIGN CHOICE) -/
def execDescentRelease (vhold : Code) (s : State) : Host.Outcome State Fault Refusal :=
  let t := s.targetNow
  let held := s.descentHeld t
  let dozes := fun (s : State) => s.pwr.dozeHeld && !s.descentHeld 2 && s.ladder = 1 && s.idle &&
    (t = 2 || (3 ≤ t && s.pwr.refused.isSome))
  if !s.flag PWR_STAT 10 ∨ (held ∧ !dozes s) then finish s
  else
    let s := noteVhold vhold.toNat (if held then s else s.lower PWR_STAT 10)
    let s := if held then s else tryDescent t vhold.toNat s
    finish (if dozes s then doze s else s)

/-- REFUSAL_RECHECK (R186). (log 100 DESIGN CHOICE) -/
def execRefusalRecheck (vhold : Code) (s : State) : Host.Outcome State Fault Refusal :=
  if s.pwr.refused.isSome then finish (tryDescent s.targetNow vhold.toNat (noteVhold vhold.toNat s)) else finish s

/-- AUTO_P1_EXPIRY (R177); 0 is never (R6). (log 100 DESIGN CHOICE) -/
def execAutoP1Expiry (s : State) : Host.Outcome State Fault Refusal :=
  if s.idle ∧ s.ladder = 0 ∧ 1 ≤ s.targetNow ∧ s.reg PWR_AUTO_P1 ≠ 0 then finish (entryStart 1 .last s) else finish s

/-- AUTO_P2_EXPIRY (R177); 0 is never (R6). (log 100 DESIGN CHOICE) -/
def execAutoP2Expiry (s : State) : Host.Outcome State Fault Refusal :=
  if s.idle ∧ s.ladder = 1 ∧ 2 ≤ s.targetNow ∧ s.reg PWR_AUTO_P2 ≠ 0 then
    finish (if s.descentHeld 2 then { s with pwr := { s.pwr with dozeHeld := true } }.raise PWR_STAT 10 else doze s)
  else finish s

/-- No sideband access waits, in its frame or after it (R264). (log 126 DEDUCED) -/
def State.sbpDrained (s : State) : Bool :=
  s.sbp.wait.isNone && s.txn.held.all fun h => match h with | .reg t _ _ => t ≠ 16 | .burst _ _ => false | _ => true

/-- Every tag has completed, no sideband access waits (R264), and every port is at an idle point (R307).
(log 98 DEDUCED) -/
def State.drained (s : State) : Bool := s.txn.tags.isEmpty && s.sbpDrained && (List.range 4).all s.mayIdle

/-- IDLE_POINT (R302, R307): port `p` has had no good sequenced flit for one ack-timer period; at an idle point a
scheduled retrain starts, and an entry into P2 sends the port to electrical idle. (log 98 DEDUCED, 143 DEDUCED) -/
def execIdlePoint (p : Port) (s : State) : Host.Outcome State Fault Refusal :=
  let s := modLnk p (fun l => { l with quiet := true }) s
  if !s.idlePoint p then finish s
  else if s.pwr.entry = some (2, .last) ∧ s.portEnabled p ∧ s.mayIdle p then finish (startIdle p s)
  else if s.phyState p ≠ phActive then finish s
  else if s.flag (LNK_STAT p) 4 then finish (phyTrain p (s.lower (LNK_STAT p) 4))
  else finish s

/-- PORTS_DRAINED (R179): the ports go to electrical idle; P6 has no store. -/
def execPortsDrained (vhold : Code) (s : State) : Host.Outcome State Fault Refusal :=
  match s.pwr.entry with
  | some (t, .drain) =>
    if s.drained then
      let s := idlePorts s
      if t = 6 then finish (entryBlack s)
      else
        finish (startStore 3 (t ≠ 3) vhold.toNat { s with pwr := { s.pwr with entry := some (t, .store) } })
    else finish s
  | _ => finish s

/-- The domains that P1 gates (Table 9-3): CORE, MEM, NVC, PIX, SER and OPT. (log 25 DESIGN CHOICE) -/
def gatedP1 : BitVec 25 := BitVec.ofNat 25 (ofPositions ([1, 2, 3, 23] ++ (List.range 8).map (· + 4)))

/-- The SYS_CLK_STAT bits of the domains that state `t` leaves running (R11, Table 9-1): P1 gates some and stops OTPC,
P2 keeps REF, NVC, ADC and SMO, P3 and P4 none. (log 24 DEDUCED) -/
def clocksKept (t : Nat) : Word :=
  if t = 1 then ~~~(gatedP1.setWidth 32 ||| 1#32 <<< 22) else if t = 2 then BitVec.ofNat 32 (ofPositions [0, 3, 18, 19]) else 0

/-- No channel is converted any more: every result keeps its code with VALID 0 (R432, R435). (log 185 DESIGN CHOICE) -/
def adcInvalid (s : State) : State := forEach (List.range 41) (fun n s => s.lower (ADC_RES n) 31) s

/-- The device rests in state `t`; P1 gates clocks, P2 runs NVC from REF again and has no CANC; below P2 no copy goes on
and nothing is converted. -/
def rest (t : Nat) (s : State) : State :=
  let s := if t ≤ 1 then s else frameOver 1 (frameOver 0 s)
  let s := if t ≤ 2 then s else adcInvalid (hkRest s)
  { ((s.setFld PWR_STAT 0 3 t).lower PWR_STAT 8).setReg SYS_CLK_STAT (s.reg SYS_CLK_STAT &&& clocksKept t) with
    pwr := { s.pwr with entry := none, lateWake := none },
    ctl := { s.ctl with gated := if t = 1 then gatedP1 else s.ctl.gated &&& ~~~(1#25 <<< 3) } }

/-- PMIC_ON falls: the device rests in P5 or P6 with nothing but its backup domain; POR_N is low from then on until the
rails are back (R183). -/
def powerDown (t : Nat) (s : State) : State :=
  let after := s.ctl.warmAfterExit
  let detect := BitVec.ofNat 2 (ofPositions ((List.range 2).filter fun c => s.canFlag c 2))
  let s := (clearCold s).setFld PWR_STAT 0 3 t
  { s with
    pwr := { s.pwr with canDetect := detect },
    ctl := { s.ctl with phase := .off, pmicOn := false, porHigh := false, railsOk := false, monitorsArmed := false,
                        warmAfterExit := after } }

/-- State `t` (P1 to P4) is reached, and left at once by a wake that waited for the commit point (R188, R189). In P1 and
P2 a target that has changed to P3 or deeper meanwhile is judged now (R178, R186). -/
def arrive (t : Nat) (s : State) : State :=
  match s.pwr.lateWake with
  | some (src, k) => exitBy src k (rest t s)
  | none => if t ≤ 2 then retarget (s.pwr.refused ≠ some s.targetNow) s.vholdNow (rest t s) else rest t s

/-- LADDER_ENTRY_DONE (R179): the last step. P3 and P4 switch working memory off, which is their commit point; P5 and P6
end once the panels are black and the shutdown order is complete. A late wake leaves the state at once (R188).
(log 102 DEDUCED) -/
def execLadderEntryDone (s : State) : Host.Outcome State Fault Refusal :=
  match s.pwr.entry with
  | some (t, .last) =>
    if t = 1 then finish (arrive 1 s)
    else if t = 2 then
      let s := idlePorts s
      if s.portsIdle then finish (arrive 2 s) else finish s
    else if !s.portsIdle then finish s
    else
      let s := resolveRestore (if t = 3 then 0x200000 else 0) false s
      finish (arrive t (s.setFld PWR_HOLD 0 3 t))
  | some (t, .black) =>
    if s.allBlack ∧ s.seqState = seqOff ∧ s.portsIdle then
      let late := s.pwr.lateWake
      let s := powerDown t (s.setFld PWR_HOLD 0 3 t)
      finish (match late with | some (src, k) => exitBy src k s | none => s)
    else finish s
  | _ => finish s

/-- An exit from P3 or deeper routes every source to T0 and arms every tenant with INT_EN 0 (R337). -/
def intReset (s : State) : State :=
  let s := forEach (List.range 16) (fun t s => s.setReg (INT_EN t) 0) (forEach (List.range 4) (fun k s => s.setReg (INT_ROUTE k) 0) s)
  { s with txn := { s.txn with armed := 0xFFFF, lastS := 0 } }

/-- LADDER_EXIT_DONE (R181): out of P1 to P4; every idle port trains (R284), and each flock peer is RESTING until its
first STATE (R463). A warm reset that waited for the exit follows (R20). (log 98 DEDUCED, 99 DEDUCED, 137 DEDUCED) -/
def execLadderExitDone (s : State) : Host.Outcome State Fault Refusal :=
  if s.supplyAway then finish s
  else match s.pwr.exiting with
  | none => finish s
  | some n =>
    if 5 ≤ n then finish s
    else
    let s := if n = 3 then startRestore 0x200000 false s else if n = 4 then startRestore 0 false s else s
    let s := if 3 ≤ n then intReset s else s
    let s := if 2 ≤ n then s.setFld FLK_MEMBERS 12 4 (ofPositions s.peers) else s
    finish (warmAfter (reachRun (portsBack s)))

/-- A write of PWR_SBP_WAKE (R258). -/
def wrSbpWake (_who : Nat) (w : Word) (s : State) : State := if bit w.toNat 0 then wake 7 s else s

/-- SBP_WAKE (R258): the sideband port reaches the register whatever the core does. -/
def execSbpWake (t : Requester) (w : Word) (s : State) : Host.Outcome State Fault Refusal :=
  if t = 16 then finish (wrSbpWake 0 w s) else finish (regCmd t PWR_SBP_WAKE w wrSbpWake s)

/-- LANE_ACTIVITY_WAKE (R284): in P0 a port in electrical idle trains. (log 137 DEDUCED) -/
def execLaneActivityWake (p : Port) (s : State) : Host.Outcome State Fault Refusal :=
  if s.portEnabled p ∧ s.phyState p = phIdle then
    finish (if s.ladder = 0 ∧ s.pwr.entry.isNone ∧ s.ctl.phase = .run then phyTrain p s else wake (8 + p) s)
  else finish s

/-- CAN activity on controller `c` as a wake source. -/
def canWake (c : Nat) (s : State) : State := if s.canWakes c s.headedFor then wake 5 s else s

/-- CAN_ACTIVITY_WAKE (R420). (log 28 DESIGN CHOICE) -/
def execCanActivityWake (c : Fin 2) (s : State) : Host.Outcome State Fault Refusal :=
  finish (if (s.ladder = 0 ∧ s.pwr.entry.isNone) ∨ (s.ctl.pmicOn ∧ !s.canHears c) then s else canWake c s)

end Sys2Proof.Machine
end

