-- ==== Sys2Proof/Machine/Rtc.lean ====
section
/-! DEFINITION. The backup domain (11) and the read-out of the supervision log (10): the time counter and its trim, time
writes, shifts, snapshots, the countdown, the event inputs, the supply of the domain, and one BK32 tick. -/

namespace Sys2Proof.Machine

/-- A register write to the backup domain: the sideband port reaches it whatever the core does (R240, R255). -/
def backupCmd (t : Requester) (a : Nat) (w : Word) (op : Nat → Word → State → State) (s : State) : State :=
  if t = 16 then (if s.rtc.por then s else op 0 w { s with lastStatus := stOk }) else regCmd t a w op s

/-! ### Time (R226, R227, R241) -/

/-- Seconds from 2000-01-01 to the end of 2199. -/
def rtcEnd : Nat := 6311433600

/-- The counter in subsecond units. -/
def RtcSt.units (r : RtcSt) : Nat := r.sec * 32768 + r.sub

/-- Put the counter. -/
def setUnits (u : Nat) (s : State) : State := { s with rtc := { s.rtc with sec := u / 32768, sub := u % 32768 } }

/-- Days from 2000-01-01 to the first day of year 2000 + y. -/
def yearStart (y : Nat) : Nat := 365 * y + (y + 3) / 4 - (if 100 < y then 1 else 0)

/-- Year 2000 + y is a leap year. -/
def leapYear (y : Nat) : Bool := y % 4 = 0 && y ≠ 100

/-- Days in month m (1 to 12) of year 2000 + y. -/
def monthDays (y m : Nat) : Nat :=
  if m = 2 then (if leapYear y then 29 else 28) else if m = 4 ∨ m = 6 ∨ m = 9 ∨ m = 11 then 30 else 31

/-- Days from the first of January to the first of month m. -/
def monthStart (y m : Nat) : Nat := ((List.range (m - 1)).map fun k => monthDays y (k + 1)).sum

/-- The year (from 2000) of a day count. -/
def yearOf (d : Nat) : Nat := if yearStart (d / 366 + 1) ≤ d then d / 366 + 1 else d / 366

/-- A number from 0 to 99 as two BCD digits. -/
def bcd (n : Nat) : Nat := n / 10 % 10 * 16 + n % 10

/-- RTC_CAL_TIME of a second count. -/
def calTime (sec : Nat) : Nat := bcd (sec % 60) + bcd (sec / 60 % 60) * 256 + bcd (sec / 3600 % 24) * 65536

/-- RTC_CAL_DATE of a second count; 2000-01-01 was a Saturday. -/
def calDate (sec : Nat) : Nat :=
  let d := sec / 86400
  let y := yearOf d
  let r := d - yearStart y
  let m := ((List.range 12).filter fun k => monthStart y (k + 1) ≤ r).length
  bcd (r - monthStart y m + 1) + bcd m * 2 ^ 8 + bcd (y % 100) * 2 ^ 16 + y / 100 * 2 ^ 24 + ((d + 5) % 7 + 1) * 2 ^ 28

/-- The value of two BCD digits, if they are digits. -/
def unbcd (v : Nat) : Option Nat := if v / 16 ≤ 9 ∧ v % 16 ≤ 9 then some (v / 16 * 10 + v % 16) else none

/-- The seconds of a CAL value, if it passes R228. -/
def calSeconds (lo hi : Nat) : Option Nat := do
  let sec ← unbcd (bits lo 0 8)
  let min ← unbcd (bits lo 8 8)
  let hour ← unbcd (bits lo 16 8)
  let day ← unbcd (bits hi 0 8)
  let month ← unbcd (bits hi 8 8)
  let year ← unbcd (bits hi 16 8)
  let y := bits hi 24 1 * 100 + year
  if sec ≤ 59 ∧ min ≤ 59 ∧ hour ≤ 23 ∧ 1 ≤ month ∧ month ≤ 12 ∧ 1 ≤ day ∧ day ≤ monthDays y month then
    some ((yearStart y + monthStart y month + day - 1) * 86400 + hour * 3600 + min * 60 + sec)
  else none

/-- The seconds and subseconds of a staged time, if they pass the checks of R228 in the view in force. -/
def State.stagedTime (s : State) (lo hi : Nat) : Option (Nat × Nat) :=
  if s.flag RTC_CFG 0 then (calSeconds lo hi).map fun n => (n, 0)
  else
    let n := lo + bits hi 16 1 * 2 ^ 32
    if n < rtcEnd then some (n, bits hi 0 15) else none

/-- OSF is set, and RTC_ISTAT.OSF with it, at each stop detection (R231). -/
def setOsf (s : State) : State := (s.raise RTC_STAT 0).raise RTC_ISTAT 1

/-! ### Trim (R229, R230, R242) -/

/-- Nearest integer of n / d, halves away from zero; d > 0. (log 119 DEDUCED) -/
def roundAway (n : Int) (d : Nat) : Int :=
  if 0 ≤ n then ((2 * n.natAbs + d) / (2 * d) : Nat) else -(((2 * n.natAbs + d) / (2 * d) : Nat) : Int)

/-- DIG, signed. -/
def State.dig (s : State) : Int := toSigned 10 (s.fld RTC_TRIM 0 10)

/-- e(T) in units of 10⁻⁹ ppm, from the newest sample. (log 119 DEDUCED) -/
def State.thermError (s : State) : Int :=
  let t := toSigned 12 (s.fld RTC_TRIM_STAT 16 12)
  s.otp.force.offset * 10000000 - (s.otp.force.coeff : Int) * (25 * t - s.otp.force.turnover) ^ 2

/-- N before the clamp. (log 119 DEDUCED) -/
def State.trimWanted (s : State) : Int :=
  if s.flag RTC_CFG 1 then roundAway (-1048576 * s.thermError) (10 ^ 15) + s.dig else s.dig

/-- A trim window starts (R229). (log 119 DEDUCED) -/
def trimStart (s : State) : State :=
  let want := s.trimWanted
  let n := clampInt (-511) 511 want
  let s := s.setFlds RTC_TRIM_STAT [(0, 10, ofSigned 10 n), (15, 1, b2n (s.flag RTC_CFG 1 && n != want))]
  { s with rtc := { s.rtc with trimN := n, winDue := false } }

/-- Subsecond units that the next tick adds. -/
def RtcSt.advance (r : RtcSt) : Nat :=
  if (r.win : Int) < r.trimN then 2 else if (r.win : Int) < -r.trimN then 0 else 1

/-- The next tick passes the end of R241. (log 118 DESIGN CHOICE) -/
def RtcSt.wraps (r : RtcSt) : Bool := rtcEnd * 32768 ≤ r.units + r.advance

/-- A write at raw tick `at_` takes effect by raw tick `raw`: in the first tick that begins a full BK32 period after it
(R228). (log 116 DEDUCED) -/
def dueBy (at_ raw : Nat) : Bool := at_ + 2 ≤ raw

/-- The countdown load of raw tick `raw`: the newest that takes effect by then (R238). (log 116 DEDUCED) -/
def RtcSt.cdDue (r : RtcSt) (raw : Nat) : Option (Nat × Nat) := (r.pendCd.filter fun p => dueBy p.1 raw).getLast?

/-- The countdown loads still to take effect after raw tick `raw`. -/
def RtcSt.cdAfter (r : RtcSt) (raw : Nat) : List (Nat × Nat) := r.pendCd.filter fun p => !dueBy p.1 raw

/-- The pending time is loaded; a shift that falls in the same tick is discarded (R246).
(log 10 DEDUCED, 116 DEDUCED) -/
def timeApply (s : State) : State :=
  match s.rtc.pendTime with
  | none => s
  | some (_, sec, sub) =>
    let s := if s.rtc.pendShift.isSome then s.raise RTC_STAT 5 else s
    { s with rtc := { s.rtc with sec := sec, sub := sub, pendTime := none, pendShift := none } }.setFlds RTC_STAT
      [(0, 1, 0), (7, 1, 0)]

/-- The pending shift is applied, or dropped where it would leave the range (R243). (log 116 DEDUCED) -/
def shiftApply (s : State) : State :=
  match s.rtc.pendShift with
  | none => s
  | some (_, retard, n) =>
    let u := s.rtc.units
    let s := { s with rtc := { s.rtc with pendShift := none } }.lower RTC_STAT 7
    if retard then (if n ≤ u then setUnits (u - n) s else s.raise RTC_STAT 5)
    else if u + n < rtcEnd * 32768 then setUnits (u + n) s else s.raise RTC_STAT 5

/-- The time write and the shift whose tick this is (R228, R232, R246). (log 3 DESIGN CHOICE, 116 DEDUCED) -/
def applyDue (s : State) : State :=
  if s.rtc.pendTime.any fun p => dueBy p.1 s.rtc.raw then timeApply s
  else if s.rtc.pendTime.isNone && s.rtc.pendShift.any fun p => dueBy p.1 s.rtc.raw then shiftApply s
  else s

/-- The DEBOUNCE period of the adoption after a warm reset has passed (R220). (log 3 DESIGN CHOICE, 109 DEDUCED) -/
def adoptDue (s : State) : State :=
  if s.seqState = seqOff ∧ s.seqRuns ∧ s.seq.adopt.any (· ≤ s.rtc.raw) then adoptNow s else s

/-- 1/32,768 s, one raw BK32 tick where BK32 runs: counter with trim, trim window, countdown, runtime, door time, the
writes that take effect in it; a wake of the tick before that waited for a commit point cancels its entry. (log 3 DESIGN
CHOICE, 116 DEDUCED, 118 DESIGN CHOICE) -/
def bkTick (s : State) : State :=
  let s := smoTick s
  if s.rtc.stopped || s.rtc.por then s
  else
    let s := if s.rtc.winDue then trimStart s else s
    let u := s.rtc.units + s.rtc.advance
    let s := if rtcEnd * 32768 ≤ u then (setUnits (u - rtcEnd * 32768) s).raise RTC_STAT 6 else setUnits u s
    let win := (s.rtc.win + 1) % 0x100000
    let cd := s.rtc.cdLeft.map (· - 1)
    let load := if cd = some 0 then none else (s.rtc.cdDue (s.rtc.raw + 1)).map (·.2)
    let onBk := s.flag RTC_STAT 1
    let run := if onBk then 0 else s.rtc.runRaw + 1
    let s := { s with rtc := { s.rtc with
      win := win, winDue := win = 0, raw := s.rtc.raw + 1, runRaw := run,
      cdLeft := match load with | some 0 => none | some n => some (n * 512) | none => cd,
      cdx := s.rtc.cdx && load.isNone,
      pendCd := if load.isSome then s.rtc.cdAfter (s.rtc.raw + 1) else s.rtc.pendCd } }
    let s := s.setReg RTC_RUNTIME (BitVec.ofNat 32 (min (run / 32768) 0xFFFFFFFF))
    let s := if s.door.counting then { s with door := { s.door with ticks := s.door.ticks + 1 } } else s
    adoptDue (lateCancel (applyDue s))

/-- TRIM_WINDOW_START. -/
def execTrimWindowStart (s : State) : Host.Outcome State Fault Refusal :=
  finish (if s.rtc.winDue && !s.rtc.stopped && !s.rtc.por then trimStart s else s)

/-- RTC_WRAP (R241): the tick after the last one of 2199. (log 118 DESIGN CHOICE) -/
def execRtcWrap (s : State) : Host.Outcome State Fault Refusal := finish (if s.rtc.wraps then bkTick s else s)

/-- BACKUP_TEMP_SAMPLE (R230, R424): whatever the trim mode is. -/
def execBackupTempSample (temp : BitVec 12) (s : State) : Host.Outcome State Fault Refusal :=
  finish (if !s.rtc.stopped && !s.rtc.por then s.setFld RTC_TRIM_STAT 16 12 temp.toNat else s)

/-! ### Writing the time (R228, R232, R243, R246) -/

/-- A correction by the flock's TIME is to take effect in the tick in which a write of now does (R459).
(log 195 DEDUCED) -/
def State.timedNow (s : State) : Bool :=
  s.rtc.flkTimed && (s.rtc.pendTime.any (·.1 = s.rtc.raw) || s.rtc.pendShift.any (·.1 = s.rtc.raw))

/-- A write of RTC_SET_HI with the low word `lo`; a time write whose tick a TIME's correction shares applies, and a
shift is discarded there (R459, R246). (log 120 DEDUCED, 195 DEDUCED) -/
def setHi (lo : Nat) (w : Word) (s : State) : State :=
  let s := s.setFld RTC_SET_HI 0 31 w.toNat
  if !bit w.toNat 31 || (s.flag RTC_STAT 7 && !s.timedNow) then s
  else match s.stagedTime lo (s.reg RTC_SET_HI).toNat with
    | none => s.raise RTC_STAT 4
    | some t => { s with rtc := { s.rtc with pendTime := some (s.rtc.raw, t), flkTimed := false } }.raise RTC_STAT 7

/-- A tenant's write of RTC_SET_HI. -/
def wrSetHi (_who : Nat) (w : Word) (s : State) : State := setHi (s.reg RTC_SET_LO).toNat w s

/-- TIME_WRITE (R228, R259): the sideband port stages its own low word. (log 120 DEDUCED) -/
def execTimeWrite (t : Requester) (w : Word) (s : State) : Host.Outcome State Fault Refusal :=
  finish (backupCmd t RTC_SET_HI w
    (if t = 16 then fun _ w s => setHi (s.sbp.stagedLo.getD (s.reg RTC_SET_LO)).toNat w s else wrSetHi) s)

/-- TIME_WRITE_APPLY (R228). -/
def execTimeWriteApply (s : State) : Host.Outcome State Fault Refusal :=
  finish (if s.rtc.stopped then s else timeApply s)

/-- A shift is asked for: RETARD and AMOUNT. -/
def askShift (retard : Bool) (n : Nat) (s : State) : State :=
  { s with rtc := { s.rtc with pendShift := some (s.rtc.raw, retard, n), flkTimed := false } }.raise RTC_STAT 7

/-- A write of RTC_SHIFT. GO is ignored while BUSY is 1 (R228); `together`: the write falls in the CORE cycle of the
pending GO write of RTC_SET_HI, before BUSY is 1, so that both are applied in one tick (R246).
(log 116 DEDUCED, 195 DEDUCED) -/
def wrShift (together : Bool) (_who : Nat) (w : Word) (s : State) : State :=
  let s := s.setFld RTC_SHIFT 0 16 w.toNat
  let n := s.fld RTC_SHIFT 0 15
  let busy := s.flag RTC_STAT 7 && !(together && s.rtc.pendTime.isSome && s.rtc.pendShift.isNone)
  if !bit w.toNat 31 || busy || n = 0 then s else askShift (s.flag RTC_SHIFT 15) n s

/-- SHIFT (R232, R246). -/
def execShift (t : Requester) (w : Word) (together : Bool) (s : State) : Host.Outcome State Fault Refusal :=
  finish (backupCmd t RTC_SHIFT w (wrShift together) s)

/-- SHIFT_APPLY (R232). -/
def execShiftApply (s : State) : Host.Outcome State Fault Refusal :=
  finish (if s.rtc.stopped || s.rtc.pendTime.isSome then s else shiftApply s)

/-- A write of RTC_TRIM: −512 is refused (R242). -/
def wrRtcTrim (_who : Nat) (w : Word) (s : State) : State :=
  if bits w.toNat 0 10 = 0x200 then s.raise RTC_STAT 4 else s.write RTC_TRIM w

/-! ### Snapshots (R233) -/

/-- Countdown units left: a unit that has begun counts. (log 117 DEDUCED) -/
def RtcSt.cdUnits (r : RtcSt) : Nat := ((r.cdLeft.getD 0) + 511) / 512

/-- Take a snapshot into context `k`. (log 121 DEDUCED) -/
def takeSnapshot (k : Nat) (s : State) : State :=
  modCtx k (fun c => { c with snap := some { sec := s.rtc.sec, sub := s.rtc.sub, cdNow := s.rtc.cdUnits } }) s

/-- The first data read of a sideband transaction takes its snapshot. (log 129 DEDUCED) -/
def sbpSnapshot (s : State) : State :=
  if s.sbp.snapped then s else takeSnapshot 16 { s with sbp := { s.sbp with snapped := true } }

/-- A read of RTC_SUBSEC by a tenant or the test access port (R233, R55). -/
def snapRead (t : Requester) (s : State) : State := readCmd t RTC_SUBSEC false (takeSnapshot (ctxOfReq t)) s

/-- TIME_SNAPSHOT (R233): a read of RTC_SUBSEC. -/
def execTimeSnapshot (t : Requester) (s : State) : Host.Outcome State Fault Refusal :=
  finish (if t = 16 then (if s.sbp.open_ then sbpSnapshot s else s) else snapRead t s)

/-! ### Countdown (R238, R244, R246) -/

/-- A write of RTC_CD_LOAD; a load of an earlier tick interval still starts at its own tick. (log 116 DEDUCED) -/
def wrCdLoad (_who : Nat) (w : Word) (s : State) : State :=
  let s := s.write RTC_CD_LOAD w
  { s with rtc := { s.rtc with pendCd := s.rtc.pendCd ++ [(s.rtc.raw, s.fld RTC_CD_LOAD 0 24)] } }

/-- COUNTDOWN_LOAD (R238). -/
def execCountdownLoad (t : Requester) (w : Word) (s : State) : Host.Outcome State Fault Refusal :=
  finish (backupCmd t RTC_CD_LOAD w wrCdLoad s)

/-- The countdown expires: a load due in this tick starts from it, else the reload value (R246). (log 117 DEDUCED) -/
def countdownExpire (s : State) : State :=
  let due := s.rtc.cdDue s.rtc.raw
  let n := match due with | some p => p.2 | none => s.fld RTC_CD_RELOAD 0 24
  let s := { s with rtc := { s.rtc with
    cdLeft := if n = 0 then none else some (n * 512), cdx := due.isNone, cdAt := some s.rtc.raw,
    pendCd := s.rtc.cdAfter s.rtc.raw } }
  wake 4 (s.raise RTC_ISTAT 0)

/-- COUNTDOWN_EXPIRY (R238). -/
def execCountdownExpiry (s : State) : Host.Outcome State Fault Refusal :=
  finish (if s.rtc.cdLeft = some 0 && !s.rtc.stopped then countdownExpire s else s)

/-! ### Event inputs (R234 to R237, R247) -/

/-- The wake source starts a wake now (R237): no earlier tick's source has started this one. -/
def State.wakesNow (s : State) (src : Nat) : Bool :=
  match s.pwr.entry with
  | some (t, _) => s.wakeAllowed src t && s.pwr.lateWake.all fun p => s.tickIs p.2
  | none =>
    if s.pwr.exiting.isSome then s.pwr.wakeTick.any s.tickIs && s.wakeAllowed src (s.fld PWR_WAKE_SRC 4 3)
    else s.ladder ≠ 0 && (s.ctl.phase = .run || s.ctl.phase = .off) && s.wakeAllowed src s.ladder

/-- CDX of a capture now (Table 11-1, R245): the countdown has expired since its last load, or expires in this tick, the
interval that begins at the expiry. (log 117 DEDUCED) -/
def State.cdxNow (s : State) : Bool := s.rtc.cdx || s.rtc.cdAt.any s.tickIs || (s.rtc.cdLeft = some 0 && !s.rtc.stopped)

/-- The level of EVTn has been sampled often enough for a capture (R234, R247). (log 122 DESIGN CHOICE) -/
def State.debouncedEvt (s : State) (n samples : Nat) : Bool := s.rtc.stopped || s.fld (EVT_CFG n) 16 9 < samples

/-- EVENT_CAPTURE: the new level has been sampled in DEBOUNCE + 1 consecutive ticks, or has held through the
asynchronous filter while BK32 stands (R247): the debounced level changes; where EDGE matches, an entry is queued or
dropped and the input may wake the device. (log 122 DESIGN CHOICE) -/
def execEventCapture (n : Fin 4) (level : Bool) (samples : Nat) (s : State) : Host.Outcome State Fault Refusal :=
  if s.rtc.por || s.evt.level.getLsbD n.val == level || !s.debouncedEvt n samples then finish s
  else
    let m := 1#4 <<< n.val
    let s := { s with evt := { s.evt with level := if level then s.evt.level ||| m else s.evt.level &&& ~~~m } }
    if !bit (s.fld (EVT_CFG n) 0 2) (if level then 0 else 1) then finish s
    else
      let q := s.evtOf n
      let e : EvtEntry := { id := s.evt.nextId, sec := s.rtc.sec, sub := s.rtc.sub, level := level,
                            noclk := s.rtc.stopped, osf := s.flag RTC_STAT 0 || s.rtc.stopped,
                            wake := s.wakesNow n.val, cdx := s.cdxNow }
      let s :=
        if q.length < 4 then
          setQueue n (q ++ [e]) { s with evt := { s.evt with nextId := s.evt.nextId + 1 } }
        else (s.raise EVT_STAT (4 + n)).bump EVT_DROP (8 * n) 8 1
      finish (wake n.val s)

/-- A write of EVT_STAT: OVF bits clear with their DROPPED counts (R235). -/
def wrEvtStat (_who : Nat) (w : Word) (s : State) : State :=
  forEach ((List.range 4).filter fun n => bit w.toNat (4 + n))
    (fun n s => (s.lower EVT_STAT (4 + n)).setFld EVT_DROP (8 * n) 8 0) s

/-- OVF_CLEAR (R235). -/
def execOvfClear (t : Requester) (w : Word) (s : State) : Host.Outcome State Fault Refusal :=
  finish (backupCmd t EVT_STAT w wrEvtStat s)

/-- A queue entry as it is read out (Table 11-1). (log 124 DEDUCED) -/
def entryBytes (e : EvtEntry) : List Byte :=
  leBytes 4 (e.sec % 2 ^ 32) ++ leBytes 2 (e.sub + b2n e.level * 2 ^ 15) ++
    leBytes 1 (b2n e.noclk + 2 * b2n e.osf + 4 * (e.sec / 2 ^ 32 % 2) + 8 * b2n e.wake + 16 * b2n e.cdx) ++ [0]

/-- EVT_STAT.LEVEL of input `n`: 0 while EDGE is 0. (log 122 DESIGN CHOICE) -/
def State.evtLevel (s : State) (n : Nat) : Bool := s.evt.level.getLsbD n && s.fld (EVT_CFG n) 0 2 ≠ 0

/-- A write of EVT_RD_CTRL in context `k` (R236). (log 124 DEDUCED) -/
def readEvents (k : Nat) (w : Word) (s : State) : State :=
  let ctl := w &&& 0x173
  let n := bits w.toNat 0 2
  let q := s.evtOf n
  let shown := q.take (min 4 (bits w.toNat 4 3))
  let head := leBytes 1 shown.length ++ leBytes 1 q.length ++
    leBytes 1 (b2n (s.flag EVT_STAT (4 + n)) + 2 * b2n (s.evt.level.getLsbD n)) ++ leBytes 1 (s.fld EVT_DROP (8 * n) 8) ++ [0, 0, 0, 0]
  let win := head ++ shown.flatMap entryBytes
  modCtx k (fun c => { c with evtCtl := ctl, evtWin := win ++ List.replicate (40 - win.length) 0,
                              evtShown := shown.map (·.id) }) s

/-- EVENT_READOUT (R236). -/
def execEventReadout (t : Requester) (w : Word) (s : State) : Host.Outcome State Fault Refusal :=
  finish (backupCmd t EVT_RD_CTRL w (fun _ w s => readEvents (ctxOfReq t) w s) s)

/-- The requester of context `k` reads the last word of the last returned entry (R236). -/
def consumeEvents (k : Nat) (s : State) : State :=
  let c := s.ctxOf k
  if bit c.evtCtl.toNat 8 then
    let n := bits c.evtCtl.toNat 0 2
    setQueue n ((s.evtOf n).filter fun e => !c.evtShown.contains e.id) s
  else s

/-- A read of the last word of the last returned entry by a tenant or the test access port (R236, R55). -/
def consumeRead (t : Requester) (s : State) : State := readCmd t EVT_RD_CTRL true (consumeEvents (ctxOfReq t)) s

/-- EVENT_CONSUME (R236). -/
def execEventConsume (t : Requester) (s : State) : Host.Outcome State Fault Refusal :=
  finish (if t = 16 then (if s.sbp.open_ then consumeEvents 16 s else s) else consumeRead t s)

/-! ### Supply of the domain (R223 to R225, R231, R247) -/

/-- VBK_SWITCHOVER (R223, R224). -/
def execVbkSwitchover (s : State) : Host.Outcome State Fault Refusal :=
  if s.flag RTC_STAT 1 || s.rtc.por then finish s
  else
    let s := ((s.raise RTC_STAT 1).raise RTC_ISTAT 3).setReg RTC_RUNTIME 0
    if s.flag RTC_SWFIRST_SUB 31 then finish (s.bump RTC_SWCOUNT 0 16 1)
    else
      finish ((s.setReg RTC_SWFIRST_SEC (BitVec.ofNat 32 s.rtc.sec)).setFlds RTC_SWFIRST_SUB
        [(0, 15, s.rtc.sub), (16, 1, s.rtc.sec / 2 ^ 32), (17, 1, b2n s.rtc.stopped), (31, 1, 1)])

/-- VDD_ADC_SWITCHBACK (R223). -/
def execVddAdcSwitchback (s : State) : Host.Outcome State Fault Refusal :=
  if s.flag RTC_STAT 1 && !s.rtc.por then
    finish ({ s with rtc := { s.rtc with runRaw := 0 } }.lower RTC_STAT 1)
  else finish s

/-- VBK_LOW (R225). -/
def execVbkLow (s : State) : Host.Outcome State Fault Refusal :=
  if s.flag RTC_STAT 2 || s.rtc.por then finish s
  else finish ((s.setFlds RTC_STAT [(2, 1, 1), (3, 1, 1)]).raise RTC_ISTAT 2)

/-- VBK_RETURN (R225). -/
def execVbkReturn (s : State) : Host.Outcome State Fault Refusal := finish (s.lower RTC_STAT 2)

/-- A write of RTC_SWFIRST_SUB (R224). -/
def wrSwfirst (_who : Nat) (w : Word) (s : State) : State :=
  if bit w.toNat 31 then (s.lower RTC_SWFIRST_SUB 31).setReg RTC_SWCOUNT 0 else s

/-- SWFIRST_CLEAR (R224). -/
def execSwfirstClear (t : Requester) (w : Word) (s : State) : Host.Outcome State Fault Refusal :=
  finish (backupCmd t RTC_SWFIRST_SUB w wrSwfirst s)

/-- OSC_STOP_DETECT (R231): BK32 stands. -/
def execOscStopDetect (s : State) : Host.Outcome State Fault Refusal :=
  if s.rtc.por then finish s
  else finish (setOsf { s with rtc := { s.rtc with stopped := true } })

/-- BK32_RESUME (R247). -/
def execBk32Resume (s : State) : Host.Outcome State Fault Refusal :=
  finish { s with rtc := { s.rtc with stopped := false } }

/-- BACKUP_POR (R24, R249, R266): the whole backup domain at its reset values. (log 123 DESIGN CHOICE) -/
def execBackupPor (s : State) : Host.Outcome State Fault Refusal :=
  finish { s with regs := s.regs.filter (fun e => !isBackup e.1), log := LogSt.reset, ctxs := [],
                  rtc := { RtcSt.reset with por := true }, evt := { EvtSt.reset with level := s.evt.level },
                  sbp := SbpSt.reset, pwr := { s.pwr with canDetect := 0, holdArea := false } }

/-- BACKUP_POR_RELEASE (R24). (log 123 DESIGN CHOICE) -/
def execBackupPorRelease (s : State) : Host.Outcome State Fault Refusal :=
  finish { s with rtc := { s.rtc with por := false } }

/-! ### Supervision log (R205, R207) -/

/-- The first record without a verdict takes it. -/
def judgeFirst (v : Verdict) : List LogRec → List LogRec
  | [] => []
  | r :: rs => if r.verdict = .unchecked then { r with verdict := v } :: rs else r :: judgeFirst v rs

/-- LOG_RECORD_CHECK (R205, R247). (log 110 DEDUCED) -/
def execLogRecordCheck (ok : Bool) (s : State) : Host.Outcome State Fault Refusal :=
  if s.rtc.stopped || s.rtc.por then finish s
  else finish { s with log := { s.log with recs := judgeFirst (if ok then .good else .torn) s.log.recs } }

/-- A span from its first record on: the records returned, torn ones, and its length. (log 124 DEDUCED) -/
def logSpan : List LogRec → Nat → List LogRec × Nat × Nat
  | [], _ => ([], 0, 0)
  | _ :: _, 0 => ([], 0, 0)
  | r :: rs, n + 1 =>
    match r.verdict with
    | .good => let x := logSpan rs n; (r :: x.1, x.2.1, x.2.2 + 1)
    | .torn => let x := logSpan rs (n + 1); (x.1, x.2.1 + 1, x.2.2 + 1)
    | .unchecked => let x := logSpan rs (n + 1); (x.1, x.2.1, x.2.2 + 1)

/-- PENDING: the records not yet checked (Table 10-5). -/
def State.uncheckedRecs (s : State) : Nat := (s.log.recs.filter fun r => r.verdict = .unchecked).length

/-- The SEQ of the newest record whose check has completed. -/
def State.newestChecked (s : State) : Option Nat := ((s.log.recs.filter fun r => r.verdict ≠ .unchecked).getLast?).map (·.seq)

/-- A write of LOG_RD_CTRL in context `k` (R207, Table 10-5). OLDEST and NEWEST are free where no such record exists.
(log 110 DEDUCED, 124 DEDUCED) -/
def readLog (k : Nat) (w : Word) (s : State) : State :=
  let start := s.log.recs.findIdx? fun r => r.seq = bits w.toNat 0 16
  let rs := s.log.recs.drop (start.getD 0)
  let n := min 256 (bits w.toNat 16 9)
  let x := logSpan rs n
  let (f, s) := s.free 0x10000
  let (g, s) := s.free 0x10000
  let head := leBytes 2 x.1.length ++ leBytes 2 x.2.1 ++ leBytes 2 ((s.log.recs.head?.map (·.seq)).getD f) ++
    leBytes 2 (s.newestChecked.getD g) ++ leBytes 2 s.uncheckedRecs ++ leBytes 2 (if start.isNone then 2 else 0) ++ [0, 0, 0, 0]
  modCtx k (fun c => { c with logCtl := w &&& 0x01FFFFFF, logWin := head ++ x.1.flatMap logBytes,
                              logSpan := if x.2.2 = 0 then none else rs.head?.map fun r => (r.seq, x.2.2) }) s

/-- LOG_READOUT (R207). -/
def execLogReadout (t : Requester) (w : Word) (s : State) : Host.Outcome State Fault Refusal :=
  finish (backupCmd t LOG_RD_CTRL w (fun _ w s => readLog (ctxOfReq t) w s) s)

end Sys2Proof.Machine
end

