-- ==== Sys2Proof/Machine/Channel.lean ====
section
/-! DEFINITION. Display channels (16): frame starts and lines, commits, black insertion, starting and stopping a channel,
palette writes, with the door's first restored line (R32), panel-live (R30) and the automatic up trigger (R220). -/

namespace Sys2Proof.Machine

/-! ### Commits (R343, R345) -/

/-- Sum of two fractions. -/
def fracAdd (a b : Nat × Nat) : Nat × Nat := (a.1 * b.2 + b.1 * a.2, a.2 * b.2)

/-- The aggregate of R342 with the shadows of channel `n` and the working sets of the others. -/
def State.aggregate (s : State) (n : Nat) : Nat × Nat :=
  ((List.range 4).flatMap fun c => (List.range 6).map fun m =>
    s.demand c (if c = n then s.shadowLayer c m else s.workLayer c m)).foldl fracAdd (0, 1)

/-- The lowest layer of channel `n` that fails the checks of R345. (log 159 DEDUCED) -/
def State.commitFails (s : State) (n : Nat) : Option Nat :=
  let ls := (List.range 6).filter fun m => (s.shadowLayer n m).counts
  let a := s.aggregate n
  if 24000000000 * a.2 < a.1 then ls.head? else ls.find? fun m => !s.layerPlacedNow (s.shadowLayer n m)

/-- A pending commit at a frame start: the shadows as one unit, or nothing. -/
def commitNow (n : Nat) (s : State) : State :=
  let s := s.lower (CH_STAT n) 8
  match s.commitFails n with
  | some m => (s.setFlds (CH_STAT n) [(9, 1, 1), (12, 3, m)]).raise (CH_ISTAT n) 3
  | none => (copyShadows n s).raise (CH_ISTAT n) 2

/-! ### States at a frame start -/

/-- Channel `n` goes to OFF: its timing stops and its output is idle (Table 16-3). (log 160 DEDUCED) -/
def channelOff (n : Nat) (s : State) : State :=
  let s := outputIdle n (dropBacklight n (setChState n chOff (modChan n (fun c => { c with stopAfter := false, resume := false }) s)))
  if s.flag (CH_CTRL n) 0 then outputStart n (startChannel n s) else s

/-- Channel `n` composes again; the delay of its backlight counts from here (R429). (log 161 DEDUCED) -/
def channelRun (n : Nat) (s : State) : State :=
  let s := modChan n (fun c => { c with resume := false, blackSent := false, frameSubst := false }) (setChState n chRun s)
  if s.flag (OUT_STAT n) 8 then startBklDelay n s else s

/-- The first composed line of a start: the restored line of the door flow (R32, R358), and the automatic up trigger,
which after a warm reset adopts the raised slots (R220). (log 30 DEDUCED, 33 DESIGN CHOICE) -/
def firstComposed (n : Nat) (s : State) : State :=
  let s := if s.door.counting && s.reg SYS_DOOR_LINE == 0 then
      let s := { s with door := { s.door with lines := s.door.lines ||| (1#4 <<< n) } }
      if !s.doorChannels.isEmpty && s.doorChannels.all fun c => s.door.lines.getLsbD c then (doorPoint SYS_DOOR_LINE s).raise SYS_DOOR_STAT 1 else s
    else s
  if s.seq.autoDue then upTrigger 1 { s with seq := { s.seq with autoDue := false } } else s

/-- The state machine of Table 16-3 at a frame start. -/
def channelStep (n : Nat) (s : State) : State :=
  let c := s.chanOf n
  let st := s.chState n
  let wait := modChan n (fun c => { c with blackLeft := c.blackLeft - 1 }) s
  if st = chSettle then firstComposed n (channelRun n s)
  else if st = chBlack then (if c.resume then channelRun n s else s)
  else if st = chBlanking then
    if 1 < c.blackLeft then wait
    else
      let s := modChan n (fun c => { c with blackLeft := 0, blackSent := true }) s
      if c.stopAfter then channelOff n s else if c.resume then channelRun n s else setChState n chBlack s
  else if st = chStopping then (if 1 < c.blackLeft then wait else channelOff n s)
  else s

/-- The frame that ends: its TEST_CRC is kept with the three before it (R385), a sink-CRC read that has not ended is
late, and a frame without an accepted read is missed (R367). (log 170 DESIGN CHOICE) -/
def frameEnd (n : Nat) (s : State) : State :=
  let tag := s.fld (CH_POS n) 16 16
  let c := s.chanOf n
  let kept := if s.chState n = chRun ∧ s.sinkCrcOn n ∧ !c.resync then ((tag, Config.testCrc c.egress) :: c.testCrc).take 4 else c.testCrc
  let read := c.sinkCrc.any fun e => e.1 = tag
  let s := modChan n (fun c => { c with egress := [], testCrc := kept, frameSubst := false, resync := false,
                                        lineDue := false }) s
  let s := modOut n (fun o => { o with step := if o.step = .crcRead then .none else o.step,
                                       want := o.want.filter fun w => w ≠ .crcRead }) s
  if !c.resync ∧ s.outState n = outVideo ∧ s.flag (OUT_STAT n) 10 ∧ !read then s.bump (OUT_SCRC_CNT n) 16 16 1 else s

/-- Layers hidden from the frame that begins (R352, R468). -/
def State.hiddenNow (s : State) (n : Nat) : Nat :=
  if (s.chanOf n).safe then (s.chanOf n).enabled
  else ofPositions ((List.range 6).filter fun m => (s.workLayer n m).counts && s.layerHeld (s.workLayer n m))

/-- CH_STAT.HIDDEN of the frame that begins, where one does. (log 158 DESIGN CHOICE) -/
def showHidden (n : Nat) (s : State) : State :=
  if s.chState n = chOff ∨ s.chState n = chStarting then s else s.setFld (CH_STAT n) 16 6 (s.hiddenNow n)

/-- The channel owns a BKL output that follows its frames (20, Backlight outputs). -/
def State.lockedOutput (s : State) (n : Nat) : Option Nat := (s.bklOf n).filter fun b => s.bklFld (BKL_CTRL b) 1 1 = 1

/-- The backlight at a frame start: pending settings of a locked output take effect (R427), then R429. -/
def backlightFrame (n : Nat) (s : State) : State :=
  let s := match s.lockedOutput n with
    | some b => applyBkl b (s.flag (BKL_CTRL b) 1 && !(s.chanOf n).pixFault) s
    | none => s
  enableBacklight n (dropBacklight n s)

/-- Panel-live (R30): rails complete, output trained or running, backlight enabled. -/
def panelLive (n : Nat) (s : State) : State :=
  if s.chState n = chRun ∧ !(s.chanOf n).live ∧ s.seqState = seqUp ∧ s.flag (OUT_STAT n) 8 ∧ (s.chanOf n).bklOn then
    bulbStart (some n) (modChan n (fun c => { c with live := true }) s)
  else s

/-- A frame of channel `n` begins: it is counted, takes safe-display (R468), and a pending commit unless it is in it
(R343). (log 158 DESIGN CHOICE) -/
def frameBegin (n : Nat) (s : State) : State :=
  let s := (s.setFlds (CH_POS n) [(0, 16, 0), (16, 16, s.fld (CH_POS n) 16 16 + 1)]).raise (CH_ISTAT n) 0
  let s := takeSafe n s
  if s.flag (CH_STAT n) 8 ∧ !(s.chanOf n).safe then commitNow n s else s

/-- FRAME_START (R343): nothing without timing, or while the PIXn clock is faulty (R356).
(log 27 DEDUCED, 158 DESIGN CHOICE) -/
def execFrameStart (n : Fin 4) (pd : List (List PdRun)) (s : State) : Host.Outcome State Fault Refusal :=
  if s.chState n = chOff ∨ s.chState n = chStarting ∨ (s.chanOf n).pixFault then finish s
  else
    let s := showHidden n (channelStep n (frameBegin n (frameEnd n s)))
    let s := panelLive n (backlightFrame n s)
    let x := ttFrames n pd s
    let s := modChan n (fun c => { c with sinkCrc := none }) x.1
    finish (checkBlank (Rep.run (notice s, x.2)))

/-! ### Lines (R350, R354, R355) -/

/-- A shown layer covers column `x` of line `y`. -/
def columnFetched (ls : List (Nat × LayerNow)) (x y hactive : Nat) : Bool :=
  ls.any fun e => (e.2.span y hactive).any fun p => p.1 ≤ x ∧ x < p.2

/-- The FILL colour as a pixel. -/
def State.fillPixel (s : State) (n : Nat) : Nat :=
  pix 1023 (s.fld (CH_FILL n) 20 10) (s.fld (CH_FILL n) 10 10) (s.fld (CH_FILL n) 0 10)

/-- Line `y` of channel `n` is composed; the answer names the underrun source for the first substituted line of a
frame. (log 158 DESIGN CHOICE, 162 DEDUCED) -/
def composeLine (n y : Nat) (r : ChannelRec) (missing : List Nat) (s : State) : Rep :=
  let ls := s.shownLayers n
  let bad := fun x => s.pixelBad ls x y r.hactive || (missing.contains x && columnFetched ls x y r.hactive)
  let cols := List.range r.hactive
  let subst := cols.any bad
  let good := (s.chanOf n).lastGood
  let row := cols.map fun x =>
    if bad x then
      (match good with
       | some l => if bit r.flags 2 then s.fillPixel n else l.getD x (s.fillPixel n)
       | none => s.fillPixel n)
    else s.composed n ls x y r.hactive
  let out := if s.sinkCrcOn n then [cols.map fun x => s.outPixel n x y (row.getD x 0)] else []
  let first := subst && !(s.chanOf n).frameSubst
  let s := modChan n (fun c => { c with lastGood := if subst then c.lastGood else some row, egress := c.egress ++ out,
                                        frameSubst := c.frameSubst || subst }) s
  let s := if subst then (s.bump (CH_UNDERRUN n) 0 16 1).raise (CH_ISTAT n) 1 else s
  if first then (s.bump (CH_UNDERRUN n) 16 16 1, [62 + n]) else (s, [])

/-- LINE_END (R350, R354): a line completes; its memory errors and its underrun are reported in one cycle (R355, R480).
The line that was being sent at a blank trigger still completes.
(log 27 DEDUCED, 65 DEDUCED, 158 DESIGN CHOICE, 198 DEDUCED) -/
def execLineEnd (n : Fin 4) (missing : List Nat) (s : State) : Host.Outcome State Fault Refusal :=
  match s.chanRec n with
  | none => finish s
  | some r =>
    if s.chState n = chOff ∨ s.chState n = chStarting ∨ (s.chanOf n).resync then finish s
    else
      let y := s.fld (CH_POS n) 0 16
      let done := modChan n fun c => { c with lineDue := false }
      let t := s.setFld (CH_POS n) 0 16 ((y + 1) % vTotal r)
      if !t.composes n ∨ r.vactive ≤ y then finish (done t)
      else
        let x := fetchLine n y r.hactive t
        let z := composeLine n y r missing (restoreCheck x.1)
        finish (Rep.run (done z.1, x.2 ++ z.2))

/-! ### Starting and stopping -/

/-- The glyph store is loaded from the glyph image of the running pair, word by word with its check bits (R379).
(log 176 DEDUCED) -/
def loadGlyphs (s : State) : State :=
  let base := glyphBase (s.flag STR_STAT 2)
  let g := (blockChunks base (base + 0x200000)).foldl (fun t (c : Nat × Nat) =>
    tcopy t (c.1 - base) s.nv.cells (s.physAddr (c.1 / blockSize) c.1) (c.2 - c.1)) ([] : Tab Byte)
  let bad := (blockChunks base (base + 0x200000)).foldl (fun t (c : Nat × Nat) =>
    wordCopy t ((c.1 - base) / 16) s.nv.poison (s.physAddr (c.1 / blockSize) c.1 / 16) ((c.2 - c.1) / 16)) ([] : List Nat)
  { s with proof := { s.proof with glyphs := g, glyphPoison := bad, glyphWeak := [] } }

/-- CHANNEL_LOAD_DONE (R357, R379): timing starts, and with it the settle frame, a frame like any other for commits,
hidden layers and safe-display (R343, R352, R468). (log 158 DESIGN CHOICE) -/
def execChannelLoadDone (n : Fin 4) (s : State) : Host.Outcome State Fault Refusal :=
  if s.chState n = chStarting then
    finish (backlightFrame n (showHidden n (frameBegin n (setChState n chSettle (loadGlyphs s)))))
  else finish s

/-- ACTIVE is cleared (Table 16-3, R353). (log 160 DEDUCED) -/
def deactivate (n : Nat) (s : State) : State :=
  let st := s.chState n
  if st = chRun then
    ttChannelDown n (dropBacklight n (setChState n chStopping
      (modChan n (fun c => { c with blackLeft := 2, live := false, lineDue := !c.resync }) s)))
  else if st = chBlanking then modChan n (fun c => { c with stopAfter := true }) s
  else if st = chStarting ∨ st = chSettle ∨ st = chBlack then channelOff n s
  else s

/-- A write of CH_CTRL: ACTIVE and DITHER under R51, COMMIT (R343). (log 160 DEDUCED) -/
def wrChCtrl (n : Nat) (who : Nat) (w : Word) (s : State) : State :=
  let was := s.flag (CH_CTRL n) 0
  rbWrite (CH_CTRL n) who w (fun s =>
    let s := if bit w.toNat 1 then s.raise (CH_STAT n) 8 else s
    let now := s.flag (CH_CTRL n) 0
    if now then (if s.chState n = chOff then outputStart n (startChannel n s) else s)
    else if was then checkBlank (deactivate n s)
    else s) s

/-- CHANNEL_ACTIVATE. -/
def execChannelActivate (t : Requester) (n : Fin 4) (w : Word) (s : State) : Host.Outcome State Fault Refusal :=
  finish (regCmd t (CH_CTRL n) w (wrChCtrl n) s)

/-- CHANNEL_DEACTIVATE (R353). -/
def execChannelDeactivate (t : Requester) (n : Fin 4) (w : Word) (s : State) : Host.Outcome State Fault Refusal :=
  finish (regCmd t (CH_CTRL n) w (wrChCtrl n) s)

/-- COMMIT (R343). -/
def execCommit (t : Requester) (n : Fin 4) (w : Word) (s : State) : Host.Outcome State Fault Refusal :=
  finish (regCmd t (CH_CTRL n) w (wrChCtrl n) s)

/-! ### Palette and counters -/

/-- A write of CH_PAL_A: the staged RGB and the alpha go into the shadow palette, INDEX advances (R344). -/
def wrPalA (n : Nat) (who : Nat) (w : Word) (s : State) : State :=
  rbWrite (CH_PAL_A n) who w (fun s =>
    let i := s.fld (CH_PAL_IDX n) 0 10
    let k := s.fld (CH_PAL_IDX n) 16 3 * 1024 + i
    let v := BitVec.ofNat 40 (s.fld (CH_PAL_RGB n) 0 30 + s.fld (CH_PAL_A n) 0 10 * 2 ^ 30)
    (modChan n (fun c => { c with palShadow := tset 0 c.palShadow k v }) s).setFld (CH_PAL_IDX n) 0 10 (i + 1)) s

/-- PALETTE_ENTRY_WRITE (R344). -/
def execPaletteEntryWrite (t : Requester) (n : Fin 4) (w : Word) (s : State) : Host.Outcome State Fault Refusal :=
  finish (regCmd t (CH_PAL_A n) w (wrPalA n) s)

/-- A write of CH_CLR. -/
def wrChClr (n : Nat) (_who : Nat) (w : Word) (s : State) : State :=
  if bit w.toNat 0 then s.setReg (CH_UNDERRUN n) 0 else s

/-- CHANNEL_COUNTER_CLEAR (R355). -/
def execChannelCounterClear (t : Requester) (n : Fin 4) (w : Word) (s : State) : Host.Outcome State Fault Refusal :=
  finish (regCmd t (CH_CLR n) w (wrChClr n) s)

/-! ### Backlight commands (20) -/

/-- BKL output `b` follows the frames of a channel. -/
def State.bklLocked (s : State) (b : Nat) : Bool := s.flag BKL_STAT (4 + b)

/-- PWM_CYCLE_START (R427): of a free-running output. -/
def execPwmCycleStart (n : Fin 4) (s : State) : Host.Outcome State Fault Refusal :=
  if s.bklLocked n then finish s
  else
    let s := applyBkl n false s
    finish (match s.bklOwner n with | some c => dropBacklight c s | none => s)

/-- BKL_DELAY_EXPIRY (R429). -/
def execBklDelayExpiry (n : Fin 4) (s : State) : Host.Outcome State Fault Refusal :=
  finish (if s.chState n = chRun ∧ s.flag (OUT_STAT n) 8 then modChan n (fun c => { c with bklDelay := true }) s else s)

/-- BKL_SETTLE_EXPIRY (R429). -/
def execBklSettleExpiry (n : Fin 4) (s : State) : Host.Outcome State Fault Refusal :=
  finish (if (s.chanOf n).bklOn then modChan n (fun c => { c with bklSettle := true }) s else s)

/-- A write of a BKL register: a duty change abandons the O windows of the owning channel (R397, R433); EN of an output
no channel owns acts at once; pending values wait for a cycle or a frame (R427). (log 187 DEDUCED) -/
def wrBkl (a b : Nat) (who : Nat) (w : Word) (s : State) : State :=
  let old := s.reg a
  rbWrite a who w (fun s =>
    let s := if a = BKL_DUTY b ∧ s.reg a ≠ old then
        (match s.bklOwner b with | some c => abandonO (fun r => r.channel = c) s | none => s)
      else s
    bklEnabled b s) s

end Sys2Proof.Machine
end

