-- ==== Sys2Proof/Machine/Measure.lean ====
section
/-! DEFINITION. Measurement (20): conversions and what follows from them, the slot assignment of the scan rounds, ambient
light. -/

namespace Sys2Proof.Machine

/-- The core is out of reset: the rotation channels are converted (R437). -/
def State.coreUp (s : State) : Bool := s.ctl.phase ≠ .off && s.ctl.phase ≠ .reset && s.ctl.phase ≠ .rails

/-- The rail senses that hold slots: those of the image once R49 has completed (R437), by converter, in SLOT order. -/
def State.adcRails (s : State) (k : Nat) : List RailRec :=
  sortBy (·.slot) (((s.conf.map (·.rails)).getD []).filter fun r => r.senseKind = 0 && r.sense / 16 = k)

/-- ADC channels that a rail sense uses (R421). -/
def State.railChannels (s : State) : List Nat := ((s.adcRails 0 ++ s.adcRails 1).map (·.sense)).eraseDups

/-- Slot demand of a firmware channel in 1/32 slots per round: 2^(2 - RATE) slots. -/
def State.slotDemand (s : State) (n : Nat) : Nat := 128 / 2 ^ s.fld (ADC_CH_CFG n) 1 3

/-- Slots of the rail senses on a converter. -/
def State.railSlots (s : State) (k : Nat) : Nat := 2 * (s.adcRails k).length

/-- Firmware channels of a converter that are admitted, in ascending order, and whether one was not (R422).
(log 185 DESIGN CHOICE) -/
def State.admitAdc (s : State) (k : Nat) : List Nat × Bool :=
  let x := ((List.range 16).map (· + 16 * k)).foldl (fun (x : List Nat × Nat × Bool) n =>
    if !s.flag (ADC_CH_CFG n) 0 || s.railChannels.contains n then x
    else
      let d := x.2.1 + s.slotDemand n
      if 49 * 32 < d then (x.1, x.2.1, true) else (x.1 ++ [n], d, x.2.2)) ([], 32 * s.railSlots k, false)
  (x.1, x.2.2)

/-- A configuration change: OVERBOOK where a channel is not admitted. -/
def overbookCheck (s : State) : State :=
  if (s.admitAdc 0).2 || (s.admitAdc 1).2 then (s.raise ADC_STAT 16).raise ADC_ISTAT 0 else s

/-- Free slots that firmware channel `n` takes in round `i` (R421): 2^(2 - RATE), or one in every 2^(RATE - 2) rounds;
which of these rounds it is follows the channel's number. (log 185 DESIGN CHOICE) -/
def State.slotsIn (s : State) (n i : Nat) : Nat :=
  let r := s.fld (ADC_CH_CFG n) 1 3
  if r ≤ 2 then 2 ^ (2 - r) else if (i + n) % 2 ^ (r - 2) = 0 then 1 else 0

/-- Give channel `n` `m` of the free slots, at even distances among them (R421). (log 185 DESIGN CHOICE) -/
def placeSlots (t : List Nat) (n m : Nat) : List Nat :=
  let free := (List.range 49).filter fun i => t[i]? = some 41
  (List.range (min m free.length)).foldl (fun t j => t.set (free.getD (j * free.length / m) 0) n) t

/-- The 50 slots of round `i` on converter `k` (R421, R434): rail senses first, at j and j + 25 in SLOT order, the
rotation in slot 49, firmware channels in ascending order in what is left. (log 185 DESIGN CHOICE) -/
def State.slotTable (s : State) (k i : Nat) : List Nat :=
  let rails := (s.adcRails k).zipIdx.foldl (fun t e => (t.set e.2 e.1.sense).set (e.2 + 25) e.1.sense)
    (List.replicate 49 41 ++ [if k = 0 then 40 else 32 + i % 9])
  if s.conf.isNone then rails else (s.admitAdc k).1.foldl (fun t n => placeSlots t n (s.slotsIn n i)) rails

/-- The block converts: clocked, and not in its domain reset (R435). -/
def State.adcRuns (s : State) : Bool := !s.adc.stopped && s.coreUp && s.ladder ≤ 2

/-- SCAN_ROUND_START (R421, R432, R434): the assignment follows the configuration. (log 185 DESIGN CHOICE) -/
def execScanRoundStart (s : State) : Host.Outcome State Fault Refusal :=
  if !s.adcRuns then finish s
  else
    let i := s.adc.round + 1
    let l := (if s.conf.isNone then [] else (s.admitAdc 0).1 ++ (s.admitAdc 1).1) ++ s.railChannels
    let s := { s with adc := { s.adc with
      slots0 := s.slotTable 0 i, slots1 := s.slotTable 1 i, pos0 := 0, pos1 := 0, round := i } }
    let s := s.setFlds ADC_STAT [(0, 6, 49 - s.railSlots 0), (8, 6, 49 - s.railSlots 1)]
    finish (forEach ((List.range 32).filter fun n => !l.contains n) (fun n s => s.lower (ADC_RES n) 31) s)

/-- The next slot of the running round that converts channel `n`: the converter and the slot. (log 185 DESIGN CHOICE) -/
def State.nextSlot (s : State) (n : Nat) : Option (Bool × Nat) :=
  let find := fun (t : List Nat) (p : Nat) => (List.range 50).find? fun i => p ≤ i && t[i]? = some n
  match find s.adc.slots0 s.adc.pos0, find s.adc.slots1 s.adc.pos1 with
  | some i, _ => some (false, i)
  | none, some i => some (true, i)
  | none, none => none

/-- Channel `n` is converted now: a slot of the running round is still to come. (log 185 DESIGN CHOICE) -/
def State.converts (s : State) (n : Nat) : Bool := s.adcRuns && (s.nextSlot n).isSome

/-- The slot in which channel `n` is converted passes, and those before it. -/
def passSlot (n : Nat) (s : State) : State :=
  match s.nextSlot n with
  | some (false, i) => { s with adc := { s.adc with pos0 := i + 1 } }
  | some (true, i) => { s with adc := { s.adc with pos1 := i + 1 } }
  | none => s

/-- A die sensor reading (R424, R425). (log 186 DESIGN CHOICE) -/
def dieReading (k code : Nat) (s : State) : Rep :=
  let t := ofSigned 12 (Config.temperature k code s.otp.force.analog)
  let v := toSigned 12 t
  let high := toSigned 12 (s.fld ADC_TALARM 0 12)
  let run := if high ≤ v then min 3 (tget 0 s.adc.hotRun k + 1) else 0
  let s := { s.setFld (ADC_TEMP k) 0 12 t with adc := { s.adc with hotRun := tset 0 s.adc.hotRun k run } }
  if s.flag ADC_HOT k then (if v < high - (s.fld ADC_TALARM 16 12 : Int) then (s.lower ADC_HOT k, []) else (s, []))
  else if run = 3 then ((s.raise ADC_HOT k).raise ADC_ISTAT 2, [76])
  else (s, [])

/-- The code of an input voltage in µV (R12, R501): 1.171875 mV a code, clamped to 0 and 1,023. A part's offset, gain
and linearity lie within Tables 20-2 and 24; the code that a command carries is that of the part. A function that no
step reads. (log 190 DESIGN CHOICE) -/
def adcCode (uv : Int) : Nat := min 1023 (uv * 64 / 75000).toNat

/-- Full-scale photocurrent in pA at a gain of OPT_GAIN (Table 24-9). (log 190 DESIGN CHOICE) -/
def pdFullScale (gain : Nat) : Nat := [120000000, 12000000, 1200000, 120000].getD gain 120000

/-- The code of a photocurrent in pA at a gain (R500): 1,023 at the full-scale current, the front-end rail. A function
that no step reads. (log 190 DESIGN CHOICE) -/
def pdCode (gain pa : Nat) : Nat := min 1023 (pa * 1023 / pdFullScale gain)

/-- ADC_CONVERSION_DONE (R423, R425, R436). -/
def execAdcConversionDone (ch : Fin 41) (code : Code) (s : State) : Host.Outcome State Fault Refusal :=
  let n := ch.val
  let c := code.toNat
  if !s.converts n then finish s
  else
    let s := adcResult n c (passSlot n s)
    if n = 32 then finish (s.setFld STO_SNS 16 10 c)
    else if 33 ≤ n ∧ n ≤ 38 then finish (Rep.run (dieReading (n - 33) c s))
    else if n = 40 then
      if c < 845 ∨ 861 < c then finish (report 77 ((s.raise ADC_STAT 17).raise ADC_ISTAT 1)) else finish s
    else finish s

/-- A write of ADC_CHn_CFG: always stored (R422). -/
def wrAdcCfg (n : Nat) (_who : Nat) (w : Word) (s : State) : State := overbookCheck (s.write (ADC_CH_CFG n) w)

/-- ADC_CHANNEL_CONFIG (R422). -/
def execAdcChannelConfig (t : Requester) (n : Fin 32) (w : Word) (s : State) : Host.Outcome State Fault Refusal :=
  finish (regCmd t (ADC_CH_CFG n) w (wrAdcCfg n) s)

/-- ALS_WINDOW_END (R426): the mean of the 96 × WIN samples of the window, which are those that Heron takes from the
photodiode at 96 kS/s, in units of 1/64 code; SAT for one at the rail or at code 1,023; WIN 0 disables every reading.
Which way a mean that is not an integer is rounded is not specified: free. (log 174 DESIGN CHOICE, 189 DEDUCED) -/
def execAlsWindowEnd (p : Fin 8) (samples : List PdRun) (s : State) : Host.Outcome State Fault Refusal :=
  let k := 96 * s.fld OPT_ALS 0 10
  if k = 0 ∨ s.ladder ≠ 0 ∨ (samples.map (·.count)).sum < k then finish s
  else
    let v := 64 * pdSum k samples
    let (up, s) := if v % k = 0 then (0, s) else s.free 2
    finish (s.setFlds (ALS_P p) [(0, 16, v / k + up), (31, 1, b2n (pdRail k samples))])

end Sys2Proof.Machine
end

