-- ==== Sys2Proof/Machine/Flock.lean ====
section
/-! DEFINITION. The flock (21): messages received and forwarded (R440), agreement and joining (R441, R444, R461), source,
code and ladder reports (R443, R445, R448), time agreement (R447), the role swap (R451, R454, R456) and member loss
(R462). -/

namespace Sys2Proof.Machine

def fkOff : Nat := 0
def fkSeeking : Nat := 1
def fkJoined : Nat := 2
def fkSplit : Nat := 3

def State.fkState (s : State) : Nat := s.fld FLK_STAT 0 2

/-- A new flock state: FLK_ISTAT.JOIN (STATE changed). -/
def setFkState (st : Nat) (s : State) : State :=
  if s.fkState = st then s else (s.setFld FLK_STAT 0 2 st).raise FLK_ISTAT 0

def modMember (r : Nat) (f : Member → Member) (s : State) : State :=
  { s with flk := { s.flk with members := tmod Member.reset s.flk.members r f } }

/-- A little-endian field of a message. -/
def msgField (b : List Byte) (o n : Nat) : Nat := ofLe ((b.drop o).take n)

/-- The origin of a message: its DEVID. -/
def msgDevid (b : List Byte) : Nat := msgField b 8 8

/-- LENGTH fits the layout of MTYPE (Table 21-3). (log 191 DESIGN CHOICE) -/
def msgFits (b : List Byte) : Bool :=
  match msgField b 0 1 with
  | 1 => b.length = 68
  | 2 => b.length = 40
  | 3 => msgField b 0x21 1 ≤ 27 && b.length = 36 + 4 * msgField b 0x21 1
  | 4 => b.length = 24
  | 5 => b.length = 24
  | 6 => b.length = 28
  | _ => 16 ≤ b.length

/-! ### Operating revision, time source and leader -/

/-- The operating revision (R442): the lowest of every MAX_REV and of 1. -/
def setRev (s : State) : State :=
  let own := (s.flock.map (·.maxRev)).getD 1
  s.setFld FLK_STAT 8 4 ((s.peers.map fun r => (s.member r).maxRev).foldl min (min 1 own))

/-- The time source (R447): the leader with OSF clear, else the member with OSF clear and the largest RUNTIME, ties to
the lower DEVID. -/
def State.timeSource (s : State) : Option Nat :=
  let all := (s.rank, s.osf, (s.reg RTC_RUNTIME).toNat, s.otp.force.devid) ::
    s.peers.map fun r => let m := s.member r; (r, m.osf, m.runtime, m.devid)
  let ok := all.filter fun e => !e.2.1
  let best := ok.foldl (fun (b : Option (Nat × Bool × Nat × Nat)) e => match b with
    | none => some e
    | some c => if c.2.2.1 < e.2.2.1 ∨ (c.2.2.1 = e.2.2.1 ∧ e.2.2.2 < c.2.2.2) then some e else some c) none
  match ok.find? fun e => e.1 = s.fld FLK_STAT 4 2 with
  | some e => some e.1
  | none => best.map (·.1)

/-- The body of TIME. -/
def State.timeBody (s : State) : List Byte :=
  leBytes 4 (s.rtc.sec % 2 ^ 32) ++ leBytes 2 (s.rtc.sub + 32768 * (s.rtc.sec / 2 ^ 32 % 2)) ++ [0, 0]

/-- Choose the time source; at a change of source, or at the entry into JOINED (`fresh`), the source sends TIME. -/
def timeSync (fresh : Bool) (s : State) : State :=
  if !s.joined then s
  else
    let t := s.timeSource
    let same := (if s.flag FLK_STAT 14 then none else some (s.fld FLK_STAT 12 2)) == t
    let s := match t with
      | none => s.raise FLK_STAT 14
      | some r => s.setFlds FLK_STAT [(12, 2, r), (14, 1, 0)]
    if same && !fresh then s
    else
      let s := s.raise FLK_ISTAT 4
      if t = some s.rank then flkSend 4 s.timeBody s else s

/-- Leadership goes to rank `r`. A member that does not lead withdraws its presence frame, one queued in SEEKING or
SPLIT too (R446). (log 197 DEDUCED) -/
def setLeader (r : Nat) (s : State) : State :=
  let s := s.setFlds FLK_STAT [(2, 1, b2n (r = s.rank)), (4, 2, r)]
  if s.sendsPresence then s else (s.lower (CAN_MB_CTRL 0 0) 4).lower (CAN_MB_CTRL 1 0) 4

/-- The digest of the running image (R52). -/
def State.ownDigest (s : State) : List Byte :=
  match s.cfg with
  | some i => i.digest
  | none => []

/-- The body of HELLO. -/
def State.helloBody (s : State) : List Byte :=
  let f := s.flock
  leBytes 8 ((f.map (·.flockId)).getD 0) ++ (s.ownDigest ++ List.replicate 32 0).take 32 ++
    leBytes 1 s.rank ++ leBytes 1 ((f.map (·.members)).getD 0) ++ leBytes 2 ((f.map (·.maxRev)).getD 0) ++
    leBytes 4 (s.reg RTC_RUNTIME).toNat ++ leBytes 1 (b2n s.osf + 2 * b2n s.leads + 4 * b2n s.joined) ++
    leBytes 1 (s.fld FLK_FLOOR 4 3) ++ [0, 0]

/-- What every change of the membership or of a member's report brings: time source, tell-tale requests, the ladder
target, STATE and the presence frame. -/
def flockSync (fresh : Bool) (s : State) : State := notice (retarget false s.vholdNow (evalAll (timeSync fresh (setRev s))))

/-! ### Joining, disagreement and loss -/

/-- A disagreeing peer: CAUSE, DISAGREE and, at entry into SPLIT or for a new one in JOINED, the split fault (R461).
(log 194 DEDUCED) -/
def noteDisagree (devid rank cause : Nat) (s : State) : Rep :=
  let new := !s.flk.disagree.contains devid
  let s := (s.setFld FLK_STAT 16 4 cause).raise FLK_STAT 15
  let s := if rank < 4 then s.raise FLK_MEMBERS (8 + rank) else s
  let s := if new then { s with flk := { s.flk with disagree := s.flk.disagree ++ [devid] } } else s
  if s.fkState = fkSeeking then ((setFkState fkSplit s).raise FLK_ISTAT 1, [78])
  else if s.fkState = fkJoined ∧ new then (s.raise FLK_ISTAT 1, [78])
  else (s, [])

/-- The first condition of R441 that a HELLO fails; 0: the peer agrees. (log 194 DEDUCED) -/
def State.helloCause (s : State) (b : List Byte) : Nat :=
  let rank := msgField b 0x38 1
  let f := s.flock
  if some (msgField b 0x10 8) ≠ f.map (·.flockId) then 1
  else if (b.drop 0x18).take 32 ≠ s.ownDigest then 2
  else if some (msgField b 0x39 1) ≠ f.map (·.members) then 3
  else if msgField b 0x39 1 ≤ rank then 4
  else if rank = s.rank ∨ (s.peers.contains rank ∧ (s.member rank).devid < msgDevid b) then 5
  else 0

/-- The leader after a HELLO of the member `r` (R444): adopted or elected at entry into JOINED; a device that joins a
running flock through a follower never leads it: it takes that follower until the leader announces itself or is named
in a STATE; where two parts meet, which is at the HELLO of a device that was no member (`known` false), the lower rank
stays leader. (log 193 DEDUCED) -/
def leaderAfter (entry known : Bool) (r flags : Nat) (s : State) : State :=
  let leads := bit flags 1 && bit flags 2
  let adopt := fun (b : Bool) (s : State) => { s with flk := { s.flk with adopting := b } }
  if entry then adopt (bit flags 2 && !leads) (setLeader (if bit flags 2 then r else min r s.rank) s)
  else if leads && s.flk.adopting then adopt false (setLeader r s)
  else if leads && !known && r < s.fld FLK_STAT 4 2 then setLeader r s
  else s

/-- An agreeing peer of rank `r` announces itself: it is, or becomes, a JOINED member; every entry into JOINED sends
HELLO (R439). (log 193 DEDUCED) -/
def helloJoin (r : Nat) (b : List Byte) (s : State) : State :=
  let flags := msgField b 0x40 1
  let entry := !s.joined
  let known := s.peers.contains r && (s.member r).devid == msgDevid b
  let s := { s with flk := { s.flk with disagree := s.flk.disagree.filter (· ≠ msgDevid b) } }
  let s := modMember r (fun m => { (if known then m else Member.reset) with
    devid := msgDevid b, local_ := msgField b 0x41 1, osf := bit flags 0, runtime := msgField b 0x3C 4,
    maxRev := msgField b 0x3A 2 }) s
  let s := (setFkState fkJoined s).setFlds FLK_MEMBERS
    [(s.rank, 1, 1), (r, 1, 1), (4 + r, 1, 0), (8 + r, 1, 0)]
  let s := (s.setReg (FLK_PEER r) (BitVec.ofNat 32 (msgDevid b))).setReg (FLK_PEER r + 4)
    (BitVec.ofNat 32 (msgDevid b / 2 ^ 32))
  let s := leaderAfter entry known r flags s
  let s := if known then s else flkSend 1 s.helloBody s
  flockSync entry s

/-- The flock state without an agreeing peer: SEEKING, or SPLIT where a disagreeing one remains (Table 21-1). -/
def leaveFlock (s : State) : Rep :=
  let s := { s with flk := { s.flk with members := [], adopting := false } }
  let s := s.setFlds FLK_STAT [(2, 1, 0), (4, 2, 0), (12, 2, 0), (14, 1, 0)]
  let s := s.setFlds FLK_MEMBERS [(0, 4, 0), (12, 4, 0)]
  if s.flk.disagree.isEmpty then (setFkState fkSeeking s, [])
  else (((setFkState fkSplit s).raise FLK_ISTAT 1).raise FLK_STAT 15, [78])

/-- The member of rank `r` is one no longer (R461, R462): its codes, sources and LOCAL are dropped; without the leader
the others elect a new one, without a member the device is standalone. (log 193 DEDUCED, 194 DEDUCED) -/
def dropMember (r : Nat) (s : State) : Rep :=
  let wasLeader := s.fld FLK_STAT 4 2 = r
  let s := { s with flk := { s.flk with members := tdel s.flk.members r } }.setFlds FLK_MEMBERS [(r, 1, 0), (12 + r, 1, 0)]
  if s.peers.isEmpty then leaveFlock s
  else (if wasLeader then setLeader (s.peers.foldl min s.rank) s else s, [])

/-- HELLO accepted (R441). A member whose HELLO disagrees is one no longer: its flags and codes are not used (R461). A
member of the same rank with a higher DEVID gives way and disagrees. (log 194 DEDUCED) -/
def takeHello (b : List Byte) (s : State) : Rep :=
  let r := msgField b 0x38 1
  let cause := s.helloCause b
  if cause ≠ 0 then
    match s.peers.find? fun k => (s.member k).devid = msgDevid b with
    | some k =>
      let x := dropMember k s
      let y := noteDisagree (msgDevid b) r cause x.1
      (flockSync false y.1, x.2 ++ y.2)
    | none =>
      let x := noteDisagree (msgDevid b) r cause s
      (notice x.1, x.2)
  else
    let old := (s.member r).devid
    if s.peers.contains r ∧ old ≠ msgDevid b then
      let x := noteDisagree old r 5 s
      (helloJoin r b x.1, x.2)
    else (helloJoin r b s, [])

/-- A member of rank `r` is lost (R462). -/
def loseMember (r : Nat) (s : State) : Rep :=
  let x := dropMember r ((s.setFld FLK_MEMBERS (4 + r) 1 1).raise FLK_ISTAT 2)
  (flockSync false x.1, 79 :: x.2)

/-! ### Reports of members -/

/-- The rank of the JOINED member that a message comes from. -/
def State.msgMember (s : State) (b : List Byte) : Option Nat :=
  s.peers.find? fun r => r = msgField b 3 1 && (s.member r).devid == msgDevid b

/-- STATE of a JOINED member names the leader of the flock that this device has joined (R444). (log 193 DEDUCED) -/
def adoptLeader (fstate leader : Nat) (s : State) : State :=
  if s.flk.adopting && fstate == fkJoined && (leader == s.rank || s.peers.contains leader) then
    setLeader leader { s with flk := { s.flk with adopting := false } }
  else s

/-- STATE (R445, R448): the member's report; a DESCENDING member is RESTING. -/
def takeState (r : Nat) (b : List Byte) (s : State) : State :=
  let flags := msgField b 0x12 1
  let s := modMember r (fun m => { m with
    leader := msgField b 0x10 1, local_ := msgField b 0x11 1, osf := bit flags 0, descending := bit flags 1,
    fstate := msgField b 0x13 1, runtime := msgField b 0x14 4, codes := (b.drop 0x18).take 16 }) s
  flockSync false (adoptLeader (s.member r).fstate (s.member r).leader (s.putFlag FLK_MEMBERS (12 + r) (bit flags 1)))

/-- TT (R443): T1's requests and liveness, and the sources listed; the requests follow at once (`eval`), or with a local
frame of the same cycle (R458). -/
def takeTt (eval : Bool) (r : Nat) (b : List Byte) (s : State) : State :=
  let n := msgField b 0x21 1
  let list := (List.range n).map fun i => (msgField b (0x24 + 4 * i) 2, msgField b (0x26 + 4 * i) 1)
  let s := modMember r (fun m => { m with
    t1Req := (b.drop 0x10).take 16, t1Alive := bit (msgField b 0x20 1) 0,
    srcs := list.foldl (fun t e => tput t e.1 e.2) m.srcs }) s
  if eval then evalAll s else s

/-- TIME (R447): the offset corrected by a shift or a time write; FLK_TIME records it. A correction waits for the next
TIME while a time write or a shift of an earlier tick is pending; with a time write of this tick it is applied, and so
discarded as a shift, in the tick of that write (R459, R246). (log 195 DEDUCED) -/
def takeTime (b : List Byte) (s : State) : State :=
  let sub := msgField b 0x14 2
  let t : Nat := (sub / 32768 * 2 ^ 32 + msgField b 0x10 4) * 32768 + sub % 32768 + 2 * (msgField b 1 1 + 1)
  let off : Int := Int.ofNat t - Int.ofNat s.rtc.units
  let beside := s.rtc.pendTime.any (·.1 = s.rtc.raw) && s.rtc.pendShift.isNone && off.natAbs ≤ 32767
  if off.natAbs < 2 ∨ (s.flag RTC_STAT 7 ∧ !beside) then s
  else
    let s := if off.natAbs ≤ 32767 then askShift (off < 0) off.natAbs s
      else if t < rtcEnd * 32768 then
        { s with rtc := { s.rtc with pendTime := some (s.rtc.raw, t / 32768, t % 32768) } }.raise RTC_STAT 7
      else s.raise RTC_STAT 4
    let s := { s with rtc := { s.rtc with flkTimed := !beside && s.flag RTC_STAT 7 } }
    (s.setFld FLK_TIME 0 16 (ofSigned 16 (clampInt (-32768) 32767 off))).bump FLK_TIME 16 16 1

/-! ### Role swap (R451, R454, R456, R457) -/

/-- The own request ends. -/
def swapEnd (result : Nat) (s : State) : State :=
  ({ s with flk := { s.flk with pending := none } }.setFlds FLK_STAT [(20, 4, result), (24, 1, 0)]).raise FLK_ISTAT 3

/-- Send ROLE_ACK. -/
def roleAck (requester result leader : Nat) (s : State) : State :=
  flkSend 6 (leBytes 8 requester ++ leBytes 1 result ++ leBytes 1 leader ++ [0, 0]) s

/-- ROLE_REQ of member `r` to this device: both ends at once (R456), DECLINED, BUSY or DONE. (log 196 DEDUCED) -/
def takeRoleReq (r : Nat) (b : List Byte) (s : State) : State :=
  let from_ := msgDevid b
  if msgField b 0x10 8 ≠ s.otp.force.devid then s
  else if s.flk.pending = some from_ then
    let win := s.otp.force.devid < from_
    let leader := if win then s.rank else r
    let s := roleAck from_ (if win then 2 else 1) leader s
    flockSync false (setLeader leader (swapEnd (if win then 1 else 2) s))
  else if !s.leads && s.flag FLK_CFG 16 then roleAck from_ 4 (s.fld FLK_STAT 4 2) s
  else if s.flk.pending.isSome then roleAck from_ 3 (s.fld FLK_STAT 4 2) s
  else
    let leader := if s.leads then r else s.rank
    flockSync false (setLeader leader (roleAck from_ 1 leader s))

/-- ROLE_ACK: the answer to the own request while it is pending; the roles swap at every member. (log 196 DEDUCED) -/
def takeRoleAck (b : List Byte) (s : State) : State :=
  let result := msgField b 0x18 1
  let leader := msgField b 0x19 1
  let mine := msgField b 0x10 8 = s.otp.force.devid
  if mine ∧ s.flk.pending ≠ some (msgDevid b) then s
  else
    let s := if mine then swapEnd result s else s
    if (result = 1 ∨ result = 2) ∧ (leader = s.rank ∨ leader ∈ s.peers) then flockSync false (setLeader leader s)
    else s

/-! ### Messages received -/

/-- A message is dropped and counted. -/
def flkDrop (s : State) : State := s.bump FLK_CNT 16 16 1

/-- MSEQ `q` of origin `d` is newer than the last accepted one (R440). (log 192 DEDUCED) -/
def State.flkNewer (s : State) (d q : Nat) : Bool :=
  match s.flk.mseqs.find? fun e => e.1 = d with
  | none => true
  | some e => let k := (q + 2 ^ 32 - e.2) % 2 ^ 32; 1 ≤ k && k ≤ 2 ^ 31

/-- Forward out of the other Fyrd port, HOPS one more (R440). -/
def flkForward (p : Nat) (b : List Byte) (s : State) : State :=
  let h := msgField b 1 1
  if h < 2 ∧ s.lnkState (5 - p) = lnUp then
    (flkQueue (5 - p) (b.take 1 ++ [BitVec.ofNat 8 (h + 1)] ++ b.drop 2) s).bump FLK_CNT 0 16 1
  else s

/-- What an accepted message does. (log 191 DESIGN CHOICE) -/
def flkTake (eval : Bool) (b : List Byte) (s : State) : Rep :=
  match msgField b 0 1, s.msgMember b with
  | 1, _ => takeHello b s
  | 2, some r => (takeState r b s, [])
  | 3, some r => (takeTt eval r b s, [])
  | 4, some _ => (takeTime b s, [])
  | 5, some r => (takeRoleReq r b s, [])
  | 6, some _ => (takeRoleAck b s, [])
  | _, _ => (s, [])

/-- A FLK packet arrives on port `p` (2 or 3): dropped in OFF (R438), for another revision (R442), as the own or not a
newer one (R440), else forwarded and taken. (log 191 DESIGN CHOICE) -/
def flkReceive (eval : Bool) (p : Nat) (b : List Byte) (s : State) : Rep :=
  let d := msgDevid b
  let q := msgField b 4 4
  if s.fkState = fkOff ∨ !msgFits b ∨ (msgField b 0 1 ≠ 1 ∧ msgField b 2 1 ≠ s.fld FLK_STAT 8 4) ∨
      d = s.otp.force.devid ∨ !s.flkNewer d q then (flkDrop s, [])
  else
    let s := { s with flk := { s.flk with mseqs := (s.flk.mseqs.filter fun e => e.1 ≠ d) ++ [(d, q)] } }
    flkTake eval b (flkForward p b s)

/-- A message of type `k` arrives on FRD port `p` whose link is UP: activity of the port, which wakes P1 (Table 9-2).
(log 191 DESIGN CHOICE) -/
def flkArrive (eval : Bool) (k p : Nat) (b : List Byte) (s : State) : Rep :=
  if s.lnkState (2 + p) = lnUp ∧ msgField b 0 1 = k then
    flkReceive eval (2 + p) b (if 1 ≤ s.headedFor ∧ s.headedFor ≤ 2 then wake (10 + p) s else s)
  else (s, [])

/-- One message in a cycle. (log 191 DESIGN CHOICE) -/
def flkEvent (k p : Nat) (b : List Byte) (s : State) : State := (flkArrive true k p b s).run

/-- MSEQ of `a` is the newer of the two. (log 191 DESIGN CHOICE) -/
def mseqAfter (a b : List Byte) : Bool := decide (1 ≤ (msgField a 4 4 + 2 ^ 32 - msgField b 4 4) % 2 ^ 32 ∧
  (msgField a 4 4 + 2 ^ 32 - msgField b 4 4) % 2 ^ 32 ≤ 2 ^ 31)

/-- A STATE and a TT in one CORE cycle, those of one origin in MSEQ order (R458). (log 10 DEDUCED, 191 DESIGN CHOICE) -/
def flkBoth (p : Nat) (b : List Byte) (q : Nat) (t : List Byte) (s : State) : State :=
  if msgDevid b = msgDevid t ∧ mseqAfter b t then
    let x := flkArrive true 3 q t s
    let y := flkArrive true 2 p b x.1
    Rep.run (y.1, x.2 ++ y.2)
  else
    let x := flkArrive true 2 p b s
    let y := flkArrive true 3 q t x.1
    Rep.run (y.1, x.2 ++ y.2)

/-- HELLO (R441). -/
def execFlkHello (p : Fin 2) (bytes : List Byte) (s : State) : Host.Outcome State Fault Refusal :=
  finish (flkEvent 1 p bytes s)

/-- STATE (R448), and a TT of the same cycle (R458). -/
def execFlkState (p : Fin 2) (bytes : List Byte) (tt : Option (Fin 2 × List Byte)) (s : State) :
    Host.Outcome State Fault Refusal :=
  finish (match tt with
    | none => flkEvent 2 p bytes s
    | some (q, t) => flkBoth p bytes q t s)

/-- TT (R443). -/
def execFlkTt (p : Fin 2) (bytes : List Byte) (s : State) : Host.Outcome State Fault Refusal :=
  finish (flkEvent 3 p bytes s)

/-- TIME (R447). -/
def execFlkTime (p : Fin 2) (bytes : List Byte) (s : State) : Host.Outcome State Fault Refusal :=
  finish (flkEvent 4 p bytes s)

/-- ROLE_REQ (R451). -/
def execFlkRoleReq (p : Fin 2) (bytes : List Byte) (s : State) : Host.Outcome State Fault Refusal :=
  finish (flkEvent 5 p bytes s)

/-- ROLE_ACK (R451). -/
def execFlkRoleAck (p : Fin 2) (bytes : List Byte) (s : State) : Host.Outcome State Fault Refusal :=
  finish (flkEvent 6 p bytes s)

/-! ### A frame on a CAN bus -/

/-- CAN_FRAME_RECEIVED (R403, R405, R417): an FD frame at a controller without FD is an error of format; in P1 any valid
frame is CAN activity (R420). Sources that expire in its CORE cycle do so before it, a source report of the flock in
that cycle stands beside it, and the requests are evaluated once, after all of them (R413, R458). -/
def execCanFrameReceived (c : Fin 2) (f : CanFrame) (time : Word) (expired : List (Fin 256))
    (report : Option (Fin 2 × List Byte)) (s : State) : Host.Outcome State Fault Refusal :=
  let l := expired.map (·.val)
  let s := l.foldl expireSrc s
  let x := match report with
    | some (p, b) => flkArrive false 3 p b s
    | none => (s, [])
  let s := x.1
  let late := fun (s : State) => if l.isEmpty && report.isNone then s else evalAll s
  if !s.canOnline c ∨ !s.canHears c then finish (Rep.run (late s, x.2))
  else if !s.acknowledges c f then finish (Rep.run (frameOver c (late (rxError c .form false s)), x.2))
  else
    let s := receiveFrame c f time s
    let s := frameOver c (if f.remote then late s else s)
    finish (Rep.run (if s.ladder = 1 then canWake c s else s, x.2))

/-! ### Timers -/

/-- HELLO_TIMER (R439). -/
def execHelloTimer (s : State) : Host.Outcome State Fault Refusal :=
  finish (if s.fkState = fkSeeking ∨ s.fkState = fkSplit then flkSend 1 s.helloBody s else s)

/-- STATE_TIMER (R439): STATE, and TT with it. -/
def execStateTimer (s : State) : Host.Outcome State Fault Refusal :=
  finish (if s.joined then sendState false (timeSync false s) else s)

/-- TIME_TIMER (R447): the time source sends TIME. -/
def execTimeTimer (s : State) : Host.Outcome State Fault Refusal :=
  finish (if s.joined && !s.flag FLK_STAT 14 && s.fld FLK_STAT 12 2 == s.rank then flkSend 4 s.timeBody s else s)

/-- A write of FLK_CTRL (R451, R457). -/
def wrFlkCtrl (_who : Nat) (w : Word) (s : State) : State :=
  if !bit w.toNat 0 then s.write FLK_CTRL w
  else if s.flag FLK_STAT 24 then s
  else
    let s := s.write FLK_CTRL w
    let r := s.fld FLK_CTRL 8 2
    if s.joined && s.peers.contains r && (s.leads || r == s.fld FLK_STAT 4 2) then
      let d := (s.member r).devid
      flkSend 5 (leBytes 8 d) ({ s with flk := { s.flk with pending := some d } }.raise FLK_STAT 24)
    else swapEnd 5 s

/-- SWAP (R451). -/
def execSwap (t : Requester) (w : Word) (s : State) : Host.Outcome State Fault Refusal :=
  finish (regCmd t FLK_CTRL w wrFlkCtrl s)

/-- ROLE_TIMEOUT (R454). (log 196 DEDUCED) -/
def execRoleTimeout (s : State) : Host.Outcome State Fault Refusal :=
  finish (if s.flag FLK_STAT 24 then swapEnd 6 s else s)

/-- MEMBER_LOSS (R462). -/
def execMemberLoss (r : Fin 4) (s : State) : Host.Outcome State Fault Refusal :=
  finish (if s.peers.contains r then (loseMember r s).run else s)

end Sys2Proof.Machine
end

