-- ==== Sys2Proof/Machine/Faults.lean ====
section
/-! DEFINITION. Fault handling and arbitration (22): release of the safe-display state (R470), the watchdog (R472), the
checks of the core and of the safety monitor (R473, R474, R483), the fault query (R477) and the arbiter's reports (R465,
R479). -/

namespace Sys2Proof.Machine

/-- A release is refused: REF, CORE, MEM or NVC is not shown within tolerance, or a core monitor is out (R470).
(log 203 DEDUCED) -/
def State.releaseBlocked (s : State) : Bool := s.fld SYS_CLK_STAT 0 4 ≠ 15 || s.fld SUP_STAT 16 7 ≠ 0

/-- A write of FLT_SAFE_CTRL (R470). (log 203 DEDUCED) -/
def wrSafeCtrl (_who : Nat) (w : Word) (s : State) : State :=
  if !bit w.toNat 0 then s
  else if s.releaseBlocked then s.raise FLT_SAFE 16
  else s.setFlds FLT_SAFE [(0, 1, 0), (4, 4, 0), (8, 7, 0)]

/-- SAFE_RELEASE (R470). -/
def execSafeRelease (t : Requester) (w : Word) (s : State) : Host.Outcome State Fault Refusal :=
  finish (regCmd t FLT_SAFE_CTRL w wrSafeCtrl s)

/-! ### Watchdog (R472, R484) -/

def State.wdgClose (s : State) : Nat := s.fld FLT_WDG_CFG 16 16

/-- OPEN, taken as 0 where it is at or above CLOSE. -/
def State.wdgOpen (s : State) : Nat :=
  let o := s.fld FLT_WDG_CFG 0 16
  if s.wdgClose ≤ o then 0 else o

/-- The watchdog runs: configured, enabled, in P0 Run. -/
def State.wdgRuns (s : State) : Bool := s.ctl.phase = .run && s.ladder = 0 && s.wdgClose ≠ 0

/-- The watchdog starts a new count. -/
def wdgRestart (s : State) : State := s.setFld FLT_WDG_STAT 0 16 s.wdgClose

/-- The watchdog reports an early or a late kick in bit `k` of FLT_WDG_STAT, and restarts. -/
def wdgFault (k : Nat) (s : State) : State := report 80 (wdgRestart (s.raise FLT_WDG_STAT k))

/-- What is left to CLOSE, FLT_WDG_STAT.LEFT, has fallen by the time on SMO since it was last known, which is a free
part of it. (log 157 DESIGN CHOICE, 201 DESIGN CHOICE) -/
def wdgPass (s : State) : State :=
  if s.wdgRuns then
    let x := s.free (s.fld FLT_WDG_STAT 0 16 + 1)
    x.2.setFld FLT_WDG_STAT 0 16 (s.fld FLT_WDG_STAT 0 16 - x.1)
  else s

/-- A kick `ms` after the previous one; where CLOSE is reached, the late fault comes first and the kick falls into the
window that begins there (R7). (log 201 DESIGN CHOICE) -/
def wrWdgKick (ms : Nat) (_who : Nat) (w : Word) (s : State) : State :=
  if !bit w.toNat 0 || !s.wdgRuns then s
  else
    let t := if s.wdgClose ≤ ms then 0 else ms
    let s := if s.wdgClose ≤ ms then wdgFault 17 s else s
    if !s.wdgRuns then s else if t < s.wdgOpen then wdgFault 16 s else wdgRestart s

/-- A kick that comes as another write of the register: its time is the part of CLOSE that has passed, below CLOSE, at
which a late kick would have been reported. (log 201 DESIGN CHOICE) -/
def wrWdgKickNow (who : Nat) (w : Word) (s : State) : State :=
  let s := wdgPass s
  wrWdgKick (min (s.wdgClose - s.fld FLT_WDG_STAT 0 16) (s.wdgClose - 1)) who w s

/-- WATCHDOG_KICK (R472). (log 201 DESIGN CHOICE) -/
def execWatchdogKick (t : Requester) (w : Word) (ms : Nat) (s : State) : Host.Outcome State Fault Refusal :=
  finish (regCmd t FLT_WDG_KICK w (wrWdgKick ms) s)

/-- WATCHDOG_LATE (R472). -/
def execWatchdogLate (s : State) : Host.Outcome State Fault Refusal :=
  finish (if s.wdgRuns then wdgFault 17 s else s)

/-! ### Checks of the core and of the safety monitor -/

/-- HEARTBEAT_LOSS (R473). -/
def execHeartbeatLoss (s : State) : Host.Outcome State Fault Refusal :=
  finish (if s.ctl.phase = .run ∧ s.ladder = 0 then report 81 s else s)

/-- SMO_CHECK_WINDOW (R11, R474): more than 12.5 % away from 655 is a clock fault of SMO, index 19 of SYS_CLK_STAT and
SYS_CLK_FAULT; SMO runs in P0 to P2 (Table 9-1). (log 24 DEDUCED) -/
def execSmoCheckWindow (count : Nat) (s : State) : Host.Outcome State Fault Refusal :=
  if 3 ≤ s.ladder ∨ !s.coreUp then finish s
  else
    let bad := decide (655 < 8 * ((count : Int) - 655).natAbs)
    let s := s.putFlag SYS_CLK_STAT 19 !bad
    finish (if bad then report 19 (s.raise SYS_CLK_FAULT 19) else s)

/-- CLOCK_RECHECK (R483): a clock still out of tolerance brings the monitor's warm reset. (log 199 DEDUCED) -/
def execClockRecheck (d : Fin 4) (out : Bool) (s : State) : Host.Outcome State Fault Refusal :=
  if s.ctl.recheck.getLsbD d then
    let s := { s with ctl := { s.ctl with recheck := s.ctl.recheck &&& ~~~(1#4 <<< d.val) } }
    finish (if out then monitorReset true s else s)
  else finish s

/-- A write of FLT_QSRC (R477); FLT_QRES shows the answer. -/
def wrQsrc (_who : Nat) (w : Word) (s : State) : State := s.write FLT_QSRC w

/-- FLT_QRES: class in force, floor, fixed, channel set and count of the source asked for. -/
def State.qres (s : State) : Nat :=
  let n := s.fld FLT_QSRC 0 7
  let cls := s.faultClass n
  cls + 16 * ((faultSource n).map (·.2)).getD 0 + 128 * b2n (faultFixed n) +
    256 * (if cls = 2 then s.faultChannels n else 0) + 65536 * tget 0 s.flt.counts n

/-- FAULT_QUERY (R477). -/
def execFaultQuery (t : Requester) (w : Word) (s : State) : Host.Outcome State Fault Refusal :=
  finish (regCmd t FLT_QSRC w wrQsrc s)

/-! ### Arbiter -/

/-- The request that a port's arbiter grants among those that wait, each with its class of Table 22-1 and its place in
the order of arrival: the lowest class, the oldest within it (R464). (log 202 DESIGN CHOICE) -/
def arbGrant (l : List (Nat × Nat)) : Option (Nat × Nat) :=
  l.foldl (fun m e => match m with
    | none => some e
    | some k => if e.1 < k.1 ∨ (e.1 = k.1 ∧ e.2 < k.2) then some e else m) none

/-- The users of the NV port that want it from one command to the next, by class (Table 22-1): the power-loss store, a
glyph-store load, another store or a restore, housekeeping. (log 86 DEDUCED, 202 DESIGN CHOICE) -/
def State.nvWaits (s : State) : List (Nat × Nat) :=
  let store := s.stoState == 1 || s.stoState == 2
  (if store && s.sto.cause == 1 then [(2, 0)] else []) ++
    (if s.channels.any fun n => s.chState n == chStarting then [(3, 0)] else []) ++
    (if (store && s.sto.cause != 1) || s.stoState == 3 || (s.stoState == 4 && s.fld STO_PACE 0 16 != 0) then [(6, 0)] else []) ++
    (if s.nv.hk != .none then [(7, 0)] else [])

/-- The users of the memory port that wait from one command to the next: requests held behind a commit, a restore.
(log 202 DESIGN CHOICE) -/
def State.memWaits (s : State) : List (Nat × Nat) :=
  (if s.sto.heldWrites.isEmpty && s.sto.heldReads.isEmpty then [] else [(5, 0)]) ++
    (if s.stoState == 3 || (s.stoState == 4 && s.fld STO_PACE 0 16 != 0) then [(6, 0)] else [])

/-- Bit k − 1 of ARB_STAT.WAITING for the classes that the state shows waiting.
(log 157 DESIGN CHOICE, 202 DESIGN CHOICE) -/
def State.waitingClasses (s : State) : Nat :=
  ofPositions ((List.range 7).filter fun k => (s.nvWaits ++ s.memWaits).any fun e => e.1 = k + 1)

/-- STARVATION (R479): `k` counts classes from 0. (log 202 DESIGN CHOICE) -/
def execStarvation (k : Fin 7) (us : Nat) (s : State) : Host.Outcome State Fault Refusal :=
  let lim := s.fld ARB_CFG 0 16
  finish (if s.coreUp && decide (3 ≤ k.val ∧ lim ≠ 0 ∧ lim < us) then report 82 (s.raise ARB_ISTAT 0) else s)

/-- ARB_BW_WINDOW (R465): RATE of the window, PEAK the longest wait. (log 202 DESIGN CHOICE) -/
def execArbBwWindow (k : List (Nat × Nat)) (s : State) : Host.Outcome State Fault Refusal :=
  finish (if s.coreUp then
    (List.range 7).foldl (fun s i =>
      let e := k.getD i (0, 0)
      s.setFlds (ARB_BW i) [(0, 16, min e.1 0xFFFF), (16, 16, max (s.fld (ARB_BW i) 16 16) (min e.2 0xFFFF))]) s
    else s)

/-- A write of ARB_CLR. -/
def wrArbClr (_who : Nat) (w : Word) (s : State) : State :=
  if bit w.toNat 0 then (List.range 7).foldl (fun s i => s.setFld (ARB_BW i) 16 16 0) s else s

/-- ARB_COUNTER_CLEAR (R479). -/
def execArbCounterClear (t : Requester) (w : Word) (s : State) : Host.Outcome State Fault Refusal :=
  finish (regCmd t ARB_CLR w wrArbClr s)

end Sys2Proof.Machine
end

