-- ==== Sys2Proof/Machine/House.lean ====
section
/-! DEFINITION. Housekeeping of the NV array (08): pre-erase, its suspension and its failures (R158, R165, R169 to R172),
scrub (R166) and wear migration (R167). -/

namespace Sys2Proof.Machine

/-- Another user has the array: the power-loss flow, an update operation, or one that the arbiter grants before
housekeeping (R171, R464). (log 86 DEDUCED, 202 DESIGN CHOICE) -/
def State.nvBusy (s : State) : Bool :=
  s.supplyAway || s.upd.op != .none || (arbGrant s.nvWaits).any (·.1 < 7)

/-- Housekeeping may start an operation in a ladder state up to `n`; an erase without VPP_NV writes no ERASE_INTENT and
does not begin (R158, R490). (log 93 DEDUCED) -/
def State.hkMayStart (s : State) (n : Nat) : Bool :=
  s.ctl.phase = .run && s.vppOn && s.ladder ≤ n && s.nv.hk == .none && !s.nvBusy

/-- Logical blocks whose block is QUARANTINED. -/
def State.quarantined (s : State) : List Nat := (List.range 768).filter fun l => (s.block l).state = .quarantined

/-- The next block to pre-erase after the QUARANTINED ones, with its REASON (R165). (log 89 DESIGN CHOICE) -/
def State.nextPreerase (s : State) : Option (Nat × Nat) :=
  match (sortBy (fun l => (s.block l).wear) (s.poolIn .dirty)).head? with
  | some l => some (l, 1)
  | none =>
    ((s.inPlaceEligible.map fun b => areaBlock s.targetArea (b * blockSize)).find? fun l =>
      (s.block l).state = .mapped || (s.block l).state = .dirty).map fun l => (l, 2)

/-- A pre-erase of logical block `l` begins: ERASE_INTENT first (R158). -/
def beginPreerase (l reason : Nat) (s : State) : State :=
  let s := (jAppend (.eraseIntent (s.block l).phys 0xFF reason) s).markBlock l .preerasing
  { s with nv := { s.nv with hk := .preerase l 0 } }.setFlds NVH_STAT [(0, 2, 1), (2, 1, 0)]

/-- PREERASE_START (R165): PAUSE never stops the erase of a QUARANTINED block; which of several is taken is free.
(log 83 DESIGN CHOICE) -/
def execPreeraseStart (s : State) : Host.Outcome State Fault Refusal :=
  if !s.hkMayStart 4 then finish s
  else
    let q := s.quarantined
    if q ≠ [] then
      let (k, s) := s.free q.length
      finish (beginPreerase (q.getD k 0) 7 s)
    else if s.flag NVH_CTRL 0 then finish s
    else match s.nextPreerase with
      | none => finish s
      | some (l, reason) => finish (beginPreerase l reason s)

/-- Erase the cells of logical block `l`: one more cycle. -/
def eraseBlock (l : Nat) (s : State) : State :=
  let p := (s.block l).phys
  if s.vppOn then { s with nv := wearBlock l (nvErase (p * blockSize) ((p + 1) * blockSize) s.nv) } else s

/-- A block that has failed its verify pass three times is BAD (R169, R170). -/
def retireBlock (l : Nat) (s : State) : State :=
  let s := (jAppend (.retire (s.block l).phys 1) s).markBlock l .bad
  if (536 ≤ l ∧ l ≤ 539) ∨ 764 ≤ l then report 31 s else spareCheck s

/-- PREERASE_DONE (R158, R169, R170): ERASE_DONE, a further attempt, or BAD after the third failure. Without VPP_NV
the erase stands still (R490). (log 88 DESIGN CHOICE, 93 DEDUCED) -/
def execPreeraseDone (ok : Bool) (s : State) : Host.Outcome State Fault Refusal :=
  match s.nv.hk with
  | .preerase l n =>
    if s.flag NVH_STAT 2 || !s.vppOn then finish s
    else
      let s := eraseBlock l s
      let b := s.block l
      if ok then finish (hkEnd ((jAppend (.eraseDone b.phys 0xFF b.wear) s).markBlock l .erased))
      else if n < 2 then finish { s with nv := { s.nv with hk := .preerase l (n + 1) } }
      else finish (hkEnd (retireBlock l s))
  | _ => finish s

/-- PREERASE_RESUME (R171). -/
def execPreeraseResume (s : State) : Host.Outcome State Fault Refusal :=
  match s.nv.hk with
  | .preerase _ _ => finish (if s.nvBusy then s else s.lower NVH_STAT 2)
  | _ => finish s

/-- A copy of block `l` into pool block `t` begins; ACT 2 scrub, 3 migration. (log 91 DESIGN CHOICE) -/
def beginCopy (l t : Nat) (migrate : Bool) (s : State) : State :=
  let s := s.markBlock t .dirty
  { s with nv := { s.nv with hk := .copy l t migrate } }.setFld NVH_STAT 0 2 (if migrate then 3 else 2)

/-- Words of logical block `l` in a list of words. -/
def State.blockWords (s : State) (l : Nat) (ws : List Nat) : List Nat :=
  ws.filter fun w => w * 16 / blockSize = (s.block l).phys

/-- The block's last program is more than AGE days old; AGE 0 disables the test. (log 90 DESIGN CHOICE) -/
def State.aged (s : State) (l : Nat) : Bool :=
  let age := s.fld NVH_SCRUB 16 16
  age ≠ 0 && (s.block l).progTime + age * 86400 < s.rtc.sec

/-- SCRUB (R166). (log 85 DEDUCED) -/
def execScrub (block : Fin 768) (weak : Bool) (s : State) : Host.Outcome State Fault Refusal :=
  let l := block.val
  if s.hkMayStart 2 && !s.flag NVH_CTRL 0 && s.fld NVH_SCRUB 0 16 != 0 && (s.block l).state == .mapped &&
      decide (l < 536 ∨ (540 ≤ l ∧ l < 764)) then
    let s := if (s.blockWords l s.nv.poison).isEmpty then s else s.raise NVH_STAT 4
    if weak || !(s.blockWords l s.nv.weak).isEmpty || s.aged l then
      match s.leastWornErased [] with
      | some t => finish (beginCopy l t false s)
      | none => finish s
    else finish s
  else finish s

/-- The pool block and the MAPPED block of a wear migration, where their wear differs by more than DELTA and the
available count stays at or above NEED (R167). (log 85 DEDUCED, 89 DESIGN CHOICE) -/
def State.migration (s : State) : Option (Nat × Nat) := do
  let t ← (sortBy (fun l => 2 ^ 32 - (s.block l).wear) (s.poolIn .erased)).head?
  let l ← (sortBy (fun l => (s.block l).wear) ((List.range 764).filter fun l =>
    (l < 536 || 540 ≤ l) && (s.block l).state == .mapped)).head?
  let d := s.fld NVH_WL 0 16
  if d ≠ 0 ∧ (s.block l).wear + d < (s.block t).wear ∧ s.need < s.avail then some (l, t) else none

/-- WEAR_MIGRATION (R167). -/
def execWearMigration (s : State) : Host.Outcome State Fault Refusal :=
  if s.hkMayStart 2 && !s.flag NVH_CTRL 0 then
    match s.migration with
    | some (l, t) => finish (beginCopy l t true s)
    | none => finish s
  else finish s

/-- Copy the cells of logical block `l` with their check bits into the block of `t` (R111, R166). -/
def copyBlock (l t : Nat) (s : State) : State :=
  let a := (s.block l).phys * blockSize
  let b := (s.block t).phys * blockSize
  { s with nv := { s.nv with
      cells := tcopy s.nv.cells b s.nv.cells a blockSize,
      poison := wordCopy s.nv.poison (b / 16) s.nv.poison (a / 16) (blockSize / 16),
      weak := wordCopy s.nv.weak (b / 16) s.nv.weak (a / 16) (blockSize / 16) } }

/-- BLOCK_COPY_DONE (R166, R161): the MAP record with GEN 0 switches the blocks. A copy that VPP_NV
fails is abandoned (R490). (log 85 DEDUCED, 93 DEDUCED) -/
def execBlockCopyDone (s : State) : Host.Outcome State Fault Refusal :=
  match s.nv.hk with
  | .copy l t _ =>
    if !s.vppOn then finish (hkSuspend s)
    else
      let s := copyBlock l t s
      let p := (s.block t).phys
      let s := { s with nv := { s.nv with blocks := swapBlocks l t (s.rtc.sec % 2 ^ 32) s.nv.blocks } }
      finish (hkEnd (jMap 0 [(l, p)] s))
  | _ => finish s

end Sys2Proof.Machine
end

