-- ==== Sys2Proof/Machine/Otp.lean ====
section
/-! DEFINITION. One-time-programmable settings and lifecycle (04): the array and its slots, the load, the admission
checks and the programming of a generation. -/

namespace Sys2Proof.Machine

/-! ### The array (R62, R63) -/

/-- Array offset, slot size and payload size of a group (Table 4-1). -/
def otpGroup (g : Nat) : Nat × Nat × Nat :=
  [(0x000, 32, 16), (0x080, 128, 120), (0x280, 40, 32), (0x320, 16, 8), (0x360, 16, 4)].getD g (0, 0, 0)

/-- The seal word. -/
def otpSeal : Nat := 0xC3A55A3C

/-- The bytes of slot `n` of group `g`. -/
def slotBytes (t : Tab Byte) (g n : Nat) : List Byte :=
  tgetAll 0 t ((otpGroup g).1 + n * (otpGroup g).2.1) (otpGroup g).2.1

/-- Some bit of the slot is 1 (R63). -/
def slotUsed (t : Tab Byte) (g n : Nat) : Bool := (slotBytes t g n).any (· ≠ 0)

/-- Seal and CRC of the slot match (R63). -/
def slotValid (t : Tab Byte) (g n : Nat) : Bool :=
  let p := (otpGroup g).2.2
  let b := slotBytes t g n
  ofLe ((b.drop (p + 4)).take 4) == otpSeal && ofLe ((b.drop p).take 4) == crc32c (b.take p)

/-- The highest-numbered slot of group `g` with property `f`. -/
def topSlot (f : Nat → Bool) : Option Nat := [3, 2, 1, 0].find? f

/-- The slot of group `g` in force after a load (R64). -/
def slotInForce (t : Tab Byte) (g : Nat) : Option Nat := topSlot (slotValid t g)

/-- The payload in force of group `g`. -/
def payloadInForce (t : Tab Byte) (g : Nat) : Option (List Byte) :=
  (slotInForce t g).map fun n => (slotBytes t g n).take (otpGroup g).2.2

/-- OTP_USED.USED: bit 4g + n (follows the array as it stands). -/
def otpUsed (t : Tab Byte) : Nat :=
  ofPositions ((List.range 20).filter fun i => slotUsed t (i / 4) (i % 4))

/-! ### Lifecycle (R66, R78) -/

/-- LIFE values that Table 4-2 lists. -/
def lifeCoded (state lock : Nat) : Bool := 1 ≤ state && state ≤ 3 && lock ≤ 1

/-- Lifecycle state (0 BLANK, 1 FACTORY, 2 FIELD, 3 RETIRED), LIFE_FAULT and DEBUG_LOCKED of an array (R66, R78).
(log 52 DESIGN CHOICE) -/
def otpLife (t : Tab Byte) : Nat × Bool × Bool :=
  match payloadInForce t 4 with
  | some p =>
    let st := ofLe (p.take 1)
    let lock := ofLe ((p.drop 1).take 1)
    if lifeCoded st lock then (st, false, st = 2 || (st = 1 && lock = 1)) else (2, true, true)
  | none => if (List.range 4).any (slotUsed t 4) then (2, true, true) else (0, false, false)

/-- The test access port rule of Table 4-4. -/
def tapRuleOf (life : Nat) (locked : Bool) : TapRule :=
  if life = 3 then .boundaryOnly else if locked then .locked else .opened

/-- The values in force of an array (R64, Tables 4-2, 4-3). -/
def otpForceOf (t : Tab Byte) : OtpForce :=
  let n := fun (p : List Byte) o k => ofLe ((p.drop o).take k)
  let ident := payloadInForce t 0
  let trim := payloadInForce t 1
  let hold := payloadInForce t 3
  { devid := (ident.map (n · 0 8)).getD 0xFFFFFFFFFFFFFFFF
    rank := (ident.map (n · 8 1)).getD 3
    analog := (trim.map (·.take 96)).getD []
    turnover := (trim.map fun p => toSigned 16 (n p 0x60 2)).getD 0
    coeff := (trim.map (n · 0x62 2)).getD 0
    offset := (trim.map fun p => toSigned 16 (n p 0x64 2)).getD 0
    keyHash := payloadInForce t 2
    holdCap := (hold.map (n · 0 4)).getD 0
    vholdMin := (hold.map (n · 4 2)).getD 0
    vholdMax := (hold.map (n · 6 2)).getD 0
    life := (otpLife t).1 }

/-- The OTP load (R64, R70): the values in force and OTP_STAT; `weak` are the slots that fail at margin level. -/
def otpLoad (weak : Nat) (s : State) : State :=
  let t := s.otp.array
  let gen := fun g => (slotInForce t g).getD 7
  let (life, fault, locked) := otpLife t
  let isWeak := (List.range 20).any fun i => bit weak i && slotValid t (i / 4) (i % 4)
  let s := { s with otp := { s.otp with force := otpForceOf t },
                    ctl := { s.ctl with tapRule := tapRuleOf life locked } }
  let s := s.setFlds OTP_STAT [(0, 3, gen 0), (3, 3, gen 1), (6, 3, gen 2), (9, 3, gen 3), (12, 3, gen 4),
    (15, 1, b2n fault), (16, 2, life), (18, 1, b2n locked), (20, 1, 1)]
  if isWeak then s.raise OTP_STAT 19 else s

/-! ### Admission (R68, Table 4-5) -/

/-- The payload bytes staged in OTP_BUF. -/
def State.otpBuf (s : State) (n : Nat) : List Byte :=
  ((List.range 32).flatMap fun k => leBytes 4 (s.reg (OTP_BUF k)).toNat).take n

/-- The authorisation block in OTP_AUTH. -/
def State.otpAuth (s : State) : List Byte := (List.range 32).flatMap fun k => leBytes 4 (s.reg (OTP_AUTH k)).toNat

/-- Table 4-4 permits programming the group in the lifecycle state. (log 46 DEDUCED) -/
def groupPermitted (life g : Nat) : Bool :=
  match g with
  | 0 => life ≤ 1
  | 1 => life ≤ 1
  | 2 => life ≤ 2
  | 3 => life ≤ 2
  | _ => true

/-- Reserved payload bytes are 0 and coded values are coded (check 4). -/
def payloadCoded (g : Nat) (p : List Byte) : Bool :=
  let b := fun o => ofLe ((p.drop o).take 1)
  match g with
  | 0 => b 8 ≤ 3 && (p.drop 9).all (· == 0)
  | 1 => (p.drop 0x66).all (· == 0)
  | 4 => lifeCoded (b 0) (b 1) && (p.drop 2).all (· == 0)
  | _ => true

/-- The LIFE target is permitted by Table 4-4 and DEBUG_LOCK is not lowered (check 5). (log 46 DEDUCED, 50 DEDUCED) -/
def lifeTarget (life : Nat) (oldLock state lock : Nat) : Bool :=
  oldLock ≤ lock &&
    (match life with
     | 0 => state = 1
     | 1 => (state = 1 && lock = 1) || state = 2 || state = 3
     | 2 => state = 3
     | _ => false)

/-- The authorisation of a KEYS generation in FIELD (R72). (log 47 DEDUCED) -/
def keysAuthorised (t : Tab Byte) (auth p : List Byte) (devid slot : Nat) : Bool :=
  match payloadInForce t 2 with
  | none => false
  | some k =>
    let n := fun o => ofLe ((auth.drop o).take 32)
    sha256 (auth.take 64) == k &&
      ecdsaVerify (n 0) (n 32) (n 64) (n 96) (sha256 (p ++ leBytes 8 devid ++ leBytes 1 slot))

/-- The admission checks in their order: the target slot, or the RESULT of the first that fails. While LIFE_FAULT is 1
they judge FIELD (R78); the DEBUG_LOCK that check 5 compares is the byte of the highest valid LIFE slot, coded or not,
and 0 where there is none. (log 47 DEDUCED, 50 DEDUCED) -/
def otpAdmit (s : State) (g : Nat) (vppOk : Bool) : Nat ⊕ Nat :=
  let t := s.otp.array
  let life := if s.flag OTP_STAT 15 then 2 else (otpLife t).1
  let p := s.otpBuf (otpGroup g).2.2
  let b := fun o => ofLe ((p.drop o).take 1)
  let slot := match topSlot (slotUsed t g) with | none => 0 | some n => n + 1
  let oldLock := ((payloadInForce t 4).map fun q => ofLe ((q.drop 1).take 1)).getD 0
  let id := (payloadInForce t 0).map fun q => ofLe (q.take 8)
  if 4 < g then .inl 1
  else if !groupPermitted life g then .inl 1
  else if 3 < slot ∨ (g = 4 ∧ slot = 3 ∧ b 0 ≠ 3) then .inl 2
  else if !payloadCoded g p then .inl 3
  else if g = 4 ∧ !lifeTarget life oldLock (b 0) (b 1) then .inl 4
  else if g = 0 ∧ life = 1 ∧ id.any (· ≠ ofLe (p.take 8)) then .inl 5
  else if g = 4 ∧ b 0 = 2 ∧ [0, 1, 2].any (fun k => (slotInForce t k).isNone) then .inl 6
  else if g = 2 ∧ life = 2 ∧ !keysAuthorised t s.otpAuth p (id.getD 0xFFFFFFFFFFFFFFFF) slot then .inl 7
  else if !vppOk then .inl 8
  else .inr slot

/-- Start a program operation on group `g` (R68). -/
def otpStart (g : Nat) (vppOk : Bool) (s : State) : State :=
  match otpAdmit s g vppOk with
  | .inl code => s.setFld OTP_PROG_STAT 8 8 code
  | .inr slot =>
    let p := s.otpBuf (otpGroup g).2.2
    let image := p ++ leBytes 4 (crc32c p) ++ leBytes 4 otpSeal
    ({ s with otp := { s.otp with prog := some { group := g, slot := slot, image := image } } }.raise OTP_PROG_STAT 0).setFld
      OTP_PROG_STAT 16 3 slot

/-- A write of OTP_PROG_CTRL (R67, R76): GROUP stores; START with the ARM value starts an operation; ignored while BUSY.
(log 11 DEDUCED) -/
def wrOtpProg (vppOk : Bool) (_who : Nat) (w : Word) (s : State) : State :=
  if !bit w.toNat 8 then s.setFld OTP_PROG_CTRL 0 3 w.toNat
  else if s.flag OTP_PROG_STAT 0 then s
  else
    let s := s.setFld OTP_PROG_CTRL 0 3 w.toNat
    if bits w.toNat 16 16 ≠ 0x4F54 then s.setFld OTP_PROG_STAT 8 8 0x0A
    else otpStart (bits w.toNat 0 3) vppOk s

/-- A write of OTP_BUF or OTP_AUTH (R76). -/
def wrOtpBuf (a : Nat) (_who : Nat) (w : Word) (s : State) : State :=
  if s.flag OTP_PROG_STAT 0 then s else s.write a w

/-! ### Programming (R68, R69, R77) -/

/-- Program bytes into the array: bits only rise (Model). -/
def otpBurn (off : Nat) (l : List Byte) (t : Tab Byte) : Tab Byte :=
  l.zipIdx.foldl (fun t e => tset 0 t (off + e.2) (tget 0 t (off + e.2) ||| e.1)) t

/-- What a margin failure leaves of an image (R77): the part (payload, CRC, seal) that holds the failing word is
programmed, the parts after it are not; the bits the failing word holds are not specified, but a failing seal is not
the seal word, and some bit of the slot is 1, for it stays used. (log 45 DEDUCED) -/
def failedImage (image : List Byte) (k free : Nat) : List Byte :=
  let n := image.length - 8
  let part := if 4 * k < n then n else if 4 * k < n + 4 then n + 4 else n + 8
  let word := ofLe ((image.drop (4 * k)).take 4) &&& (if n + 4 ≤ 4 * k then free &&& 0xFFFFFFFB else free)
  let left := (image.take (4 * k) ++ leBytes 4 word ++ image.drop (4 * k + 4)).take part
  if left.all (· == 0) then image.take (4 * k) ++ leBytes 4 (2 ^ (free % 32)) else left

/-- A deferred warm reset still waits: for the power-loss flow (R17), and where SYS_RST_CTRL.WARM alone has asked for
it, for an OTP operation (R75) or an update operation (R95). (log 19 DEDUCED) -/
def State.warmBlocked (s : State) : Bool :=
  s.ctl.lossFlow || (s.ctl.warmDeferred = causeSoft && (s.flag OTP_PROG_STAT 0 || s.upd.op != .none))

/-- Perform a deferred warm reset once nothing defers it any more (R75, R95). (log 19 DEDUCED) -/
def releaseWarm (s : State) : State :=
  if s.ctl.warmDeferred = 0 || s.warmBlocked then s else requestWarm s.ctl.warmDeferred s

/-- The program operation ends (R68, R69, R77); a warm reset that waited for it follows (R75). (log 45 DEDUCED) -/
def execOtpProgramDone (failed : Option Nat) (s : State) : Host.Outcome State Fault Refusal :=
  match s.otp.prog with
  | none => finish s
  | some p =>
    let off := (otpGroup p.group).1 + p.slot * (otpGroup p.group).2.1
    let words := p.image.length / 4
    let done := fun (bytes : List Byte) (result : Nat) (s : State) =>
      ({ s with otp := { s.otp with array := otpBurn off bytes s.otp.array, prog := none } }.lower OTP_PROG_STAT 0).setFld
        OTP_PROG_STAT 8 8 result
    match failed.filter (· < words) with
    | some k =>
      let (x, s) := s.free (2 ^ 32)
      finish (releaseWarm (done (failedImage p.image k x) 0x0B s))
    | none =>
      let s := done p.image 0 s
      let st := ofLe (p.image.take 1)
      let lock := ofLe ((p.image.drop 1).take 1)
      let s := if p.group = 4 ∧ (lock = 1 ∨ st = 2 ∨ st = 3) then
          { s with ctl := { s.ctl with tapRule := tapRuleOf st true } } else s
      finish (releaseWarm s)

/-- OTP_PROGRAM (R67). (log 44 DESIGN CHOICE) -/
def execOtpProgram (t : Requester) (w : Word) (vppOk : Bool) (s : State) : Host.Outcome State Fault Refusal :=
  finish (regCmd t OTP_PROG_CTRL w (wrOtpProg vppOk) s)

end Sys2Proof.Machine
end

