-- ==== Sys2Proof/Machine/Update.lean ====
section
/-! DEFINITION. Updating structure and glyph images (05): the update aperture (R80, R81), the commands of Table 5-1, the
slot selector and its rings (R86 to R92, R101) and what a power failure leaves (Table 5-4). -/

namespace Sys2Proof.Machine

/-! ### The slot selector (R87, R88, R92) -/

/-- A journal block that failed in a ring erase is reported (R170). -/
def reportRing (x : Bool × State) : Bool × State := (x.1, reportLost x.2)

/-- IMAGE_VERSION of the structure image in a pair. -/
def State.versionIn (s : State) (pair : Bool) : Nat := u32 (s.structReader pair) 0x10

/-- A record that follows the one in force. GEN wraps where a start writes one after the last (R93 speaks of commands
only). (log 59 DESIGN CHOICE) -/
def State.nextSel (s : State) (active : Bool) (state boots cause : Nat) : SelRec :=
  { gen := (s.selector.gen + 1) % 2 ^ 32, active := active, state := state, bootsLeft := boots,
    version := s.versionIn active, versionPrev := s.versionIn (!active), cause := cause, ok := true, junk := 0 }

/-- A selector record goes into ring 0, then into ring 1 (R86, R88); a copy that fails its program verify stops it
(R100). Whether both stand. (log 55 DESIGN CHOICE) -/
def selPut (r : SelRec) (ok0 ok1 : Bool) (s : State) : Bool × State :=
  let (junk, s) := s.free (2 ^ 256)
  let x := reportRing (ringPut false { r with ok := ok0, junk := if ok0 then 0 else junk } s)
  if x.1 then reportRing (ringPut true { r with ok := ok1, junk := if ok1 then 0 else junk } x.2) else x

/-! ### The slots and the aperture (Tables 5-2, 6-2) -/

/-- The logical blocks of a pair's structure slot and glyph slot. -/
def structBlocks (pair : Bool) : List Nat := (List.range 4).map (· + if pair then 516 else 512)
def glyphBlocks (pair : Bool) : List Nat := (List.range 8).map (· + if pair then 528 else 520)

/-- The blocks of the parts that an OPEN selects. -/
def partBlocks (pair : Bool) (parts : BitVec 2) : List Nat :=
  (if parts.getLsbD 0 then structBlocks pair else []) ++ (if parts.getLsbD 1 then glyphBlocks pair else [])

/-- The window offset of an aperture address. -/
def State.apertureOffset (s : State) (a : Nat) : Nat := s.apertureAt (a - 0x90000000)

/-- The aperture address has a target (Table 5-2). (log 150 DEDUCED) -/
def apertureMapped (a n : Nat) : Bool := 0x90000000 ≤ a && a + n ≤ 0x90300000

/-- A write of `n` bytes at `a` is accepted (R81): it lies in one part, and that part is open. (log 150 DEDUCED) -/
def State.apertureOpen (s : State) (a n : Nat) : Bool :=
  let o := a - 0x90000000
  s.updState == upOpen && apertureMapped a n &&
    (if o < 0x100000 then o + n ≤ 0x100000 && s.upd.parts.getLsbD 0 else s.upd.parts.getLsbD 1 && !s.upd.cloned) &&
    s.upd.written.all fun r => o + n ≤ r.1 || r.2 ≤ o

/-- Logical block `l` is programmed now (08, Model). -/
def stampBlock (l : Nat) (s : State) : State := s.setBlock l { s.block l with progTime := s.rtc.sec % 2 ^ 32 }

/-- Accepted bytes reach the array; a failed program verify (none passes without VPP_NV, R490) stops the update with
NV_FAULT and leaves bytes that the spec does not give (R100). (log 55 DESIGN CHOICE) -/
def aperturePut (a : Nat) (data : List Byte) (ok : Bool) (s : State) : State :=
  let o := a - 0x90000000
  let (x, s) := if ok then (0, s) else s.free (2 ^ (8 * data.length))
  let at_ := s.apertureOffset a
  let s := stampBlock (at_ / blockSize) (nvProgram at_ (if ok then data else leBytes data.length x) (hkSuspend s))
  let s := { s with upd := { s.upd with written := s.upd.written ++ [(o, o + data.length)] } }
  let s := s.bump UPD_WRCNT 0 22 data.length
  if ok && s.vppOn then s else updEnd upFailed 0x26 s

/-- A write to the update aperture: held while a start verifies or the ports are closed (R57, R180), refused, or stored
(R81); no request crosses a 4 KiB boundary (Table 15-3). (log 56 DEDUCED) -/
def apertureAccess (t : Tenant) (addr : Word) (data : List Byte) (ok : Bool) (s : State) : State :=
  if s.holdsRegs then { s with txn := { s.txn with held := s.txn.held ++ [.aperture t addr data ok] } }
  else if !s.servesRegs then s
  else if 4096 < addr.toNat % 4096 + data.length then { s with lastStatus := stFormat }
  else if t = 0 && s.apertureOpen addr.toNat data.length then
    aperturePut addr.toNat data ok { s with lastStatus := stOk }
  else { s with lastStatus := stPermission }

/-- APERTURE_WRITE (R81). (log 56 DEDUCED) -/
def execApertureWrite (t : Tenant) (addr : Word) (data : List Byte) (ok : Bool) (s : State) :
    Host.Outcome State Fault Refusal := finish (apertureAccess t addr data ok s)

/-! ### Commands (Table 5-1) -/

/-- The selector record is written: the state is WRITING. -/
def updWriting (r : SelRec) (s : State) : State :=
  { hkSuspend s with upd := { s.upd with op := .write r } }.setFlds UPD_STAT [(0, 3, upWriting), (8, 8, 0)]

/-- OPEN (R83): its own erase of a block takes the place of a pre-erase of that block that was running.
(log 87 DEDUCED) -/
def updOpenNow (s : State) : State :=
  let parts := BitVec.ofNat 2 (s.fld UPD_CTRL 8 2)
  let s := hkGiveUp (partBlocks s.inactive parts) ((hkSuspend s).setReg UPD_WRCNT 0)
  let s := { s with upd := { s.upd with parts := parts, cloned := s.flag UPD_CTRL 10, written := [] } }
  if parts = 0 then updEnd upOpen 0 s
  else
    let s := ((partBlocks s.inactive parts).filter fun l => (s.block l).state ≠ .bad).foldl (fun s l =>
      (jAppend (.eraseIntent (s.block l).phys 0xFF 3) s).markBlock l .preerasing) s
    { s with upd := { s.upd with op := .erase } }.setFlds UPD_STAT [(0, 3, upErasing), (8, 8, 0)]

/-- A verification of the inactive pair starts. -/
def updVerifyNow (rollback : Bool) (s : State) : State :=
  { hkSuspend s with upd := { s.upd with op := .verify rollback } }.setFlds UPD_STAT [(0, 3, upVerifying), (8, 8, 0)]

/-- The RESULT with which a command is refused; 0 where it is accepted (R82, R84, R90, R93). (log 53 DEDUCED) -/
def State.updRefuse (s : State) (w : Nat) : Nat :=
  let st := s.updState
  let trial := s.selector.state = 1
  let one := (bitsSet 5 w).length = 1
  let busy := st = upErasing ∨ st = upVerifying ∨ st = upWriting
  let armed := bits w 24 8 = 0x5A
  let last := 0xFFFFFFFF ≤ s.selector.gen
  if !one then 0x23
  else if bit w 1 then (if busy then 0x20 else 0)
  else if !armed then 0x22
  else if bit w 0 then
    if bit w 10 && !bit w 9 then 0x23
    else if busy ∨ st = upOpen then 0x20
    else if trial then 0x21
    else 0
  else if bit w 2 then (if st ≠ upVerified then 0x20 else if last then 0x25 else 0)
  else if bit w 3 then (if busy ∨ !trial then 0x20 else if last then 0x25 else 0)
  else if busy then 0x20
  else if last then 0x25
  else 0

/-- A write of UPD_CTRL (R82). (log 11 DEDUCED, 53 DEDUCED) -/
def wrUpdCtrl (_who : Nat) (w : Word) (s : State) : State :=
  let v := w.toNat
  let s := s.write UPD_CTRL w
  if v % 32 = 0 then s
  else
    let r := s.updRefuse v
    if r ≠ 0 then s.setFld UPD_STAT 8 8 r
    else if bit v 0 then updOpenNow s
    else if bit v 1 then updVerifyNow false s
    else if bit v 2 then
      let boots := s.fld UPD_CTRL 16 4
      updWriting (s.nextSel s.inactive (if boots = 0 then 0 else 1) boots 1) s
    else if bit v 3 then updWriting (s.nextSel s.running 0 0 3) s
    else if s.selector.state = 1 then updWriting (s.nextSel s.inactive 2 0 5) s
    else updVerifyNow true s

/-- OPEN (R83). -/
def execUpdOpen (t : Requester) (w : Word) (s : State) : Host.Outcome State Fault Refusal :=
  finish (regCmd t UPD_CTRL w wrUpdCtrl s)

/-- VERIFY (R85). -/
def execUpdVerify (t : Requester) (w : Word) (s : State) : Host.Outcome State Fault Refusal :=
  finish (regCmd t UPD_CTRL w wrUpdCtrl s)

/-- ACTIVATE (R86). -/
def execUpdActivate (t : Requester) (w : Word) (s : State) : Host.Outcome State Fault Refusal :=
  finish (regCmd t UPD_CTRL w wrUpdCtrl s)

/-- CONFIRM (R90). -/
def execUpdConfirm (t : Requester) (w : Word) (s : State) : Host.Outcome State Fault Refusal :=
  finish (regCmd t UPD_CTRL w wrUpdCtrl s)

/-- ROLLBACK (R91). -/
def execUpdRollback (t : Requester) (w : Word) (s : State) : Host.Outcome State Fault Refusal :=
  finish (regCmd t UPD_CTRL w wrUpdCtrl s)

/-! ### Ends of the operations -/

/-- A slot block is erased and open for programming: up to three attempts, then BAD (R158, R169); a BAD block stays as
it is. Whether it may be programmed. (log 87 DEDUCED, 88 DESIGN CHOICE) -/
def slotErased (x : Bool × State) (l : Nat) : Bool × State :=
  let s := x.2
  if (s.block l).state = .bad then (false, s)
  else if !s.vppOn then (false, s.markBlock l .mapped)
  else
    let p := (s.block l).phys
    let y := eraseTries l 0xFF 3 (nvErase (p * blockSize) ((p + 1) * blockSize) s.nv)
    let s := { s with nv := y.2 }
    if y.1 then (x.1, (jAppend (.eraseDone p 0xFF (s.block l).wear) s).markBlock l .mapped)
    else (false, retireBlock l s)

/-- The glyph image of the running pair goes into the inactive glyph slot: its first `n` bytes. -/
def cloneGlyph (n : Nat) (s : State) : State :=
  (List.range 8).foldl (fun s k =>
    let a := (s.block ((glyphBlocks s.running).getD k 0)).phys * blockSize
    let b := (s.block ((glyphBlocks s.inactive).getD k 0)).phys * blockSize
    let m := min blockSize (n - k * blockSize)
    if !s.vppOn then s
    else { s with nv := { s.nv with
        cells := tcopy s.nv.cells b s.nv.cells a m,
        poison := wordCopy s.nv.poison (b / 16) s.nv.poison (a / 16) (m / 16) } } |> stampBlock ((glyphBlocks s.inactive).getD k 0)) s

/-- UPDATE_ERASE_DONE (R83, R100). (log 55 DESIGN CHOICE) -/
def execUpdateEraseDone (ok : Bool) (s : State) : Host.Outcome State Fault Refusal :=
  match s.upd.op with
  | .erase =>
    let x := (partBlocks s.inactive s.upd.parts).foldl slotErased (true, s)
    let s := x.2
    if !x.1 then finish (releaseWarm (updEnd upFailed 0x26 s))
    else if s.upd.cloned then
      if ok && s.vppOn then finish (releaseWarm (updEnd upOpen 0 (cloneGlyph 0x200000 s)))
      else
        let (n, s) := s.free 0x200001
        finish (releaseWarm (updEnd upFailed 0x26 (cloneGlyph n s)))
    else finish (releaseWarm (updEnd upOpen 0 s))
  | _ => finish s

/-- VERIFY_DONE (R85, R91). (log 58 DESIGN CHOICE) -/
def execVerifyDone (s : State) : Host.Outcome State Fault Refusal :=
  match s.upd.op with
  | .verify rollback =>
    let p := s.inactive
    match s.verifyAhead p with
    | .inl e =>
      let s := s.setFlds UPD_ERR [(0, 8, e.code), (8, 5, e.sect), (13, 1, b2n p), (16, 16, e.record)]
      finish (releaseWarm (if rollback then updEnd upIdle 0x27 s else updEnd upFailed 0x28 s))
    | .inr img =>
      let s := s.setReg UPD_VER (BitVec.ofNat 32 img.version)
      if rollback then finish (updWriting (s.nextSel p 2 0 5) s)
      else finish (releaseWarm (updEnd upVerified 0 s))
  | _ => finish s

/-- SELECTOR_WRITE_DONE (R86, R88, R100): ring 0 first; a failed record stops the operation. -/
def execSelectorWriteDone (ok0 ok1 : Bool) (s : State) : Host.Outcome State Fault Refusal :=
  match s.upd.op with
  | .write r =>
    let x := selPut r ok0 ok1 s
    finish (releaseWarm (if x.1 then updEnd upIdle 0 (showSelector x.2) else updEnd upFailed 0x26 (showSelector x.2)))
  | _ => finish s

end Sys2Proof.Machine
end

