-- ==== Sys2Proof/Machine/Sluice.lean ====
section
/-! DEFINITION. The power-loss flow and the commands of Sluice (07): supply trip and return, the steps of a store, manual
stores, and the ends of Class A and background restore. -/

namespace Sys2Proof.Machine

/-! ### The end of a start path -/

/-- Every declared channel whose ACTIVE is set starts (R357), and its output where the sequencer is in UP (R360).
(log 30 DEDUCED) -/
def startChannels (s : State) : State :=
  let l := s.channels.filter fun n => s.flag (CH_CTRL n) 0
  forEach l (fun n s => outputStart n (startChannel n s)) { s with door := { s.door with channels := BitVec.ofNat 4 (ofPositions l) } }

/-- A start path ends in P0 Run: the channels start, the watchdog counts from here, and a warm reset that waited follows
(R20). -/
def pathEnd (s : State) : State :=
  warmAfter (reachRun (wdgRestart (startChannels { s with ctl := { s.ctl with phase := .run } })))

/-! ### The power-loss flow (R129, R147 to R151, R156) -/

/-- The POWER_LOSS record (Table 10-4). -/
def powerLossRecord (vin vhold : Nat) (s : State) : State :=
  logWrite 0x01 (leBytes 2 vin ++ leBytes 2 vhold ++ leBytes 1 s.ladder ++ leBytes 1 (ofPositions s.activeChannels)) s

/-- The door flow runs: the full restore is not complete (RUN), or a channel that counts has not sent its first restored
line yet, although the last to-restore line was filled in phase 4 (R32, R37). (log 31 DEDUCED) -/
def State.doorFlow (s : State) : Bool :=
  s.flag SYS_DOOR_STAT 0 || (s.door.counting && !s.doorChannels.isEmpty && s.reg SYS_DOOR_LINE == 0)

/-- A supply trip or a rail timeout abandons the door flow (R37, R38). (log 31 DEDUCED) -/
def doorAbort (s : State) : State :=
  if s.doorFlow then
    (({ s with door := { s.door with counting := false } }.raise SYS_DOOR_STAT 3).lower SYS_DOOR_STAT 0)
  else s

/-- A trip in P4 or P5, or while a cold reset that follows no wake holds the core: only the POWER_LOSS record
(R149, R156, R493). (log 31 DEDUCED) -/
def State.tripRecordOnly (s : State) : Bool :=
  s.ladder = 4 || s.ladder = 5 || (s.ctl.phase = .reset && s.ctl.path != .warm && s.pwr.exiting.isNone)

/-- A part's trip point lies up to 4 codes from THRESH (R493): the row says that the part has tripped.
(log 78 DEDUCED) -/
def State.tripCode (s : State) : Nat := s.fld STO_DET 0 10 + 4

/-- The least code at which a part may see the supply return: HYST above a trip point 4 codes below THRESH (R147, R493).
 (log 78 DEDUCED) -/
def State.returnCode (s : State) : Nat := s.fld STO_DET 0 10 + s.fld STO_DET 16 10 - 4

/-- The detector works: from P0 to P5 while the backup domain has a supply, and no trip stands (R493).
(log 31 DEDUCED, 74 DEDUCED) -/
def State.mayTrip (s : State) : Bool :=
  (!s.supplyAway || (s.ctl.lossFlow && s.ctl.supplyBack)) && s.ladder != 6 && !s.rtc.por

/-- A trip ends an exit without a further step; a wake whose rails are still out of range keeps its 90 ms (R38).
(log 31 DEDUCED) -/
def exitTrip (s : State) : State :=
  if s.pwr.exiting.any (5 ≤ ·) && !s.ctl.railsOk then s
  else { s with pwr := { s.pwr with exiting := none } }.lower PWR_STAT 9

/-- The store that a trip meets or starts (R148, R149, R151): one for another cause becomes the power-loss store, a
commit in progress too; after a supply return metering runs again from the next region on (R147). (log 77 DEDUCED) -/
def tripStore (vhold : Nat) (s : State) : State :=
  if s.stoState = 1 ∨ s.stoState = 2 then
    { s with sto := { s.sto with
      flags := if s.sto.cause = 1 then s.sto.flags else s.sto.flags ||| 8, meterNext := true } }
  else startStore 1 true vhold s

/-- The NV controller is taken from every other user (R150). -/
def takeNv (s : State) : State := hkSuspend (reportLost (updAbandon (otpAbort s)))

/-- A trip: the power-loss flow runs. Its records, that of an abandoned OTP operation and those of fault reports among
them, fall due in one cycle (R216). (log 10 DEDUCED, 115 DESIGN CHOICE) -/
def supplyTrip (vin vhold : Nat) (s : State) : State :=
  let first := s.log.next
  let s := (powerLossRecord vin vhold s).raise STO_DET 31
  let s := takeNv { s with ctl := { s.ctl with lossFlow := true, supplyBack := false },
                           seq := { s.seq with atTrip := s.seqState ≠ seqOff || s.seq.offWait } }
  let s := canRelease 1 (canRelease 0 (doorAbort s))
  logSort first (lossEnd (downTrigger 3 (tripStore vhold (exitTrip (entryTrip s)))))

/-- SUPPLY_TRIP (R129): VIN_SNS below the part's trip point. (log 74 DEDUCED, 78 DEDUCED) -/
def execSupplyTrip (vin vhold : Code) (s : State) : Host.Outcome State Fault Refusal :=
  if s.tripCode ≤ vin.toNat ∨ !s.mayTrip then finish s
  else if s.tripRecordOnly then
    finish ((if s.ladder = 4 then s.raise STO_DET 31 else s) |> powerLossRecord vin.toNat vhold.toNat)
  else finish (supplyTrip vin.toNat vhold.toNat s)

/-- The device leaves the power-loss flow, back to P0 Run from intact working memory, with no restore (R147); a start
path that the trip stopped in phase 4 ends so too. (log 73 DEDUCED) -/
def leaveFlow (s : State) : State :=
  let s := { s with ctl := { s.ctl with lossFlow := false, lossOver := false, supplyBack := false } }
  if s.ctl.phase = .classA then pathEnd (portsBack s)
  else if s.ctl.phase = .run then reachRun (portsBack (if s.ladder = 3 then intReset s else s))
  else s

/-- The supply returns while the power-loss flow runs, or after it has ended (R147, R214); a warm reset that the flow's
end has not let through is discarded (R17). (log 19 DEDUCED, 73 DEDUCED) -/
def supplyBackNow (s : State) : State :=
  let s := if s.ctl.lossOver && s.ctl.warmDeferred ≠ 0 then
      addCause 0x40 { s with ctl := { s.ctl with warmDeferred := 0 } }
    else s
  let s := { s with ctl := { s.ctl with supplyBack := true } }
  let s := if s.stoState = 1 ∨ s.stoState = 2 then
      { s with sto := { s.sto with metered := false, meterNext := false, flags := s.sto.flags ||| 1 } }
    else s
  let s := seqSupplyReturn s
  if s.stoState = 1 ∨ s.stoState = 2 then s else leaveFlow s

/-- SUPPLY_RETURN (R147): VIN_SNS at or above the return point. (log 74 DEDUCED, 78 DEDUCED) -/
def execSupplyReturn (vin : Code) (s : State) : Host.Outcome State Fault Refusal :=
  if vin.toNat < s.returnCode then finish s
  else
    let s := if s.ctl.phase = .off then s else s.lower STO_DET 31
    finish (if s.supplyAway && !s.ctl.supplyBack then supplyBackNow s else s)

/-! ### The steps of a store (R131, R132, R135, R152) -/

/-- STORE_REGION_DONE (R131): the running region is entered as COMMITTED, the next one is checked. -/
def execStoreRegionDone (time : Nat) (vhold : Code) (s : State) : Host.Outcome State Fault Refusal :=
  match s.sto.cur with
  | none => finish s
  | some i =>
    if s.stoState ≠ 1 then finish s
    else
      let entry := ((s.regions[i]?).map fun r => entryOf r 1).toList
      let s := takeSample (max time s.sto.time) vhold.toNat s
      finish (nextRegion s.sto.todo { s with sto := { s.sto with cur := none, entries := s.sto.entries ++ entry } })

/-- E_avail of the newest estimate is below E_res plus the cost of the rest of the running region (R152). -/
def State.shortOfRest (s : State) : Bool :=
  match s.sto.cur.bind fun i => s.regions[i]? with
  | none => false
  | some r =>
    let left := regionTime r.size + s.sto.curStart * 2 ^ 33 - s.sto.time * 2 ^ 33
    !covers ((s.sto.estimates.head?.map (·.2)).getD 0) s.pDraw (left + reserveTime)

/-- The running region is abandoned and the store commits (R152). -/
def abandonRegion (s : State) : State :=
  toCommit ({ s with sto := { s.sto with outcome := 3 } }.raise STO_STAT 12)

/-- ENERGY_ESTIMATE (R132, R152). The VIN code of STO_SNS comes from the conversions of channel 32 (R423). -/
def execEnergyEstimate (time : Nat) (vhold : Code) (s : State) : Host.Outcome State Fault Refusal :=
  if s.stoState ≠ 1 then finish s
  else
    let s := takeSample (max time s.sto.time) vhold.toNat s
    finish (if s.sto.metered && s.shortOfRest then abandonRegion s else s)

/-- What follows a commit: the entry goes on or is cancelled; the power-loss flow ends, or the rails may fall. -/
def afterStore (s : State) : State :=
  let s := entryStored s
  if s.ctl.lossFlow && s.ctl.supplyBack then leaveFlow s else lossEnd s

/-- HORIZON_COMMIT (R135): the commit ends, its horizon verified when `ok`. -/
def execHorizonCommit (ok : Bool) (s : State) : Host.Outcome State Fault Refusal :=
  if s.stoState = 2 then finish (afterStore (commitStore ok s)) else finish s

/-- A manual store request (R138, Table 7-6): admitted, or its result. -/
def wrStoCtrl (vhold : Nat) (_who : Nat) (w : Word) (s : State) : State :=
  if bit w.toNat 0 then
    let s := noteVhold vhold s
    let code := s.admission true vhold
    let s := s.setFld STO_STAT 4 4 code
    if code = 0 then startStore 2 true vhold s else s
  else s

/-- MANUAL_STORE (R138). -/
def execManualStore (t : Requester) (vhold : Code) (s : State) : Host.Outcome State Fault Refusal :=
  finish (regCmd t STO_CTRL 1 (wrStoCtrl vhold.toNat) s)

/-! ### Restore and zeroing (R125, R141) -/

/-- CLASS_A_RESTORE_DONE (R141): every Class A line that still waits is restored; the background follows.
(log 64 DESIGN CHOICE) -/
def execClassARestoreDone (bad : List Nat) (s : State) : Host.Outcome State Fault Refusal :=
  if s.stoState ≠ 3 ∨ s.supplyAway then finish s
  else
    let s := correctRestored 0 (restoreRunsNow (s.restoreRuns 0) bad s)
    let s := restoreCheck (s.setFld STO_STAT 0 3 4)
    finish (if s.ctl.phase = .classA then pathEnd (doorPoint SYS_DOOR_PH4 s) else s)

/-- BACKGROUND_RESTORE (R141): the next `n` lines of Class B, with PACE not 0. -/
def execBackgroundRestore (n : Nat) (bad : List Nat) (s : State) : Host.Outcome State Fault Refusal :=
  if s.stoState ≠ 4 ∨ s.fld STO_PACE 0 16 = 0 ∨ s.supplyAway then finish s
  else finish (restoreCheck (restoreRunsNow (takeLines n (s.restoreRuns 1)) bad (hkSuspend s)))

/-- BACKGROUND_ZERO (R125): the next `n` to-zero lines, lowest first. -/
def execBackgroundZero (n : Nat) (s : State) : Host.Outcome State Fault Refusal :=
  finish (fillRuns (takeLines n (s.mem.fill.filter fun r => !r.restores)) s)

end Sys2Proof.Machine
end

