-- ==== Sys2Proof/Machine/Boot.lean ====
section
/-! DEFINITION. Resets and starts (01, 02, 03, 09): POR_N and RST_N, warm resets, the phases of a start, the verification
of the image and its application (R49), the unconfigured state (R59), and the clock checks (R11, R16). -/

namespace Sys2Proof.Machine

/-! ### Cold reset (R15, R18, R24, R25) -/

/-- The filter time of POR_N and RST_N in ns, from 50 to 200 (Table 1-5). (log 15 DEDUCED) -/
def filterNs : Nat := 50 + Config.resetFilter % 151

/-- The RESET record (Table 10-4). -/
def resetRecord (s : State) : State := logWrite 0x0A (leBytes 2 (s.fld SYS_RST_CAUSE 0 7)) s

/-- A cold reset: POR_N is low; what runs in the array ends torn (R18, R75, R153). (log 17 DEDUCED) -/
def coldReset (s : State) : State :=
  let s := clearCold (eraseTorn (storeTorn (otpAbort s)))
  { s with ctl := { s.ctl with porHigh := false, railsOk := false, monitorsArmed := false } }

/-- POR_N_ASSERT (R15, R18, R505): with it the supply of VDDIO1 may go or come. A loss of VDDIO2 lasts, and POR_N with
it, so a pulse that the filter drops is none. (log 15 DEDUCED, 28 DESIGN CHOICE) -/
def execPorNAssert (ns : Nat) (banks : BitVec 2) (s : State) : Host.Outcome State Fault Refusal :=
  if ns < filterNs then finish { s with ctl := { s.ctl with banks := banks &&& 1#2 ||| s.ctl.banks &&& 2#2 } }
  else
    let s := { s with ctl := { s.ctl with banks := banks } }
    finish (if s.ctl.porHigh then coldReset s else s)

/-- Phase 2 begins: phase 1 has ended (Table 2-1). -/
def beginOtp (s : State) : State := doorPoint SYS_DOOR_PH1 { s with ctl := { s.ctl with phase := .otp } }

/-- The path of R25 by the ladder state holder. -/
def State.releasePath (s : State) : StartPath :=
  if s.fld PWR_HOLD 0 3 = 6 ∨ !s.flag PWR_HOLD 3 then .cold else .restore

/-- POR_N is released (R25, R183). (log 97 DEDUCED) -/
def porRelease (s : State) : State :=
  let p := s.releasePath
  let s := resetRecord (addCause 0x02 { s with ctl := { s.ctl with porHigh := true, path := p } })
  let s := s.setFld MEM_STAT 0 2 (if p = .restore then 1 else 0)
  let s := s.putFlag PWR_STAT 9 s.pwr.exiting.isSome
  if s.ctl.railsOk then beginOtp s else { s with ctl := { s.ctl with phase := .rails } }

/-- POR_N_RELEASE (R25). (log 28 DESIGN CHOICE) -/
def execPorNRelease (banks : BitVec 2) (s : State) : Host.Outcome State Fault Refusal :=
  let s := { s with ctl := { s.ctl with banks := banks } }
  if s.ctl.phase = .reset ∧ !s.ctl.porHigh ∧ s.pinIn .porN true then finish (porRelease s) else finish s

/-- CORE_RAILS_IN_RANGE (R28, R202): the fixed monitors qualify every core rail. (log 112 DEDUCED) -/
def execCoreRailsInRange (s : State) : Host.Outcome State Fault Refusal :=
  if s.ctl.railsOk ∨ s.ctl.phase = .off then finish s
  else
    let s := { s with ctl := { s.ctl with railsOk := true, monitorsArmed := true } }
    finish (if s.ctl.phase = .rails then beginOtp s else s)

/-- RAIL_WAKE_TIMEOUT (R38, R194): the wake is abandoned; the holder keeps its state. (log 17 DEDUCED, 31 DEDUCED) -/
def execRailWakeTimeout (out : BitVec 7) (s : State) : Host.Outcome State Fault Refusal :=
  match s.pwr.exiting with
  | none => finish s
  | some n =>
    if s.ctl.railsOk ∨ n < 5 then finish s
    else
      let s := coreRailRecord 2 out.toNat s
      let after := s.ctl.warmAfterExit
      let park := s.door.counting || s.flag SYS_DOOR_STAT 3
      let s := (clearCold s).setFld PWR_STAT 0 3 n
      let s := { s with ctl := { s.ctl with phase := .off, pmicOn := false, porHigh := false, warmAfterExit := after } }
      finish (if park then s.raise SYS_DOOR_STAT 3 else s)

/-- DOOR_BUDGET_OVER (R33). (log 30 DEDUCED) -/
def execDoorBudgetOver (s : State) : Host.Outcome State Fault Refusal :=
  finish (if s.door.counting ∧ s.reg SYS_DOOR_LINE = 0 then s.raise SYS_DOOR_STAT 2 else s)

/-! ### Warm reset (R14, R17, R19, R20, R26) -/

/-- RST_N_ASSERT (R15, R17, R20, R75, R95): the operations it abandons end at once, a wake source in P3 and deeper. A
SYS_RST_CTRL.WARM write and a monitor reset of the same CORE cycle (`soft`, `monitor`) are recorded with it (R19).
(log 10 DEDUCED, 15 DEDUCED) -/
def execRstNAssert (ns : Nat) (soft monitor : Bool) (s : State) : Host.Outcome State Fault Refusal :=
  if ns < filterNs ∨ (s.ctl.phase = .reset ∧ s.ctl.path ≠ .warm ∧ s.pwr.exiting.isNone) then finish s
  else finish (wake 6 (requestWarm (causePin ||| (if soft then causeSoft else 0) ||| (if monitor then causeMonitor else 0)) s))

/-- A SYS_RST_CTRL.WARM request: deferred behind an OTP or update operation (R75, R95). (log 19 DEDUCED) -/
def softWarm (s : State) : State :=
  if s.flag OTP_PROG_STAT 0 || s.upd.op != .none then
    addCause 0x20 { s with ctl := { s.ctl with warmDeferred := s.ctl.warmDeferred ||| causeSoft } }
  else requestWarm causeSoft s

/-- WARM_RESET_RELEASE (R26): RST_N, high only while VDDIO2 is powered (R505), lets the core start again, unless the
safety monitor holds it (R478). -/
def execWarmResetRelease (s : State) : Host.Outcome State Fault Refusal :=
  if s.ctl.phase = .reset ∧ s.ctl.path = .warm ∧ !s.ctl.halted ∧ s.pinIn .rstN true then
    finish ((resetRecord { s with ctl := { s.ctl with phase := .otp } }).setFld MEM_STAT 0 2 2)
  else finish s

/-- DEFERRED_WARM_RESET (R17): the store has ended and no shutdown order runs; performed if the supply is back, else
discarded. (log 19 DEDUCED) -/
def execDeferredWarmReset (s : State) : Host.Outcome State Fault Refusal :=
  if s.ctl.warmDeferred = 0 ∨ s.stoState = 1 ∨ s.stoState = 2 ∨ s.seqState = seqBlanking ∨ s.seqState = seqFalling then
    finish s
  else if s.supplyAway && !s.ctl.supplyBack then
    finish (addCause 0x40 { s with ctl := { s.ctl with warmDeferred := 0 } })
  else finish (releaseWarm s)

/-- TAP_RESET (R15, Table 1-4). -/
def execTapReset (s : State) : Host.Outcome State Fault Refusal :=
  finish { s with ctl := { s.ctl with tapReset := true } }

/-! ### Phase 2 (R70, R88, R89, R101, R102, R174) -/

/-- The start has ended: its records stand (R99). (log 54 DESIGN CHOICE) -/
def startEnded (s : State) : State := { s with upd := { s.upd with starting := none } }

/-- This start writes record `r` into a ring: whether it stands verified. (log 54 DESIGN CHOICE) -/
def startPut (second : Bool) (r : SelRec) (s : State) : Bool × State :=
  let before : StartWrites := { nv := s.nv, ring0 := s.upd.ring0, ring1 := s.upd.ring1, recs := [], jseq := s.nv.jseq }
  let w := (s.upd.starting.filter fun w => w.jseq = s.nv.jseq).getD before
  let x := reportRing (ringPut second r s)
  let w := { w with recs := w.recs ++ [(second, r)], jseq := x.2.nv.jseq }
  (x.1, { x.2 with upd := { x.2.upd with starting := some w } })

/-- A record of this start goes into both rings (R99, R100): the record before stays in force where ring 0 fails.
(log 55 DESIGN CHOICE, 60 DESIGN CHOICE) -/
def selWrite (r : SelRec) (ok0 ok1 : Bool) (s : State) : State :=
  let (junk, s) := s.free (2 ^ 256)
  let x := startPut false { r with ok := ok0, junk := if ok0 then 0 else junk } s
  if x.1 then (startPut true { r with ok := ok1, junk := if ok1 then 0 else junk } x.2).2 else x.2

/-- The automatic rollback (R89): the other pair, ROLLED_BACK; AUTO_RB where its record is in force.
(log 60 DESIGN CHOICE) -/
def autoRollback (ok0 ok1 : Bool) (s : State) : State :=
  let s := selWrite (s.nextSel (!s.selector.active) 2 0 4) ok0 ok1 s
  showSelector (if s.selector.cause = 4 then s.raise UPD_STAT 24 else s)

/-- The copy repair of R101; a repair that fails its verify repairs nothing (R100).
(log 55 DESIGN CHOICE, 60 DESIGN CHOICE) -/
def selRepair (ok : Bool) (s : State) : State :=
  let fix := fun (second : Bool) =>
    let (junk, t) := s.free (2 ^ 256)
    let x := startPut second { t.selector with cause := 6, ok := ok, junk := if ok then 0 else junk } t
    if x.1 then x.2.raise UPD_STAT 25 else x.2
  match ringNewest s.upd.ring0, ringNewest s.upd.ring1 with
  | some a, some b => if a.gen = b.gen then s else fix (b.gen < a.gen)
  | some _, none => fix true
  | none, some _ => fix false
  | none, none => s

/-- Steps 1 to 3 of R89; bit 0 of `ok`: the repair copy verifies, bits 1 and 2: the copies of the record in ring 0 and
in ring 1 do. (log 60 DESIGN CHOICE) -/
def selStart (ok : BitVec 3) (s : State) : State :=
  let s := selRepair (ok.getLsbD 0) s
  let r := s.selector
  showSelector (if r.state ≠ 1 then s
    else if r.bootsLeft = 0 then autoRollback (ok.getLsbD 1) (ok.getLsbD 2) s
    else selWrite (s.nextSel r.active 1 (r.bootsLeft - 1) 2) (ok.getLsbD 1) (ok.getLsbD 2) s)

/-- A selector ring whose erase has not completed is quarantined, as a block is (R174; 08, Edges). -/
def quarantineRing (second : Bool) (s : State) : State :=
  if s.nv.openIntent (ringBlock second) 1 then jAppend (.quarantine (ringBlock second) 1) s else s

/-- Steps 2 and 4 of R174: SKIPPED, then the blocks whose erase has not completed. A pre-erase that a warm reset has let
go on is not among them. (log 67 DEDUCED) -/
def startScan (s : State) : State :=
  let s := s.setFld NVH_JSTAT 0 16 (min s.nv.skipped 0xFFFF)
  let runs := match s.nv.hk with | .preerase l _ => some l | _ => none
  let l := (List.range 768).filter fun l => (s.block l).state = .preerasing && runs != some l
  let s := l.foldl (fun s l => (jAppend (.quarantine (s.block l).phys 1) s).markBlock l .quarantined) s
  quarantineRing true (quarantineRing false s)

/-- The block map at a start (R174): the checkpoint and the records after it, a torn store (R153, R173), the blocks
whose erase did not end, H1. A warm reset does not reset the NV controller (R26): its map stands, and a store that it
has let go on is no torn one. (log 67 DEDUCED, 84 DEDUCED) -/
def nvStart (s : State) : State :=
  match s.ctl.path with
  | .warm => loadH1 (startScan s)
  | .cold => loadH1 (tornDone (startScan (applyTorn (loadMap s))))
  | .restore => loadH1 (startScan (applyTorn (loadMap s)))

/-- Phase 3 begins with the pair in force (R48, R89). -/
def beginVerify (s : State) : State :=
  { s with ctl := { s.ctl with phase := .verify s.selector.active false (s.selector.state = 1) } }

/-- OTP_LOAD_DONE (R70): phase 2 ends; the cold-start path tests itself first (R193). (log 67 DEDUCED) -/
def execOtpLoadDone (weak : BitVec 20) (selOk : BitVec 3) (s : State) : Host.Outcome State Fault Refusal :=
  if s.ctl.phase ≠ .otp ∨ s.supplyAway then finish s
  else
    let s := doorPoint SYS_DOOR_PH2 (otpLoad weak.toNat s)
    let s := selStart selOk (nvStart s)
    finish (if s.ctl.path = .cold then { s with ctl := { s.ctl with phase := .selfTest } } else beginVerify s)

/-- SELF_TEST_DONE (R193). -/
def execSelfTestDone (ok : Bool) (s : State) : Host.Outcome State Fault Refusal :=
  if s.ctl.phase ≠ .selfTest ∨ s.supplyAway then finish s
  else
    let s := beginVerify s
    finish (if ok then s else report 49 (s.raise PWR_STAT 18))

/-! ### Phase 3 (R48, R49, R58, R59) -/

/-- The registers after R49: every section's values, then the TRIM records as device writes. (log 39 DEDUCED) -/
def applyRegs (f : OtpForce) (img : Image) (t : Tab Word) : Tab Word :=
  img.trims.foldl (fun t r => trimReg t r.addr (BitVec.ofNat 32 r.value)) ((imageSettings f img).foldl applySetting t)

/-- Link ports once the configuration is known (R268, R287): enabled ones train, the others are disabled. -/
def startPorts (s : State) : State :=
  forEach (List.range 4) (fun p s => if s.portEnabled p then phyTrain p s else setPhyState p phDisabled s) s

/-- Undeclared slots are driven low; the automatic up trigger is due (R220). (log 109 DEDUCED) -/
def seqConfigure (s : State) : State :=
  let keep := ofPositions (s.rails.map (·.slot))
  let s := s.setFld SEQ_STAT 16 16 (s.fld SEQ_STAT 16 16 &&& keep)
  { s with seq := { s.seq with autoDue := true } }

/-- The backlight settings in effect follow the registers (R427); an output that no channel owns follows its EN, which a
TRIM record may have set (R429). -/
def bklConfigure (s : State) : State :=
  forEach (List.range 4) (fun b s => bklEnabled b ([BKL_DUTY b, BKL_PER b, BKL_CTRL b].foldl
    (fun s a => { s with bkl := tset (regReset a) s.bkl a (s.reg a) }) s)) s

/-- The flock at R49: SEEKING with a FLOCK record of two or more members (R438). -/
def flkConfigure (s : State) : State := if s.flock.isSome then setRev (setFkState fkSeeking s) else s

/-- R49: the configuration of all sections together. -/
def applyImage (img : Image) (pair fallback : Bool) (s : State) : State :=
  let s := { s with cfg := some img, regs := applyRegs s.otp.force img s.regs }
  let s := s.setFlds STR_STAT [(0, 2, 2), (2, 1, b2n pair), (3, 1, b2n fallback)]
  let s := flkConfigure (bklConfigure (forEach s.channels copyShadows s))
  overbookCheck (seqConfigure (canStart 1 true (canStart 0 true (startPorts s))))

/-- The unconfigured state (R59, R329): T0 alone, with every tag and both ports in their reset configuration. Phase 3
ends without the SYS_DOOR point of R49. (log 40 DEDUCED, 43 DESIGN CHOICE) -/
def unconfigured (s : State) : State :=
  let s := { s with cfg := none }.setFlds STR_STAT [(0, 2, 0), (2, 2, 0)]
  let s := (s.setFlds (TEN_TAG 0) [(0, 9, 0), (16, 10, 512)]).setFlds (TEN_CFG 0) [(0, 2, 3), (16, 11, 896)]
  pathEnd (startPorts (tornDone (startEnded s)))

/-- A verification failure (R58). -/
def verifyFailed (e : LoadErr) (pair : Bool) (s : State) : State :=
  let s := (s.setFlds STR_ERR [(0, 8, e.code), (8, 5, e.sect), (13, 1, b2n pair), (16, 16, e.record)]).raise STR_STAT 4
  logWrite 0x08 (leBytes 1 e.code ++ leBytes 1 e.sect ++ leBytes 2 e.record ++ leBytes 1 (b2n pair)) s

/-- Every layer of every channel gets EN 0 (R357, cold-start path), and the shadows follow. -/
def layersOff (s : State) : State :=
  forEach s.channels (fun n s => copyShadows n (forEach (List.range 6) (fun m s => s.lower (CH_L_CTRL n m) 0) s)) s

/-- SUP_CTRL.DEBOUNCE in BK32 ticks, rounded up, at least one. -/
def State.debounceTicks (s : State) : Nat := max 1 ((s.fld SUP_CTRL 0 10 * 32768 + 99999) / 100000)

/-- What follows R49 on each path (R26, R27, R34, R140, R141, R357); after a warm reset the adoption of R220 is judged
over DEBOUNCE. (log 43 DESIGN CHOICE, 109 DEDUCED) -/
def afterApply (s : State) : State :=
  let s := doorPoint SYS_DOOR_PH3 (methodsNow (evalAll (startEnded s)))
  match s.ctl.path with
  | .cold => pathEnd (layersOff s)
  | .restore => startRestore 0 (s.flag STO_STAT 9) { s with ctl := { s.ctl with phase := .classA } }
  | .warm => pathEnd { s with seq := { s.seq with autoDue := false, adopt := some (s.rtc.raw + s.debounceTicks) } }

/-- STRUCTURE_VERIFY_DONE (R48, R49, R58, R59, R89): the verification of one pair ends. It waits for a store that a warm
reset has not stopped; `sel0`, `sel1`: the copies of an automatic-rollback record verify. (log 35 DEDUCED) -/
def execStructureVerifyDone (sel0 sel1 : Bool) (s : State) : Host.Outcome State Fault Refusal :=
  match s.ctl.phase with
  | .verify pair second trial =>
    if s.supplyAway ∨ s.stoState = 1 ∨ s.stoState = 2 then finish s
    else match s.verifyPair pair with
      | .inr img => finish (afterApply (applyImage img pair second s))
      | .inl e =>
        let s := verifyFailed e pair s
        if second then finish (unconfigured s)
        else finish { (if trial then autoRollback sel0 sel1 s else s) with
          ctl := { s.ctl with phase := .verify (!pair) true false } }
  | _ => finish s

/-! ### Clock checks (R11, R16, R356) -/

/-- The nominal frequency of domain `d` in kHz (Table 1-3). (log 24 DEDUCED) -/
def State.domainKhz (s : State) (d : Nat) : Nat :=
  let baud := fun p => [2500000, 5000000, 8000000, 12500000, 16000000].getD (s.portRate p) 0
  let pix := fun n => ((s.chanRec n).map (·.pixclk)).getD 0
  if d = 0 ∨ d = 22 then 25000
  else if d = 1 then 800000
  else if d = 2 then 1600000
  else if d = 3 then (if s.ladder = 2 then 25000 else 400000)
  else if d < 8 then pix (d - 4)
  else if d < 12 then
    match s.chanRec (d - 8) with
    | some r => if r.outMode = 0 then [162000, 270000, 540000, 810000].getD r.edpRate 0 else pix (d - 8) * 7 / 2
    | none => 0
  else if d = 14 then baud 0 / 40
  else if d = 15 then baud 1 / 40
  else if d = 16 then baud (if s.portEnabled 2 then 2 else 3) / 40
  else if d = 17 then 80000
  else if d = 18 then (if s.ladder = 2 then 12500 else 20000)
  else 6144

/-- Domain `d` is monitored (R11, Table 9-1): the device runs its clock and has not gated it. (log 24 DEDUCED) -/
def State.monitored (s : State) (d : Nat) : Bool :=
  s.coreUp && !s.ctl.gated.getLsbD d &&
    (if d = 0 ∨ d = 3 ∨ d = 18 then s.ladder ≤ 2
     else if d = 17 then s.ladder ≤ 1
     else if d = 14 ∨ d = 15 then s.ladder ≤ 1 && s.portEnabled (d - 14)
     else if d = 16 then s.ladder ≤ 1 && (s.portEnabled 2 || s.portEnabled 3)
     else if 4 ≤ d ∧ d < 8 then s.ladder = 0 && s.chState (d - 4) != chOff
     else if 8 ≤ d ∧ d < 12 then s.ladder = 0 && s.outState (d - 8) != outIdle
     else s.ladder = 0 && (d ≤ 2 || d = 22 || d = 23))

/-- `edges` in 1,024 periods of 16 MHz are within 12.5 % of `khz` (R16). (log 24 DEDUCED) -/
def edgesOk (khz edges : Nat) : Bool :=
  edges ≠ 0 && 8 * (edges * 1000) ≤ 9 * (64 * khz) && 7 * (64 * khz) ≤ 8 * (edges * 1000)

/-- A clock fault on PIXn (R356, R398, R436). (log 27 DEDUCED) -/
def pixDown (n : Nat) (s : State) : State :=
  let s := ttChannelDown n (modChan n (fun c => { c with pixFault := true, resync := true, lineDue := false, live := false }) s)
  match s.bklOf n with
  | some b => s.lower BKL_STAT (4 + b)
  | none => s

/-- One domain's check: its bits, and what a fault or the return of a clock does to its channel or output.
(log 24 DEDUCED, 27 DEDUCED) -/
def checkDomain (edges d : Nat) (s : State) : State :=
  let ok := edgesOk (s.domainKhz d) edges
  let s := s.putFlag SYS_CLK_STAT d (s.monitored d && ok)
  if s.monitored d && !ok then
    let s := s.raise SYS_CLK_FAULT d
    if 4 ≤ d ∧ d < 8 then pixDown (d - 4) s
    else if 8 ≤ d ∧ d < 12 then outputIdle (d - 8) (modOut (d - 8) (fun o => { o with serFault := true }) s)
    else s
  else if 4 ≤ d ∧ d < 8 ∧ ok then modChan (d - 4) (fun c => { c with pixFault := false }) s
  else if 8 ≤ d ∧ d < 12 ∧ ok ∧ (s.outOf (d - 8)).serFault then
    outputStart (d - 8) (modOut (d - 8) (fun o => { o with serFault := false }) s)
  else s

/-- The domains that the safety monitor checks against SMO. -/
def smoDomains : List Nat := (List.range 12) ++ [14, 15, 16, 17, 18, 22, 23]

/-- CLOCK_CHECK_WINDOW (R11, R16, R22, R480): the edges that a window has counted, of each domain that has completed
one; a domain whose clock has come back completes none before its lock time and a whole window have passed (R11). (log
24 DEDUCED) (log 24 DEDUCED) -/
def execClockCheckWindow (edges : List (Option Nat)) (s : State) : Host.Outcome State Fault Refusal :=
  if 3 ≤ s.ladder ∨ !s.coreUp then finish s
  else
    let done := smoDomains.filterMap fun d => ((edges[d]?).bind id).map fun e => (d, e)
    let bad := (done.filter fun x => s.monitored x.1 && !edgesOk (s.domainKhz x.1) x.2).map (·.1)
    finish (reportMany bad (done.foldl (fun s x => checkDomain x.2 x.1 s) s))

end Sys2Proof.Machine
end

