-- ==== Sys2Proof/Machine/RegRead.lean ====
section
/-! DEFINITION. What a read of a register returns: the register file, and the registers that show state held elsewhere
(tenant views, queues, windows, counters). Reads that act are here too: the snapshot of RTC_SUBSEC (R233) and the end of
an event read-out (R236). -/

namespace Sys2Proof.Machine

/-! ### Views of per-requester registers -/

/-- MEM_STALEk or MEM_LOSTk as tenant `who` sees it (R115). -/
def State.flagsFor (s : State) (base : Nat → Nat) (who k : Nat) : Nat :=
  ofPositions ((List.range 32).filter fun j => s.flag (base k) j &&
    (s.regions[32 * k + j]?).any fun r => r.size ≠ 0 && (who = 0 || r.owner = who))

/-- Tenants' votes in PWR_VOTE0 (`base` 0) or PWR_VOTE1 (`base` 8). -/
def State.votesOf (s : State) (base : Nat) : Nat :=
  ((List.range 8).map fun n =>
    let v := tget 0 s.pwr.votes (base + n)
    (v + 8 * b2n (s.voter (base + n) && v ≠ 7)) * 16 ^ n).sum

/-- The newest snapshot of context `k`, all zero if there is none (R233). -/
def State.snapOf (s : State) (k : Nat) : Snapshot := ((s.ctxOf k).snap).getD { sec := 0, sub := 0, cdNow := 0 }

/-- RTC_CFG.MODE selects the CAL view (R226). -/
def State.calView (s : State) : Bool := s.flag RTC_CFG 0

/-- A time register over a snapshot (R226, R233). -/
def State.timeReg (s : State) (p : Option Snapshot) (a : Nat) : Nat :=
  match p with
  | none => 0
  | some p =>
    if a = RTC_SUBSEC then p.sub + (if s.calView then 0 else 65536 * (p.sec / 2 ^ 32 % 2))
    else if a = RTC_SEC then (if s.calView then 0 else p.sec % 2 ^ 32)
    else if a = RTC_CAL_TIME then (if s.calView then calTime p.sec else 0)
    else if a = RTC_CAL_DATE then (if s.calView then calDate p.sec else 0)
    else p.cdNow

/-- EVT_STAT: levels, OVF and counts. -/
def State.evtStat (s : State) : Nat :=
  ofPositions ((List.range 4).filter s.evtLevel) + s.fld EVT_STAT 4 4 * 16 +
    ((List.range 4).map fun n => (s.evtOf n).length * 2 ^ (3 * n + 8)).sum

/-- LOG_STAT: records, next slot, WRAPPED, a slot that awaits its check. -/
def State.logStat (s : State) : Nat :=
  s.log.recs.length + s.log.head * 65536 + s.fld LOG_STAT 24 1 * 2 ^ 24 +
    b2n (s.log.recs.any fun r => r.verdict = .unchecked) * 2 ^ 25

/-- Word `i` of a byte window. -/
def winWord (l : List Byte) (i : Nat) : Nat := ofLe ((l.drop (4 * i)).take 4)

/-! ### Views by block -/

/-- Selector rings quarantined by a start (R174). -/
def State.ringsTorn (s : State) : Nat :=
  ([false, true].filter fun b => s.nv.ringTorn.getLsbD (b2n b) && !s.nv.openIntent (ringBlock b) 1).length

/-- Registers 0x8004_0000 to 0x8007_FFFF (06 to 09) whose fields are computed. -/
def State.viewStore (s : State) (who a : Nat) : Option Nat :=
  if a = MEM_STAT then some (putBits (s.reg a).toNat 2 1 (b2n s.fillDone))
  else if MEM_STALE 0 ≤ a ∧ a < MEM_STALE 8 then some (s.flagsFor MEM_STALE who ((a - MEM_STALE 0) / 4))
  else if MEM_LOST 0 ≤ a ∧ a < MEM_LOST 8 then some (s.flagsFor MEM_LOST who ((a - MEM_LOST 0) / 4))
  else if a = STO_STAT then some (putBits (s.reg a).toNat 8 1 (b2n s.reserveLow))
  else if a = STO_RST then some s.restoreLeft
  else if a = NVH_STAT then some (putBits (putBits (s.reg a).toNat 3 1 (b2n s.reserveLow)) 5 1 (b2n s.spareLow))
  else if a = NVH_POOL then some
    ((s.poolIn .erased).length % 256 + ((s.poolIn .dirty).length + (s.poolIn .preerasing).length) % 256 * 256 +
      (s.blocksIn .quarantined + s.ringsTorn) % 256 * 65536 + s.blocksIn .bad % 256 * 2 ^ 24)
  else if a = NVH_JSTAT then some (putBits (s.reg a).toNat 16 5 s.nv.badSectors.length)
  else if a = NVH_AVAIL then some s.avail
  else if a = NVH_NEED then some s.need
  else if a = NVH_WEAR then some (((List.range 768).map fun l => (s.block l).wear).foldl max 0)
  else if a = PWR_REQ then some (tget 0 s.pwr.votes who)
  else if a = PWR_VOTE0 then some (s.votesOf 0)
  else if a = PWR_VOTE1 then some (s.votesOf 8)
  else none

/-- Registers of the backup domain (10, 11) whose fields are computed, for context `k`. -/
def State.viewBackup (s : State) (k a : Nat) : Option Nat :=
  if a = RTC_STAT then some (putBits (s.reg a).toNat 7 1 (b2n (s.rtc.pendTime.isSome || s.rtc.pendShift.isSome)))
  else if a = RTC_SUBSEC ∨ a = RTC_SEC ∨ a = RTC_CAL_TIME ∨ a = RTC_CAL_DATE ∨ a = RTC_CD_NOW then
    some (s.timeReg (s.ctxOf k).snap a)
  else if a = RTC_SET_LO ∧ k = 16 then some (s.sbp.stagedLo.getD (s.reg a)).toNat
  else if a = EVT_STAT then some s.evtStat
  else if a = EVT_RD_CTRL then some (s.ctxOf k).evtCtl.toNat
  else if EVT_RD_WIN ≤ a ∧ a < EVT_RD_WIN + 40 then some (winWord (s.ctxOf k).evtWin ((a - EVT_RD_WIN) / 4))
  else if a = LOG_STAT then some s.logStat
  else if a = LOG_SEQ then some s.log.next
  else if a = LOG_SKIP then some (s.log.recs.filter fun r => r.verdict = .torn).length
  else if a = LOG_RD_CTRL then some (s.ctxOf k).logCtl.toNat
  else if LOG_RD_WIN ≤ a ∧ a < LOG_RD_WIN + 8208 then some (winWord (s.ctxOf k).logWin ((a - LOG_RD_WIN) / 4))
  else none

/-- Registers of a link port block (13, 14) whose fields are computed. -/
def State.viewPort (s : State) (p a : Nat) : Option Nat :=
  let l := s.lnkOf p
  if a = PHY_LANEMAP p then some (if s.locked p then (s.reg a).toNat else 0)
  else if a = LNK_REPLAY p then some (putBits (s.reg a).toNat 0 10 l.replay.length)
  else if a = LNK_CRED p then some (l.outV false % 2048 + l.outV true % 2048 * 65536)
  else if a = LNK_LEAK p then some ((l.leakReq + l.leakRsp) % 2048 + l.effective % 2048 * 65536)
  else if a = LNK_POOL p then some (s.occupied p false % 2048 + s.occupied p true % 2048 * 65536)
  else none

/-- Tags HELD by tenant `t`. -/
def State.tagsOf (s : State) (t : Nat) : Nat := (s.txn.tags.filter fun e => e.2.2 = t).length

/-- Registers of the TXN, TEN and INT blocks (15) whose fields are computed. -/
def State.viewTxn (s : State) (a : Nat) : Option Nat :=
  let o := a % 0x10000
  if a = TXN_STAT then some (putBits (s.reg a).toNat 0 10 s.txn.tags.length)
  else if blockOf a = 21 ∧ o < 0x100 ∧ o % 0x10 = 4 then some (putBits (s.reg a).toNat 0 10 (s.tagsOf (o / 0x10)))
  else if a = INT_PIN_STAT then some s.intPins
  else if blockOf a = 114 then
    match intTenant o with
    | none => none
    | some t => if o % 0x20 = 0 then some (s.intPend t)
      else if o % 0x20 = 8 then some (2 * b2n (s.txn.armed.getLsbD t)) else none
  else none

/-- TT_ON and TT_PROVEN: the tell-tales 32k to 32k + 31 whose state satisfies `f`. -/
def State.ttBits (s : State) (k : Nat) (f : Nat → Bool) : Nat :=
  ofPositions ((List.range 32).filter fun j => f (s.ttState (32 * k + j)))

/-- Bits of the electrically proven tell-tales of word `k` (R390). -/
def State.ttProven (s : State) (k : Nat) : Nat :=
  ofPositions ((List.range 32).filter fun j => (s.ttRec (32 * k + j)).any fun r => 2 ≤ s.ttState r.index && s.elecProven r)

/-- CAN_SRCk of controller `c`: 2 bits per record of that controller. -/
def State.canSrc (s : State) (c k : Nat) : Nat :=
  (s.canmaps.map fun e => if e.1.ctrl = c ∧ e.2 / 16 = k then tget 0 s.srcs e.2 * 4 ^ (e.2 % 16) else 0).sum

/-- A BKL register shows the values in effect (RB, Table 0-2); EN takes effect at once (R427). (log 187 DEDUCED) -/
def State.bklView (s : State) (a : Nat) : Nat :=
  if (a - BKL_DUTY 0) % 16 = 8 then putBits (s.bklNow a).toNat 0 1 (s.fld a 0 1) else (s.bklNow a).toNat

/-- Registers of the tell-tale, CAN, ADC, flock and fault blocks (18 to 22) whose fields are computed. -/
def State.viewProof (s : State) (a : Nat) : Option Nat :=
  let o := a % 0x10000
  if a = TT_STAT then some s.ttStat
  else if TT_ON 0 ≤ a ∧ a < TT_ON 2 then some (s.ttBits ((a - TT_ON 0) / 4) (· ≠ ttOff))
  else if TT_PROVEN 0 ≤ a ∧ a < TT_PROVEN 2 then some (s.ttProven ((a - TT_PROVEN 0) / 4))
  else if (blockOf a = 64 ∨ blockOf a = 65) ∧ 0x40 ≤ o ∧ o < 0x80 then some (s.canSrc (blockOf a - 64) ((o - 0x40) / 4))
  else if a = ADC_TEMP 6 then some (s.fld RTC_TRIM_STAT 16 12)
  else if BKL_DUTY 0 ≤ a ∧ a < BKL_DUTY 4 then some (s.bklView a)
  else if FLK_CODES 0 ≤ a ∧ a < FLK_CODES 4 then
    let k := (a - FLK_CODES 0) / 4
    some (((List.range 16).map fun j => (if s.joined then s.flockCode (16 * k + j) else 0) * 4 ^ j).sum)
  else if a = FLT_SAFE then 
    some (putBits (putBits (s.reg a).toNat 4 4
      (s.fld a 4 4 ||| if s.flag a 0 then ofPositions s.channels else 0)) 17 3 (recentResets s).length)
  else if a = FLT_QRES then some s.qres
  else none

/-- The OTP array as OTP_ARRAY shows it, at byte offset `o`. -/
def State.otpWord (s : State) (o : Nat) : Nat := ofLe (tgetAll 0 s.otp.array o 4)

/-- Registers of SYS and OTP whose fields are computed. -/
def State.viewSys (s : State) (a : Nat) : Option Nat :=
  if a = SYS_DEVID_LO then some (s.otp.force.devid % 2 ^ 32)
  else if a = SYS_DEVID_HI then some (s.otp.force.devid / 2 ^ 32 % 2 ^ 32)
  else if a = OTP_USED then some (otpUsed s.otp.array)
  else if OTP_ARRAY 0 ≤ a ∧ a < OTP_ARRAY 1024 then some (s.otpWord (a - OTP_ARRAY 0))
  else none

/-- The SC bits of register `a` that read 1 because their action runs (Table 0-2); an action that ends within its write
shows none. (log 14 DEDUCED) -/
def State.acting (s : State) (a : Nat) : Nat :=
  let b := blockOf a
  let on := fun (k : Nat) (p : Bool) => if p then 2 ^ k else 0
  if a = SYS_RST_CTRL then on 0 (((s.ctl.warmDeferred ||| s.ctl.warmAfterExit) &&& causeSoft) != 0)
  else if a = OTP_PROG_CTRL then on 8 s.otp.prog.isSome
  else if a = UPD_CTRL then
    match s.upd.op with
    | .none => 0
    | .erase => 2 ^ 0
    | .verify rollback => if rollback then 2 ^ 4 else 2 ^ 1
    | .write r => if r.cause = 1 then 2 ^ 2 else if r.cause = 3 then 2 ^ 3 else 2 ^ 4
  else if a = STO_CTRL then on 0 (s.sto.cause = 2 && (s.stoState == 1 || s.stoState == 2))
  else if a = SEQ_CTRL then
    on 0 (s.seq.heldCause == 2 || (s.seqState == seqRising && s.seq.cause == 2)) +
      on 1 ((s.seqState == seqBlanking || s.seqState == seqFalling) && s.seq.cause == 2)
  else if a = RTC_SET_HI then on 31 s.rtc.pendTime.isSome
  else if a = RTC_SHIFT then on 31 s.rtc.pendShift.isSome
  else if 16 ≤ b ∧ b ≤ 19 ∧ a = LNK_CTRL (b - 16) then on 0 (s.flag (LNK_STAT (b - 16)) 4)
  else if 32 ≤ b ∧ b ≤ 35 ∧ a = CH_CTRL (b - 32) then on 1 (s.flag (CH_STAT (b - 32)) 8)
  else if 16 ≤ b ∧ b ≤ 19 ∧ a = PHY_CTRL (b - 16) then
    on 0 ((s.phyOf (b - 16)).retrain && 1 ≤ s.phyState (b - 16) && s.phyState (b - 16) ≤ 4)
  else if 36 ≤ b ∧ b ≤ 39 ∧ a = OUT_CTRL (b - 36) then on 0 ((s.outOf (b - 36)).retrain && s.outState (b - 36) == outTraining)
  else if 36 ≤ b ∧ b ≤ 39 ∧ a = OUT_AUX_CMD (b - 36) then on 31 (s.flag (OUT_AUX_STAT (b - 36)) 0)
  else if a = FLK_CTRL then on 0 (s.flag FLK_STAT 24)
  else 0

/-- The value register `a` shows to context `k`; no value of the register file stands behind a computed field.
(log 14 DEDUCED) -/
def State.view (s : State) (k a : Nat) : Nat :=
  let b := blockOf a
  let who := if k = 16 then 0 else k
  let v := if b ≤ 1 then s.viewSys a
    else if 4 ≤ b ∧ b ≤ 7 then s.viewStore who a
    else if 10 ≤ b ∧ b ≤ 12 then s.viewBackup k a
    else if 16 ≤ b ∧ b ≤ 19 then s.viewPort (b - 16) a
    else if b = 20 ∨ b = 21 ∨ b = 114 then s.viewTxn a
    else if 48 ≤ b then s.viewProof a
    else none
  v.getD (s.reg a).toNat ||| s.acting a

/-! ### Reads that act, and values the state does not show -/

/-- The word that ends an event read-out is at this window address (R236). -/
def State.lastEntryWord (s : State) (k : Nat) : Option Nat :=
  let n := (s.ctxOf k).evtShown.length
  if n = 0 then none else some (EVT_RD_WIN + 4 + 8 * n)

/-- CAN_TIME as a read finds it: the microseconds since it was last known, of which the state has no measure, are a free
value while CANC runs; they wrap at 2^32 (R412). (log 157 DESIGN CHOICE) -/
def canTimeRead (c : Nat) (s : State) : State :=
  if s.coreUp && s.ladder ≤ 1 then
    let x := s.free (2 ^ 32)
    x.2.setReg (CAN_TIME c) (s.reg (CAN_TIME c) + BitVec.ofNat 32 x.1)
  else s

/-- A read of register `a` in context `k`: the value, and the state after it. ARB_STAT.WAITING shows what waits inside
one cycle too: a free value beside the classes that the state holds. FLT_WDG_STAT.LEFT falls with the time on SMO, a
free part of what was left. -/
def readReg (k a : Nat) (s : State) : Word × State :=
  let s := if k = 16 then sbpSnapshot s else if a = RTC_SUBSEC then takeSnapshot k s else s
  let s := if a = CAN_TIME 0 then canTimeRead 0 s else if a = CAN_TIME 1 then canTimeRead 1 s
    else if a = FLT_WDG_STAT then wdgPass s else s
  if a = ARB_STAT then
    let x := s.free 128
    (BitVec.ofNat 32 (x.1 ||| s.waitingClasses), x.2)
  else
    let v := BitVec.ofNat 32 (if (regFields a).isEmpty then 0 else s.view k a)
    if s.lastEntryWord k = some a then (v, consumeEvents k s) else (v, s)

end Sys2Proof.Machine
end

