-- ==== Sys2Proof/Machine/Operands.lean ====
section
/-! DEFINITION. The packets of the transaction layer (Tables 15-1 and 15-2): the fields of a request, the completions of a
request, and the result of an atomic operation. -/

namespace Sys2Proof.Machine

/-- TYPE codes (Table 15-1). -/
def tyRd : BitVec 4 := 1
def tyWr : BitVec 4 := 2
def tyAt : BitVec 4 := 3
def tyCpl : BitVec 4 := 8
def tyCpld : BitVec 4 := 9
def tyFlk : BitVec 4 := 12

/-- Little-endian field of `n` bytes at offset `o`; one that the packet does not carry whole reads 0 (R322). -/
def field (b : List Byte) (o n : Nat) : Nat := if o + n ≤ b.length then ofLe ((b.drop o).take n) else 0

/-- The fields of a request (Table 15-2). -/
structure Req where
  addr : Nat
  tag : Nat
  /-- bits [15:9] of the TAG field -/
  rsv : Nat
  count : Nat
  op : Nat
  size : Nat
  opa : Nat
  opb : Nat
  data : List Byte
deriving DecidableEq, Repr

/-- The request that a payload spells. -/
def reqOf (b : List Byte) : Req :=
  { addr := field b 0 4, tag := field b 4 2 % 512, rsv := field b 4 2 / 512, count := field b 6 2, op := field b 6 1,
    size := field b 7 1, opa := field b 8 8, opb := field b 16 8, data := b.drop 8 }

/-- Bytes that a request of `type` touches. -/
def Req.bytes (r : Req) (type : BitVec 4) : Nat := if type = tyAt then r.size else r.count

/-- Check 5 (Table 15-3, R313, R330): LENGTH fits TYPE and COUNT, COUNT or SIZE within range, OP coded, reserved bits 0.
-/
def formatOk (type : BitVec 4) (b : List Byte) : Bool :=
  let r := reqOf b
  r.rsv == 0 &&
    (if type = tyRd then b.length == 8 && r.count ≤ 512
     else if type = tyWr then b.length == 8 + r.count && r.count ≤ 128
     else b.length == 24 && r.op ≤ 4 && [0, 4, 8].contains r.size && (r.op == 2 || r.opb == 0))

/-! ### Completions -/

/-- Payload of a completion without RESENT. -/
def cplHead (tag : Nat) (status : BitVec 4) (last : Bool) (offset : Nat) : List Byte :=
  leBytes 2 tag ++ leBytes 1 status.toNat ++ leBytes 1 (b2n last) ++ leBytes 2 offset ++ leBytes 2 0

/-- A CPL with LAST. `own`: the request holds its tag, which its first transmission frees. -/
def cplPacket (tenant : Tenant) (tag : Nat) (status : BitVec 4) (own : Bool) : Packet :=
  { type := tyCpl, vc := true, tenant := tenant, payload := cplHead tag status true 0,
    tag := if own then some tag else none, last := true }

/-- A CPLD. -/
def cpldPacket (tenant : Tenant) (tag : Nat) (status : BitVec 4) (last : Bool) (offset : Nat) (data : List Byte) : Packet :=
  { type := tyCpld, vc := true, tenant := tenant, payload := cplHead tag status last offset ++ data, tag := some tag,
    last := last }

/-- STATUS of a completion packet. -/
def Packet.status (k : Packet) : Nat := (k.payload.getD 2 0).toNat

/-- The CPLD packets of a read: 128 bytes each and a shorter last one, in ascending OFFSET, LAST on the last; `bad`
tells the byte offsets that read as poison (R315, R316). -/
def readPackets (tenant : Tenant) (tag : Nat) (data : List Byte) (bad : Nat → Bool) : List Packet :=
  let n := (data.length + 127) / 128
  (List.range n).map fun k =>
    let part := (data.drop (128 * k)).take 128
    let poison := (List.range part.length).any fun i => bad (128 * k + i)
    cpldPacket tenant tag (if poison then 4 else 0) (k + 1 == n) (128 * k) part

/-! ### Atomics (Table 15-2) -/

/-- The new value of an atomic on `size` bytes with old value `old`: FETCH_ADD, SWAP, CAS, FETCH_AND, FETCH_OR. -/
def atomicResult (op size old opa opb : Nat) : Nat :=
  let m := 2 ^ (8 * size)
  let a := opa % m
  if op = 0 then (old + a) % m
  else if op = 1 then a
  else if op = 2 then (if old = a then opb % m else old)
  else if op = 3 then old &&& a
  else old ||| a

end Sys2Proof.Machine
end

