-- ==== Sys2Proof/Machine/Serve.lean ====
section
/-! DEFINITION. Executing accepted requests to working memory, the completions they queue and the counters they feed
(15, R315 to R319, R322), and the domain resets of SYS_RST_CTRL (R21, R332). -/

namespace Sys2Proof.Machine

/-- A state, and the fault sources to report once everything else is done, one list per report. -/
abbrev Act := State × List (List Nat)

def Act.run (x : Act) : State := reportAll x.2 x.1

/-! ### Counters and completions -/

/-- TXN_ERR_LAST and TXN_ERR_ADDR of a request. -/
def noteLast (p : Nat) (type : BitVec 4) (tenant : Nat) (b : List Byte) (status : Nat) (s : State) : State :=
  let r := reqOf b
  (s.setFlds TXN_ERR_LAST [(0, 4, status), (4, 4, tenant), (8, 2, p), (12, 4, type.toNat), (16, 9, r.tag)]).setReg
    TXN_ERR_ADDR (BitVec.ofNat 32 r.addr)

/-- An error completion of a request (R322). -/
def noteError (p : Nat) (type : BitVec 4) (tenant : Nat) (b : List Byte) (status : Nat) (s : State) : State :=
  let s := (s.bump TXN_CNT 0 16 1).bump (TEN_ERR tenant) 0 16 1
  noteLast p type tenant b status ((s.setFld (TEN_ERR tenant) 16 4 status).raise TXN_STAT 16)

/-- A dropped request of port `p` (R322); the transaction protocol fault of the port is still to report. -/
def noteDrop (p : Nat) (type : BitVec 4) (tenant : Nat) (b : List Byte) (s : State) : State :=
  noteLast p type tenant b 15 ((s.bump TXN_CNT 16 16 1).raise TXN_STAT 16)

/-- Queue completions on port `p`. While the port is down, and for a request delivered before the port left UP
(`again`), they are re-sent with RESENT and without a last transmission; any other waits behind those that are still
owed (R331). (log 153 DEDUCED) -/
def queueRsp (p : Nat) (again : Bool) (l : List Packet) (s : State) : State :=
  let mark := again || s.lnkState p = lnDown
  let s := if mark ∧ s.lnkState p = lnUp then s.bump TXN_RESENT 0 16 l.length else s
  if mark then modLnk p (fun k => { k with qRsp := k.qRsp ++ l.map (markResent 0xFFFF) }) s
  else if s.owes p then modLnk p (fun k => { k with qLate := k.qLate ++ l }) s
  else modLnk p (fun k => { k with qRsp := k.qRsp ++ l }) s

/-- The completions of an accepted request are queued and its slot is released (R317), each error completion counted. A
reset of its port discards and counts them (R332). (log 154 DEDUCED) -/
def complete (d : Delivered) (l : List Packet) (s : State) : State :=
  if d.gone then releaseSlot d.port d.req.vc (s.bump TXN_RESENT 16 16 l.length)
  else
    let s := l.foldl (fun s k => if k.status = 0 then s
      else noteError d.port d.type d.req.tenant d.req.payload k.status s) s
    releaseSlot d.port d.req.vc (queueRsp d.port d.again l s)

/-! ### Working memory -/

/-- Execute a WR or AT on working memory (R107, R110, R315, R316, R319). -/
def wmExecute (d : Delivered) (s : State) : Act :=
  let q := d.req
  let r := reqOf q.payload
  if d.type = tyWr then
    let x := wmWrite r.addr (r.data.take r.count) q.tenant s
    (complete d [cplPacket q.tenant r.tag (if x.1 then stPoison else stOk) true] x.2.2, x.2.1)
  else
    let s := touch r.addr r.size s
    let ws := wordsOf r.addr r.size
    let e := eccCount ws q.tenant 0 s
    if (s.poisoned ws).isEmpty then
      let v := ofLe (s.wmBytes r.addr r.size)
      let x := wmWrite r.addr (leBytes r.size (atomicResult r.op r.size v r.opa r.opb)) q.tenant e.2
      (complete d [cpldPacket q.tenant r.tag stOk true 0 (leBytes r.size v)] x.2.2, e.1 ++ x.2.1)
    else (complete d [cplPacket q.tenant r.tag stPoison true] e.2, e.1)

/-- The writes of port `p` held for Sluice take effect: Sluice reads their lines next (R136). (log 148 DEDUCED) -/
def flushWrites (p : Nat) (s : State) : Act :=
  let mine := s.sto.heldWrites.filter fun d => d.port.val = p
  let s := { s with sto := { s.sto with heldWrites := s.sto.heldWrites.filter fun d => d.port.val ≠ p } }
  mine.foldl (fun x d => let y := wmExecute d x.1; (y.1, x.2 ++ y.2)) (s, [])

/-- The end of a fill that an access has completed (R34). -/
def fillCheck (x : Act) : Act := (restoreCheck x.1, x.2)

/-! ### Domain resets (R21, R217, R285, R332, R397, R416) -/

/-- SYS_RST_CTRL bit of a domain (its lower bit number). -/
def domainBit : ResetDomain → Nat
  | .ilv0 => 1
  | .ilv1 => 2
  | .frd0 => 3
  | .frd1 => 4
  | .can0 => 5
  | .can1 => 6
  | .adc => 7
  | .opt => 8

/-- The registers of block `b` take their reset values, but for those that `keep` names. -/
def clearBlock (b : Nat) (keep : Nat → Bool) (s : State) : State :=
  { s with regs := s.regs.filter fun e => blockOf e.1 != b || keep (e.1 % 0x10000) }

/-- The settings that the image gives the registers of block `b` (R49). -/
def imageBlock (b : Nat) (s : State) : State :=
  match s.conf with
  | none => s
  | some i => { s with regs := ((imageSettings s.otp.force i).filter fun e => blockOf e.addr = b).foldl applySetting s.regs }

/-- The delivered requests of port `p` that wait: they still execute, and their completions will be discarded (R332).
(log 23 DEDUCED) -/
def markGone (p : Nat) (l : List Delivered) : List Delivered := l.map fun d => if d.port.val = p then { d with gone := true } else d

/-- The completions that port `p` still holds, not yet sent or not yet acknowledged. -/
def State.completionsOf (s : State) (p : Nat) : Nat :=
  (((s.lnkOf p).replay.map (·.pkt) ++ (s.lnkOf p).qRsp ++ (s.lnkOf p).qLate).filter (·.isCompletion)).length

/-- A domain reset of a link port: its completions are discarded, each counted, and its tags freed; delivered requests
still execute; requests not yet delivered are discarded with their slots; MSGs handed back are due again; the port
returns to IDLE with its registers at reset and its image settings. (log 23 DEDUCED, 154 DEDUCED) -/
def portReset (p : Nat) (s : State) : State :=
  let off := s.phyState p = phDisabled
  let due := ((((s.lnkOf p).replay.map (·.pkt)) ++ (s.lnkOf p).qReq).filter (·.isMsg)).map (·.tenant.val)
  let s := if p < 2 then s.bump TXN_RESENT 16 16 (s.completionsOf p) else s
  let s := { s with
    sto := { s.sto with heldWrites := markGone p s.sto.heldWrites, heldReads := markGone p s.sto.heldReads },
    txn := { s.txn with
      tags := s.txn.tags.filter fun e => !(e.2.1 = p && p < 2),
      held := s.txn.held.filter fun h => match h with | .packet q _ _ => q.val ≠ p | _ => true,
      msgWait := s.txn.msgWait ++ (due.eraseDups.filter fun t => !s.txn.msgWait.contains t) } }
  let s := { s with phy := tdel s.phy p, lnk := tdel s.lnk p }
  let s := imageBlock (16 + p) (clearBlock (16 + p) (fun _ => false) s)
  if off then setPhyState p phDisabled s else electricalIdle p s

/-- A domain reset of a CAN controller: off the bus at once, buffers, filters and counters cleared; sources stay.
(log 23 DEDUCED) -/
def canReset (c : Nat) (s : State) : State := { clearBlock (64 + c) (fun _ => false) s with can := tdel s.can c }

/-- A domain reset of the measurement block: conversions stop; the results keep their codes and are no longer valid.
(log 23 DEDUCED) -/
def adcReset (s : State) : State :=
  { adcInvalid (clearBlock 80 (fun o => 0x200 ≤ o) s) with adc := { AdcSt.reset with stopped := true } }

/-- A domain reset of OPT: every open O window ends inconclusive, which presence payloads show (R392).
(log 23 DEDUCED) -/
def optReset (s : State) : State :=
  let x := inconclusiveO s
  notice (Rep.run (clearBlock 49 (fun _ => false) x.1, x.2))

/-- The reset of domain `d` begins: its SYS_RST_CTRL bit reads 1 until it ends. (log 22 DEDUCED) -/
def domainStart (d : ResetDomain) (s : State) : State :=
  let s := s.raise SYS_RST_CTRL (domainBit d)
  match d with
  | .ilv0 => portReset 0 s
  | .ilv1 => portReset 1 s
  | .frd0 => portReset 2 s
  | .frd1 => portReset 3 s
  | .can0 => canReset 0 s
  | .can1 => canReset 1 s
  | .adc => adcReset s
  | .opt => optReset s

/-- A port restarts after its reset; in P2 and deeper it trains with the exit (R284). (log 23 DEDUCED, 137 DEDUCED) -/
def portRestart (p : Nat) (s : State) : State :=
  if !s.configured then s
  else if !s.portEnabled p then setPhyState p phDisabled s
  else if s.ladder ≤ 1 then phyTrain p s else s

/-- A CAN controller restarts with its image settings; its sources keep their states. (log 23 DEDUCED, 182 DEDUCED) -/
def canRestart (c : Nat) (s : State) : State := if s.configured then canStart c false (imageBlock (64 + c) s) else s

/-- The reset of domain `d` ends: the block restarts. (log 22 DEDUCED) -/
def domainEnd (d : ResetDomain) (s : State) : State :=
  if !s.flag SYS_RST_CTRL (domainBit d) then s
  else
    let s := s.lower SYS_RST_CTRL (domainBit d)
    match d with
    | .ilv0 => portRestart 0 s
    | .ilv1 => portRestart 1 s
    | .frd0 => portRestart 2 s
    | .frd1 => portRestart 3 s
    | .can0 => canRestart 0 s
    | .can1 => canRestart 1 s
    | .adc => overbookCheck { imageBlock 80 s with adc := { s.adc with stopped := false } }
    | .opt => imageBlock 49 s

/-- Every domain of SYS_RST_CTRL, in bit order. -/
def resetDomains : List ResetDomain := [.ilv0, .ilv1, .frd0, .frd1, .can0, .can1, .adc, .opt]

/-- A write of SYS_RST_CTRL (R14, R21): the domain resets it asks for begin, then WARM takes effect. (log 22 DEDUCED) -/
def wrRstCtrl (_who : Nat) (w : Word) (s : State) : State :=
  let s := (resetDomains.filter fun d => bit w.toNat (domainBit d)).foldl (fun s d => domainStart d s) s
  if bit w.toNat 0 then softWarm s else s

/-- WARM (R14). -/
def execWarm (t : Requester) (s : State) : Host.Outcome State Fault Refusal :=
  finish (regCmd t SYS_RST_CTRL 1 wrRstCtrl s)

/-- DOMAIN_RESET (R21). -/
def execDomainReset (t : Requester) (d : ResetDomain) (s : State) : Host.Outcome State Fault Refusal :=
  finish (regCmd t SYS_RST_CTRL (BitVec.ofNat 32 (2 ^ domainBit d)) wrRstCtrl s)

/-- DOMAIN_RESET_END (R21). -/
def execDomainResetEnd (d : ResetDomain) (s : State) : Host.Outcome State Fault Refusal := finish (domainEnd d s)

end Sys2Proof.Machine
end

