-- ==== Sys2Proof/Machine/RegWrite.lean ====
section
/-! DEFINITION. What a write of each register does (0, R3, R51): the registers whose writes act, and every other one by
its access codes. One operation per address serves tenants' writes, the sideband port and the commands of the table. -/

namespace Sys2Proof.Machine

/-- A write of a register without an action: RB fields under R51, the others by their codes (Table 0-2, R4). -/
def storeReg (a who : Nat) (w : Word) (s : State) : State :=
  if accMask [.rb] a ≠ 0 then rbWrite a who w (fun s => s) s else s.write a w

/-! ### STR: the bound query -/

/-- STR_BQ_RES, MIN and MAX follow STR_BQ_ADDR and STR_BQ_BIT. -/
def boundAnswer (s : State) : State :=
  let a := (s.reg STR_BQ_ADDR).toNat
  let i := s.fld STR_BQ_BIT 0 5
  match s.bounds.find? fun r => r.addr = a ∧ r.lsb ≤ i ∧ i < r.lsb + r.width with
  | none => ((s.setReg STR_BQ_RES 0).setReg STR_BQ_MIN 0).setReg STR_BQ_MAX 0
  | some r =>
    let s := s.setFlds STR_BQ_RES [(0, 1, 1), (3, 5, r.lsb), (8, 6, r.width), (16, 16, r.writers)]
    (s.setReg STR_BQ_MIN (BitVec.ofNat 32 r.min)).setReg STR_BQ_MAX (BitVec.ofNat 32 r.max)

/-- A write of STR_BQ_ADDR or STR_BQ_BIT. -/
def wrBound (a _who : Nat) (w : Word) (s : State) : State := boundAnswer (s.write a w)

/-- BOUND_QUERY (R51). -/
def execBoundQuery (t : Requester) (bit : Bool) (w : Word) (s : State) : Host.Outcome State Fault Refusal :=
  let a := if bit then STR_BQ_BIT else STR_BQ_ADDR
  finish (regCmd t a w (wrBound a) s)

/-! ### MEM -/

/-- A write of MEM_ECC_CTRL (R118). -/
def wrEccCtrl (_who : Nat) (w : Word) (s : State) : State := if bit w.toNat 0 then s.setReg MEM_ECC_CNT 0 else s

/-- ECC_COUNT_CLEAR (R118). -/
def execEccCountClear (t : Requester) (w : Word) (s : State) : Host.Outcome State Fault Refusal :=
  finish (regCmd t MEM_ECC_CTRL w wrEccCtrl s)

/-- A write of MEM_STALEk or MEM_LOSTk clears the bits of regions that the writer owns, or all for T0 (R115). -/
def wrRegionFlags (base : Nat → Nat) (k who : Nat) (w : Word) (s : State) : State :=
  let mine := (bitsSet 32 w.toNat).filter fun j => who = 0 || (s.regions[32 * k + j]?).any fun r => r.owner = who
  s.setReg (base k) (s.reg (base k) &&& ~~~BitVec.ofNat 32 (ofPositions mine))

/-- STALE_FLAG_CLEAR (R115). -/
def execStaleFlagClear (t : Requester) (lost : Bool) (k : Fin 8) (w : Word) (s : State) :
    Host.Outcome State Fault Refusal :=
  let base := if lost then MEM_LOST else MEM_STALE
  finish (regCmd t (base k) w (wrRegionFlags base k) s)

/-! ### TXN and INT -/

/-- A write of TXN_CLR. -/
def wrTxnClr (_who : Nat) (w : Word) (s : State) : State :=
  if bit w.toNat 0 then (s.setReg TXN_CNT 0).setReg TXN_RESENT 0 else s

/-- TXN_COUNTER_CLEAR (R322). -/
def execTxnCounterClear (t : Requester) (w : Word) (s : State) : Host.Outcome State Fault Refusal :=
  finish (regCmd t TXN_CLR w wrTxnClr s)

/-- A write of INT_CTL of tenant `x`: EOI re-arms, and a summary of 1 sends a MSG at once (R326). -/
def wrEoi (x _who : Nat) (w : Word) (s : State) : State :=
  if bit w.toNat 0 then
    let m := 1#16 <<< x
    { s with txn := { s.txn with armed := s.txn.armed ||| m, lastS := s.txn.lastS &&& ~~~m } }
  else s

/-- EOI (R326). -/
def execEoi (t : Requester) (x : Tenant) (w : Word) (s : State) : Host.Outcome State Fault Refusal :=
  finish (regCmd t (INT_CTL x) w (wrEoi x) s)

/-- INT_ROUTE (R328, R334): the evaluation at the end sees the new routes. -/
def execIntRoute (t : Requester) (k : Fin 4) (w : Word) (s : State) : Host.Outcome State Fault Refusal :=
  finish (regCmd t (INT_ROUTE k) w (storeReg (INT_ROUTE k)) s)

/-- INT_ENABLE (R334): the evaluation at the end sees the new enables. -/
def execIntEnable (t : Requester) (x : Tenant) (w : Word) (s : State) : Host.Outcome State Fault Refusal :=
  finish (regCmd t (INT_EN x) w (storeReg (INT_EN x)) s)

/-! ### One operation per register -/

/-- SYS to UPD (blocks 0 to 3). Whether VPP_NV is in range for an OTP program is not the state's to show: free.
(log 44 DESIGN CHOICE) -/
def writeSys (a : Nat) : Nat → Word → State → State :=
  if a = SYS_RST_CTRL then wrRstCtrl
  else if a = OTP_PROG_CTRL then fun who w s => let x := s.free 2; wrOtpProg (x.1 = 1) who w x.2
  else if (OTP_BUF 0 ≤ a ∧ a < OTP_BUF 32) ∨ (OTP_AUTH 0 ≤ a ∧ a < OTP_AUTH 32) then wrOtpBuf a
  else if a = STR_BQ_ADDR ∨ a = STR_BQ_BIT then wrBound a
  else if a = UPD_CTRL then wrUpdCtrl
  else storeReg a

/-- MEM to SUP (blocks 4 to 9). The VHOLD_SNS sample of an admission test is the newest one taken.
(log 69 DESIGN CHOICE) -/
def writeStore (a : Nat) : Nat → Word → State → State :=
  if a = MEM_ECC_CTRL then wrEccCtrl
  else if MEM_STALE 0 ≤ a ∧ a < MEM_STALE 8 then wrRegionFlags MEM_STALE ((a - MEM_STALE 0) / 4)
  else if MEM_LOST 0 ≤ a ∧ a < MEM_LOST 8 then wrRegionFlags MEM_LOST ((a - MEM_LOST 0) / 4)
  else if a = STO_CTRL then fun who w s => wrStoCtrl s.vholdNow who w s
  else if a = PWR_REQ then fun who w s => wrPwrReq s.vholdNow who w s
  else if a = PWR_SBP_WAKE then wrSbpWake
  else if a = SEQ_CTRL then wrSeqCtrl
  else storeReg a

/-- RTC, EVT and LOG (blocks 10 to 12), for context `k`. -/
def writeBackup (k a : Nat) : Nat → Word → State → State :=
  if a = RTC_SET_LO then
    fun who w s => if k = 16 then { s with sbp := { s.sbp with stagedLo := some w } } else storeReg a who w s
  else if a = RTC_SET_HI then
    fun who w s => if k = 16 then setHi (s.sbp.stagedLo.getD (s.reg RTC_SET_LO)).toNat w s else wrSetHi who w s
  else if a = RTC_TRIM then wrRtcTrim
  else if a = RTC_SHIFT then wrShift false
  else if a = RTC_CD_LOAD then wrCdLoad
  else if a = RTC_SWFIRST_SUB then wrSwfirst
  else if a = EVT_STAT then wrEvtStat
  else if a = EVT_RD_CTRL then fun _ w s => readEvents k w s
  else if a = LOG_RD_CTRL then fun _ w s => readLog k w s
  else storeReg a

/-- A link port block (16 to 19), TXN and TEN (20, 21). -/
def writeLink (a : Nat) : Nat → Word → State → State :=
  let p := blockOf a - 16
  if a = TXN_CLR then wrTxnClr
  else if 4 ≤ p then storeReg a
  else if a = PHY_CTRL p then wrPhyCtrl p
  else if a = PHY_CLR p then wrPhyClr p
  else if a = LNK_CTRL p then wrLnkCtrl p
  else storeReg a

/-- Channels and outputs (blocks 32 to 39). -/
def writeDisplay (a : Nat) : Nat → Word → State → State :=
  let n := blockOf a % 4
  if a = CH_CTRL n then wrChCtrl n
  else if a = CH_CLR n then wrChClr n
  else if a = CH_PAL_A n then wrPalA n
  else if a = OUT_CTRL n then wrOutCtrl n
  else if a = OUT_CLR n then wrOutClr n
  else if a = OUT_AUX_CMD n then wrAuxCmd n
  else storeReg a

/-- TT, OPT and LED (blocks 48 to 50). -/
def writeProof (a : Nat) : Nat → Word → State → State :=
  if a = TT_T1_ALIVE then wrT1Alive
  else if TT_T1_REQ 0 ≤ a ∧ a < TT_T1_REQ 4 then wrT1Req ((a - TT_T1_REQ 0) / 4)
  else if a = OPT_CFG then wrOptCfg
  else if LED_CUR 0 ≤ a ∧ a < LED_CUR 32 then wrLedCur ((a - LED_CUR 0) / 4)
  else if blockOf a = 48 ∧ accMask [.rb] a ≠ 0 then wrTtRb a
  else storeReg a

/-- CAN controllers (blocks 64 and 65). -/
def writeCan (a : Nat) : Nat → Word → State → State :=
  let c := blockOf a - 64
  let o := a % 0x10000
  if o = 0 then wrCanCtrl c
  else if 0x100 ≤ o ∧ o < 0x200 then wrMbCtrl c ((o - 0x100) / 4) none
  else if 0x1000 ≤ o ∧ o < 0x2400 then wrMbWord a
  else storeReg a

/-- ADC, BKL, FLK, ARB, FLT and INT (blocks 80 to 114). -/
def writeRest (a : Nat) : Nat → Word → State → State :=
  if ADC_CH_CFG 0 ≤ a ∧ a < ADC_CH_CFG 32 then wrAdcCfg ((a - ADC_CH_CFG 0) / 4)
  else if BKL_DUTY 0 ≤ a ∧ a < BKL_DUTY 4 ∧ (a - BKL_DUTY 0) % 16 < 12 then wrBkl a ((a - BKL_DUTY 0) / 16)
  else if a = FLK_CTRL then wrFlkCtrl
  else if a = ARB_CLR then wrArbClr
  else if a = FLT_SAFE_CTRL then wrSafeCtrl
  else if a = FLT_QSRC then wrQsrc
  else if a = FLT_WDG_KICK then wrWdgKickNow
  else if blockOf a = 114 ∧ a % 0x20 = 8 then
    fun who w s => match intTenant (a % 0x10000) with
      | some x => wrEoi x who w s
      | none => storeReg a who w s
  else storeReg a

/-- What a write of register `a` does in context `k`, once the writer's rights are checked. -/
def writeReg (k a : Nat) : Nat → Word → State → State :=
  let b := blockOf a
  if b < 4 then writeSys a
  else if b < 10 then writeStore a
  else if b < 13 then writeBackup k a
  else if b < 22 then writeLink a
  else if b < 40 then writeDisplay a
  else if b < 51 then writeProof a
  else if b < 66 then writeCan a
  else writeRest a

/-- The address lies in the register space, in a block of Table 23-1 (R103, R485). (log 12 DEDUCED, 151 DEDUCED) -/
def regMapped (a : Nat) : Bool := regBase ≤ a && a < 0x80800000 && listedBlock (blockOf a)

/-- The value a write carries where the device sets the W1C bits `same` of the register in the cycle of the write: those
bits end set (R5). (log 10 DEDUCED) -/
def besideSet (a : Nat) (same w : Word) : Word := w &&& ~~~(same &&& BitVec.ofNat 32 (accMask [.w1c] a))

/-- A write of any register by its address (R3): an unmapped address and a misaligned one complete with their errors
(R2, R103). An access that is held is judged when it is released. -/
def regWriteAt (t : Requester) (addr w : Word) (op : Word → Word) (s : State) : State :=
  let a := addr.toNat
  if s.holdsFor t ∧ (!regMapped a ∨ a % 4 ≠ 0) then holdReg t addr w s
  else if !regMapped a then (if s.servesFor t then { s with lastStatus := stDecode } else s)
  else if a % 4 ≠ 0 then (if s.servesFor t then { s with lastStatus := stFormat } else s)
  else regCmd t a w (fun who w s => writeReg (ctxOfReq t) a who (op w) s) s

/-- REGISTER_WRITE (R3, R5). -/
def execRegisterWrite (t : Requester) (addr w same : Word) (s : State) : Host.Outcome State Fault Refusal :=
  finish (regWriteAt t addr w (besideSet addr.toNat same) s)

end Sys2Proof.Machine
end

