-- ==== Sys2Proof/Machine/Txn.lean ====
section
/-! DEFINITION. The transaction layer (15): the checks of Table 15-3 on a delivered request, its execution and its
completions, requests held until they may be served (R35, R55, R122, R136, R180), and the delivery of flits (R291). -/

namespace Sys2Proof.Machine

/-! ### Checks (Table 15-3) -/

/-- The tenant exists: declared, or T0 in the unconfigured state (R59). -/
def State.declared (s : State) (t : Nat) : Bool := (s.tenantRec t).isSome || (s.cfg.isNone && t == 0)

/-- The tag lies in the tenant's range (R113, R329). (log 156 DEDUCED) -/
def State.tagInRange (s : State) (t tag : Nat) : Bool :=
  let base := s.fld (TEN_TAG t) 0 9
  base ≤ tag && tag < base + s.fld (TEN_TAG t) 16 10

/-- Receive-pool slots that tenant `t` occupies on port `p` (R113). (log 147 DEDUCED) -/
def State.slotsOf (s : State) (p t : Nat) : Nat :=
  (s.txn.held.filter fun h => match h with | .packet q _ r => q.val = p ∧ r.tenant.val = t | _ => false).length +
    ((s.sto.heldWrites ++ s.sto.heldReads).filter fun d => d.port.val = p ∧ d.req.tenant.val = t).length +
    ((s.lnkOf p).held.filter fun f => !f.vc && f.tenant.val = t).length

/-- Check 4: PORT_MASK and CREDIT_QUOTA. (log 156 DEDUCED) -/
def State.portAllowed (s : State) (p t : Nat) : Bool :=
  s.flag (TEN_CFG t) p && s.slotsOf p t + 1 ≤ s.fld (TEN_CFG t) 16 11

/-- What a request addresses (Table 6-1). -/
inductive Space where
  | memory | nv | register | aperture | none
deriving DecidableEq, Repr

/-- The range of Table 6-1 that holds every byte of [a, a + n). (log 151 DEDUCED) -/
def spaceOf (a n : Nat) : Space :=
  if a + n ≤ wmSize then .memory
  else if 0x40000000 ≤ a ∧ a + n ≤ 0x4C000000 then .nv
  else if regMapped a ∧ regMapped (a + n - 1) then .register
  else if 0x90000000 ≤ a ∧ a + n ≤ 0x91000000 then .aperture
  else .none

/-- Check 7: alignment and the 4 KiB boundary (R2). -/
def aligned (type : BitVec 4) (sp : Space) (a n : Nat) : Bool :=
  a / 4096 == (a + n - 1) / 4096 && (sp != .register || (a % 4 == 0 && n == 4)) && (type != tyAt || a % n == 0)

/-- Check 9: the tenant's rights (R80, R81, R104, R105, R106). (log 150 DEDUCED, 152 DEDUCED) -/
def State.permitted (s : State) (t : Nat) (type : BitVec 4) (sp : Space) (a n : Nat) : Bool :=
  match sp with
  | .memory => (type = tyWr || s.wmRight t false a n) && (type = tyRd || s.wmRight t true a n)
  | .nv => t == 0 && type == tyRd
  | .register => if type = tyRd then s.mayRead t a else s.mayWrite t a
  | .aperture => t == 0 && (if type = tyRd then apertureMapped a n else s.apertureOpen a n)
  | .none => false

/-- Checks 2 to 9: none if the request is accepted, 15 if it is dropped, else the STATUS of its CPL (R314, R320). -/
def State.judge (s : State) (p : HostPort) (type : BitVec 4) (q : ReqPacket) : Option Nat :=
  let r := reqOf q.payload
  let t := q.tenant.val
  let n := r.bytes type
  let sp := spaceOf r.addr n
  if !s.declared t then some 7
  else if !s.tagInRange t r.tag then some 8
  else if (tfind s.txn.tags r.tag).isSome then some 15
  else if !s.portAllowed p t then some 7
  else if !formatOk type q.payload then some 5
  else if n = 0 then none
  else if sp = .none then some 1
  else if !aligned type sp r.addr n then some 5
  else if type = tyAt ∧ sp ≠ .memory then some 6
  else if !s.permitted t type sp r.addr n then some 2
  else none

/-! ### Execution -/

/-- A dropped packet; its slot is released (R322). -/
def dropPacket (p : Port) (type : BitVec 4) (q : ReqPacket) (s : State) : Act :=
  (releaseSlot p q.vc (noteDrop p type q.tenant q.payload s), [[58 + p.val]])

/-- An error CPL for a request that holds no tag; its slot is released. -/
def refusePacket (p : HostPort) (type : BitVec 4) (q : ReqPacket) (status : Nat) (s : State) : State :=
  let s := noteError p type q.tenant q.payload status s
  releaseSlot p q.vc (queueRsp p false [cplPacket q.tenant (reqOf q.payload).tag (BitVec.ofNat 4 status) false] s)

/-- The request holds its tag from here on; the tenant's PEAK follows. -/
def acceptTag (p : HostPort) (q : ReqPacket) (s : State) : State :=
  let t := q.tenant.val
  let s := { s with txn := { s.txn with tags := tput s.txn.tags (reqOf q.payload).tag (p.val, t) } }
  s.setFld (TEN_HELD t) 16 10 (max (s.fld (TEN_HELD t) 16 10) (s.tagsOf t))

/-- Sluice stores a region that the request touches (R136). (log 149 DESIGN CHOICE) -/
def State.storing (s : State) (a n : Nat) : Bool :=
  match s.sto.cur.bind fun i => s.regions[i]? with
  | none => false
  | some r => s.stoState == 1 && r.base < a + n && a < r.base + r.size

/-- The NV read window answers (R106, R122, R172, R316); reading a block that is being pre-erased suspends that. -/
def nvRead (d : Delivered) (s : State) : State :=
  let r := reqOf d.req.payload
  let o := r.addr - 0x40000000
  let s := if (s.block (o / blockSize)).state = .preerasing then hkSuspend s else s
  let data := (List.range r.count).map fun i => s.nvByte (o + i)
  complete d (readPackets d.req.tenant r.tag data fun i => s.nvPoisoned (o + i)) s

/-- A read of working memory (R108, R109, R315, R316, R335). -/
def wmReadNow (d : Delivered) (s : State) : Act :=
  let r := reqOf d.req.payload
  let s := touch r.addr r.count s
  let e := eccCount (wordsOf r.addr r.count) d.req.tenant 0 s
  let bad := fun i => s.mem.poison.contains ((r.addr + i) / 16)
  (complete d (readPackets d.req.tenant r.tag (s.wmBytes r.addr r.count) bad) e.2, e.1)

/-- A read of the aperture returns the inactive slot (R81). -/
def apertureRead (d : Delivered) (s : State) : State :=
  let r := reqOf d.req.payload
  let o := s.apertureOffset r.addr
  let data := (List.range r.count).map fun i => s.nvByte (o + i)
  complete d (readPackets d.req.tenant r.tag data fun i => s.nvPoisoned (o + i)) s

/-- A register access of a request; STATUS as the register gives it. The completion of a write that resets its own port
is discarded (R332). (log 23 DEDUCED, 154 DEDUCED) -/
def regAccess (d : Delivered) (s : State) : State :=
  let r := reqOf d.req.payload
  let t := d.req.tenant.val
  let s := { s with lastStatus := stOk }
  if d.type = tyRd then
    let x := readReg t r.addr (ungate r.addr s)
    complete d (readPackets d.req.tenant r.tag (leBytes 4 x.1.toNat) fun _ => false) (regate r.addr s x.2)
  else
    let w := ofLe (r.data.take 4)
    let s := clocked r.addr (writeReg t r.addr t (BitVec.ofNat 32 w)) s
    let own := r.addr = SYS_RST_CTRL && s.lastStatus = stOk && bit w (1 + d.port.val)
    complete { d with gone := d.gone || own } [cplPacket d.req.tenant r.tag s.lastStatus true] s

/-- Reads of the NV read window wait (R122): a store runs, or Class A restore. -/
def State.nvHeld (s : State) : Bool := 1 ≤ s.stoState && s.stoState ≤ 3

/-- Execute an accepted request that touches something. Whether Sluice has already read the line that a write to the
region in store targets is not specified: free (R136). Whether an aperture write's program verify passes is not the
state's to show: free (R100). (log 55 DESIGN CHOICE, 71 DEDUCED, 149 DESIGN CHOICE, 204 DESIGN CHOICE) -/
def executeNow (d : Delivered) (s : State) : Act :=
  let r := reqOf d.req.payload
  let n := r.bytes d.type
  match spaceOf r.addr n with
    | .memory =>
      if d.type = tyRd then fillCheck (wmReadNow d s)
      else if s.storing r.addr n then
        let x := s.free 2
        if x.1 = 1 then fillCheck (wmExecute d x.2)
        else ({ x.2 with sto := { x.2.sto with heldWrites := x.2.sto.heldWrites ++ [d] } }, [])
      else fillCheck (wmExecute d s)
    | .nv =>
      if s.nvHeld then ({ s with sto := { s.sto with heldReads := s.sto.heldReads ++ [d] } }, [])
      else (nvRead d s, [])
    | .register => (regAccess d s, [])
    | .aperture =>
      if d.type = tyRd then (apertureRead d s, [])
      else
        let x := s.free 2
        let s := aperturePut r.addr (r.data.take r.count) (x.1 = 1) x.2
        (complete d [cplPacket d.req.tenant r.tag stOk true] s, [])
    | .none => (s, [])

/-- A request of the port waits for the NV read window: later ones wait behind it (R318). (log 148 DEDUCED) -/
def State.behindRead (s : State) (p : Nat) : Bool := s.sto.heldReads.any fun d => d.port.val = p

/-- Execute an accepted request (R320) in the delivery order of its port (R318): behind a read of the NV window that is
held, and after the writes that wait for Sluice. (log 148 DEDUCED) -/
def execute (d : Delivered) (s : State) : Act :=
  let r := reqOf d.req.payload
  if s.behindRead d.port then ({ s with sto := { s.sto with heldReads := s.sto.heldReads ++ [d] } }, [])
  else if r.bytes d.type = 0 then (complete d [cplPacket d.req.tenant r.tag stOk true] s, [])
  else
    let x := flushWrites d.port s
    let y := executeNow d x.1
    (y.1, x.2 ++ y.2)

/-- A request that passes check 1 is judged and, if accepted, executed. -/
def serveRequest (p : HostPort) (type : BitVec 4) (q : ReqPacket) (s : State) : Act :=
  match s.judge p type q with
  | some st => if st = 15 then dropPacket (p.castLE (by decide)) type q s else (refusePacket p type q st s, [])
  | none => execute { port := p, type := type, req := q, again := false, gone := false } (acceptTag p q s)

/-! ### Holding (R35, R55, R180) -/

/-- The device is leaving or has left P0 Run: requests wait for the exit. (log 147 DEDUCED) -/
def State.away (s : State) : Bool := s.ladder ≠ 0 || s.pwr.exiting.isSome || s.pwr.portsClosed

/-- A request of `type` that arrives now is held in the receive pool. (log 147 DEDUCED) -/
def State.holdsPacket (s : State) (type : BitVec 4) (q : ReqPacket) : Bool :=
  match s.ctl.phase with
  | .run => s.away
  | .classA =>
    let r := reqOf q.payload
    r.bytes type ≠ 0 && r.addr < wmSize
  | .off => false
  | .reset => false
  | _ => true

/-- The device takes packets: its core is out of reset. -/
def State.takesPackets (s : State) : Bool := s.ctl.phase ≠ .off && s.ctl.phase ≠ .reset

/-- Check 1 (R321): a request on an Ihlov port, LENGTH at least 8, VC Request. -/
def requestShape (type : BitVec 4) (q : ReqPacket) : Bool :=
  8 ≤ q.payload.length && (type == tyRd || type == tyWr || type == tyAt) && !q.vc

/-- A request of the port of `h` stands in `l`: `h` waits behind it (R318). (log 147 DEDUCED) -/
def Held.behind (h : Held) (l : List Held) : Bool :=
  match h with
  | .packet p _ _ => l.any fun g => match g with | .packet q _ _ => q = p | _ => false
  | _ => false

/-- The link layer delivers a packet in order (R314, R321). (log 146 DESIGN CHOICE, 147 DEDUCED) -/
def deliver (p : Port) (type : BitVec 4) (q : ReqPacket) (s : State) : Act :=
  if !s.takesPackets then (s, [])
  else if h : p.val < 2 then
    let p' : HostPort := ⟨p.val, h⟩
    if !requestShape type q then dropPacket p type q s
    else if s.holdsPacket type q || (Held.packet p' type q).behind s.txn.held then
      ({ s with txn := { s.txn with held := s.txn.held ++ [.packet p' type q] } }, [])
    else serveRequest p' type q s
  else if type = tyFlk then
    let x := flkReceive true p.val q.payload (releaseSlot p q.vc s)
    (x.1, [x.2])
  else dropPacket p type q s

/-- Core writes from core address `c` on with the rights of T0; RESULT 0, or that of the first word that fails (R256). A
core that a write has sent into reset completes no further word. (log 126 DEDUCED, 128 DEDUCED) -/
def coreWrite : List Word → Nat → State → Nat × State
  | [], _, s => (0, s)
  | w :: ws, c, s =>
    if !s.sbpCore then (7, s)
    else if !regMapped c || !s.mayWrite 0 c then (6, s)
    else
      let s := clocked c (writeReg 16 c 0 w) { s with lastStatus := stOk }
      if s.lastStatus = stOk then coreWrite ws (c + 4) s else (6, s)

/-- A held request or register access is served once nothing holds it any more. (log 147 DEDUCED) -/
def serveHeld (h : Held) (s : State) : State :=
  match h with
  | .packet p type q => (serveRequest p type q s).run
  | .reg t a w => regWriteAt t a w (fun w => w) s
  | .read t consume => if consume then consumeRead t s else snapRead t s
  | .burst a ws => (coreWrite ws a.toNat s).2
  | .aperture t a d ok => apertureAccess t a d ok s

/-- What is held stays held. -/
def State.staysHeld (s : State) (h : Held) : Bool :=
  match h with
  | .packet _ type q => s.holdsPacket type q
  | .reg t _ _ => s.holdsFor t || !s.servesFor t
  | .read t _ => s.holdsFor t || !s.servesFor t
  | .burst _ _ => s.holdsFor 16 || !s.servesFor 16
  | .aperture _ _ _ _ => !s.servesRegs

/-- Serve what may be served, in the order of arrival; `i` entries before it stay. (log 147 DEDUCED) -/
def releaseHeld : Nat → Nat → State → State
  | 0, _, s => s
  | n + 1, i, s =>
    match s.txn.held[i]? with
    | none => s
    | some h =>
      if s.staysHeld h || h.behind (s.txn.held.take i) then releaseHeld n (i + 1) s
      else releaseHeld n i (serveHeld h { s with txn := { s.txn with held := s.txn.held.eraseIdx i } })

/-! ### Commands -/

/-- READ_REQUEST (R315). (log 146 DESIGN CHOICE) -/
def execReadRequest (p : HostPort) (q : ReqPacket) (s : State) : Host.Outcome State Fault Refusal :=
  finish (deliver (p.castLE (by decide)) tyRd q s).run

/-- WRITE_REQUEST (R315). -/
def execWriteRequest (p : HostPort) (q : ReqPacket) (s : State) : Host.Outcome State Fault Refusal :=
  finish (deliver (p.castLE (by decide)) tyWr q s).run

/-- ATOMIC_REQUEST (R319). -/
def execAtomicRequest (p : HostPort) (q : ReqPacket) (s : State) : Host.Outcome State Fault Refusal :=
  finish (deliver (p.castLE (by decide)) tyAt q s).run

/-- HELD_WRITE_APPLY (R136): Sluice has read the line of the oldest held write, or the store has ended.
(log 148 DEDUCED) -/
def execHeldWriteApply (s : State) : Host.Outcome State Fault Refusal :=
  match s.sto.heldWrites with
  | [] => finish s
  | d :: rest => finish (fillCheck (wmExecute d { s with sto := { s.sto with heldWrites := rest } })).run

/-- Execute delivered requests in order. (log 148 DEDUCED) -/
def executeAll (l : List Delivered) (s : State) : Act :=
  l.foldl (fun x d => let y := execute d x.1; (y.1, x.2 ++ y.2)) (s, [])

/-- NV_READ_RELEASE (R122): held read-window reads, and the requests of their ports behind them, are served once no
store and no Class A restore runs. (log 148 DEDUCED) -/
def execNvReadRelease (s : State) : Host.Outcome State Fault Refusal :=
  if s.nvHeld then finish s
  else finish (executeAll s.sto.heldReads { s with sto := { s.sto with heldReads := [] } }).run

/-- The packet of a flit. -/
def flitPacket (f : Flit) : ReqPacket := { vc := f.vc, tenant := f.tenant, payload := f.payload }

/-- Deliver the held successors in sequence order, at most `n` of them; one that waits still occupies its slot.
(log 147 DEDUCED) -/
def deliverHeld (p : Port) : Nat → Act → Act
  | 0, x => x
  | n + 1, x =>
    match (x.1.lnkOf p).held.find? fun f => f.seq.toNat = x.1.rxExp p with
    | none => x
    | some f =>
      let s := modLnk p (fun l => { l with held := l.held.filter fun g => g.seq ≠ f.seq }) x.1
      let y := deliver p f.type (flitPacket f) (advanceRx p f.seq.toNat s)
      deliverHeld p n (y.1, x.2 ++ y.2)

/-- Deliver a flit and its held successors. -/
def deliverAll (p : Port) (f : Flit) (s : State) : Act := deliverHeld p 512 (deliver p f.type (flitPacket f) s)

/-- FLIT_RECEIVED (R291, Table 14-4): a good flit with LENGTH not 0; in P1 and P2 host traffic is a wake source (Table
9-2). (log 106 DESIGN CHOICE, 146 DESIGN CHOICE) -/
def execFlitReceived (p : Port) (f : Flit) (corrected : Bool) (s : State) : Host.Outcome State Fault Refusal :=
  if !s.receives p then finish s
  else
    let s := countFlit p 0 (noteCorrected p corrected s)
    match takeAck p f s with
    | (some c, t) => finish (linkDown p c t)
    | (none, t) => match receiveSeq p f t with
      | .inl c => finish (linkDown p c t)
      | .inr (now, t) =>
        let t := linkUpCheck p t
        let t := if 1 ≤ t.headedFor ∧ t.headedFor ≤ 2 then wake (8 + p) t else t
        finish (if now then (deliverAll p f t).run else t)

end Sys2Proof.Machine
end

