-- ==== Sys2Proof/Machine/Sbp.lean ====
section
/-! DEFINITION. The sideband port (12): transactions, the frames of Table 12-1, the checks of Table 12-4, the address
spaces of Table 12-3, waiting, and the release of everything held. -/

namespace Sys2Proof.Machine

/-! ### Frames (Tables 12-1 to 12-3) -/

/-- CRC-8 of the sideband port (R251). -/
def sbpCrc (l : List Byte) : Nat := crc8 0x2F 0xFF 0xFF l

/-- The request ends with a CRC byte. -/
def frameCrc (f : List Byte) : Bool := bit (f.getD 0 0).toNat 3

/-- ADDR. -/
def frameAddr (f : List Byte) : Nat := (f.getD 1 0).toNat * 65536 + (f.getD 2 0).toNat * 256 + (f.getD 3 0).toNat

/-- COUNT. -/
def frameCount (f : List Byte) : Nat := (f.getD 4 0).toNat

/-- Data word `k` of a WRITE, most significant byte first. -/
def frameWord (f : List Byte) (k : Nat) : Word := BitVec.ofNat 32 (ofLe ((f.drop (5 + 4 * k)).take 4).reverse)

/-- The spaces of Table 12-3. -/
inductive SbpSpace where
  | own | backup | otp | core | none
deriving DecidableEq, Repr

/-- The ranges of Table 12-3: first address, end, space. -/
def sbpRanges : List (Nat × Nat × SbpSpace) :=
  [(0x000000, 0x000008, .own), (0x007040, 0x007058, .backup), (0x00A000, 0x00B000, .backup),
    (0x00B000, 0x00C000, .backup), (0x00C000, 0x010000, .backup), (0x010000, 0x011000, .otp), (0x800000, 0x1000000, .core)]

/-- The one space that holds all `n` words at `a`. -/
def sbpSpace (a n : Nat) : SbpSpace := ((sbpRanges.find? fun r => r.1 ≤ a ∧ a + 4 * n ≤ r.2.1).map (·.2.2)).getD .none

/-- Word limit of a frame at `a`. (log 130 DEDUCED) -/
def sbpLimit (write : Bool) (a : Nat) : Nat := if write ∨ (0x800000 ≤ a ∧ a < 0x1000000) then 16 else 255

/-- The core address of a backup-domain address: block 7, 0xA, 0xB or 0xC and the offset in it (R486). -/
def backupAddr (a : Nat) : Nat :=
  let b := min (a / 0x1000) 0xC
  regBase + b * 0x10000 + (a - b * 0x1000)

/-! ### Response (Table 12-2) -/

/-- LADDER of STATUS: the state that the wake logic of the backup domain holds: the recorded one wherever the core is
off or on its way to P0 Run after a cold reset (R184, R253), else the present one. (log 127 DEDUCED) -/
def State.sbpLadder (s : State) : Nat :=
  if s.ctl.phase ≠ .run ∧ s.ctl.path ≠ .warm then s.fld PWR_HOLD 0 3 else s.ladder

/-- The bytes of a word, most significant first. -/
def wordOut (w : Word) : List Byte := (leBytes 4 w.toNat).reverse

/-- The response closes with its CRC where the request carries one. -/
def closeResponse (f : List Byte) (b : List Byte) : List Byte := if frameCrc f then b ++ leBytes 1 (sbpCrc b) else b

/-- STATUS of a response with RESULT `result`. -/
def State.sbpStatus (s : State) (result : Nat) : List Byte := leBytes 1 (0x80 + s.sbpLadder * 16 + result)

/-- The response of a frame: STATUS, the words of a READ that is OK, the CRC where the request carries one. -/
def respond (f : List Byte) (result : Nat) (ws : List Word) (s : State) : State :=
  { s with sbp := { s.sbp with resp := closeResponse f (s.sbpStatus result ++ ws.flatMap wordOut), wait := none } }

/-! ### Words -/

/-- Read word `a` of a space other than the core's. (log 129 DEDUCED) -/
def sbpReadWord (sp : SbpSpace) (a : Nat) (s : State) : Word × State :=
  match sp with
  | .backup => readReg 16 (backupAddr a) s
  | .otp => (BitVec.ofNat 32 (s.otpWord (a - 0x10000)), sbpSnapshot s)
  | .own => (if a = 0 then 0x4816B000 else s.sbp.scratch, sbpSnapshot s)
  | _ => (0, s)

/-- Write word `a` of a space other than the core's; PWR_WAKE_EN and the OTP array are read-only (R258).
(log 128 DEDUCED) -/
def sbpWriteWord (sp : SbpSpace) (a : Nat) (w : Word) (s : State) : State :=
  match sp with
  | .backup =>
    let c := backupAddr a
    if c = PWR_WAKE_EN then s else writeReg 16 c 0 w s
  | .own => if a = 4 then { s with sbp := { s.sbp with scratch := w } } else s
  | _ => s

/-- The next `n` words of the READ frame that answers are launched, each captured as it is (R255).
(log 125 DESIGN CHOICE) -/
def launchWords : Nat → State → State
  | 0, s => s
  | n + 1, s =>
    match s.sbp.burst with
    | none => s
    | some (f, k) =>
      let a := frameAddr f
      let x := sbpReadWord (sbpSpace a (frameCount f)) (a + 4 * k) s
      let last := frameCount f ≤ k + 1
      let b := x.2.sbp.resp ++ wordOut x.1
      launchWords n { x.2 with sbp := { x.2.sbp with
        resp := if last then closeResponse f b else b, burst := if last then none else some (f, k + 1) } }

/-- Write words from `a` on, in ascending order (R255). -/
def sbpWriteWords (sp : SbpSpace) : List Word → Nat → State → State
  | [], _, s => s
  | w :: ws, a, s => sbpWriteWords sp ws (a + 4) (sbpWriteWord sp a w s)

/-- The core register at a core-space address (Table 12-3). -/
def coreAddr (a : Nat) : Nat := regBase + a % 0x800000

/-- Core reads: the words, or RESULT at the first word that fails (R256). (log 151 DEDUCED) -/
def coreRead : Nat → Nat → State → (Nat ⊕ List Word) × State
  | 0, _, s => (.inr [], s)
  | n + 1, a, s =>
    if !regMapped (coreAddr a) then (.inl 6, s)
    else
      let y := readReg 16 (coreAddr a) (ungate (coreAddr a) s)
      let x := (y.1, regate (coreAddr a) s y.2)
      match coreRead n (a + 4) x.2 with
      | (.inl e, s) => (.inl e, s)
      | (.inr ws, s) => (.inr (x.1 :: ws), s)

/-! ### Frames judged and carried out (Table 12-4) -/

/-- The first of checks 1 to 5 that a frame fails; 0 if none. -/
def State.frameCheck (s : State) (f : List Byte) : Nat :=
  let n := frameCount f
  let a := frameAddr f
  let write := sbpOp f == 2
  let sp := sbpSpace a n
  if frameCrc f && sbpCrc f.dropLast != (f.getLastD 0).toNat then 1
  else if !(sbpOp f == 1 || write) || (f.getD 0 0).toNat % 8 != 0 || a % 4 != 0 || sbpLimit write a < n then 2
  else if n = 0 then 0
  else if sp = .none then 3
  else if sp = .core && !s.sbpCore then 4
  else if sp = .otp && (5 ≤ s.ladder || !s.ctl.pmicOn || !s.ctl.railsOk || s.ctl.lossFlow) then 4
  else if sp = .core && write && !s.sbpWrites then 5
  else 0

/-- The access of a frame cannot complete yet: the core before R49, or an OTP read while a program operation runs.
(log 126 DEDUCED) -/
def State.frameWaits (s : State) (f : List Byte) : Bool :=
  let sp := sbpSpace (frameAddr f) (frameCount f)
  frameCount f ≠ 0 &&
    ((sp == .core && (!s.configured || !s.sbpCore)) || (sp == .otp && sbpOp f == 1 && s.flag OTP_PROG_STAT 0))

/-- Carry out a frame that has passed checks 1 to 5 (R254 to R256); `n` words of a READ that needs no core are launched
before the next command. (log 125 DESIGN CHOICE) -/
def runFrame (f : List Byte) (n : Nat) (s : State) : State :=
  let count := frameCount f
  let a := frameAddr f
  let words := (List.range count).map (frameWord f)
  if count = 0 then respond f 0 [] s
  else match sbpSpace a count with
    | .core =>
      if sbpOp f = 2 then
        let x := coreWrite words (coreAddr a) s
        respond f x.1 [] x.2
      else match coreRead count a s with
        | (.inl e, s) => respond f e [] s
        | (.inr ws, s) => respond f 0 ws s
    | sp =>
      if sbpOp f = 2 then sbpWriteWords sp words a (respond f 0 [] s)
      else launchWords n { s with sbp := { s.sbp with resp := s.sbpStatus 0, wait := none, burst := some (f, 0) } }

/-- A frame arrives in an open transaction; what is clocked in while a READ still answers belongs to no frame.
(log 125 DESIGN CHOICE) -/
def sbpFrame (f : List Byte) (n : Nat) (s : State) : State :=
  if !s.sbp.open_ || s.sbp.wait.isSome then s
  else if s.sbp.burst.isSome then launchWords n s
  else
    let s := { s with sbp := { s.sbp with reqLen := f.length } }
    let e := s.frameCheck f
    if e ≠ 0 then respond f e [] s
    else if s.frameWaits f then { s with sbp := { s.sbp with wait := some f, resp := [] } }
    else runFrame f n s

/-- A waiting frame is carried out once its access can complete. (log 126 DEDUCED) -/
def sbpResume (s : State) : State :=
  match s.sbp.wait with
  | some f => if s.frameWaits f then s else runFrame f (frameCount f) s
  | none => s

/-! ### SBP_SDO (R250) -/

/-- The bytes that the device sends for the newest frame, after `waits` WAIT bytes: 0x00 while the request comes in,
then the response; 0x00 of the next request after it (R251, Table 12-2). (log 125 DESIGN CHOICE) -/
def State.sbpOut (s : State) (waits : Nat) : List Byte :=
  List.replicate s.sbp.reqLen 0 ++ List.replicate waits 0 ++ s.sbp.resp

/-- SBP_SDO once `falls` falling edges of SBP_SCLK have come since the newest frame began: none where it is
high-impedance. Mode 0 drives the first bit before the first falling edge, at that of SBP_CS_N; mode 3 drives it at the
first one, and the pin stays as it was until then. (log 125 DESIGN CHOICE) -/
def State.sdo (s : State) (waits falls : Nat) : Option Bool :=
  let out := fun (k : Nat) => some (((s.sbpOut waits).getD (k / 8) 0).getLsbD (7 - k % 8))
  if !s.sbp.open_ then none
  else if s.sbp.mode3 then (if falls = 0 then none else out (falls - 1)) else out falls

/-! ### Commands -/

/-- SBP_CS_FALL (R250): a transaction opens in mode 0 or, with SBP_SCLK high, in mode 3. -/
def execSbpCsFall (sclk : Bool) (s : State) : Host.Outcome State Fault Refusal :=
  if s.sbp.open_ || s.rtc.por then finish s
  else finish { s with sbp := { s.sbp with open_ := true, mode3 := sclk, resp := [], reqLen := 0 } }

/-- The writes of a core frame that is outstanding when the transaction ends: the core completes them (R264).
(log 126 DEDUCED) -/
def leftWrites (f : List Byte) : List Held :=
  if sbpOp f = 2 ∧ sbpSpace (frameAddr f) (frameCount f) = .core then
    [.burst (BitVec.ofNat 32 (coreAddr (frameAddr f))) ((List.range (frameCount f)).map (frameWord f))]
  else []

/-- SBP_CS_RISE (R259, R264, R266): the transaction ends and its context is cleared. -/
def execSbpCsRise (s : State) : Host.Outcome State Fault Refusal :=
  let left := (s.sbp.wait.map leftWrites).getD []
  finish { s with
    sbp := { SbpSt.reset with scratch := s.sbp.scratch }, ctxs := tdel s.ctxs 16,
    txn := { s.txn with held := s.txn.held ++ left } }

/-- SBP_READ (R252, R255, R261): a frame, `words` of whose words are launched before the next command; while an earlier
READ still answers, its next `words` words. (log 125 DESIGN CHOICE) -/
def execSbpRead (frame : List Byte) (words : Nat) (s : State) : Host.Outcome State Fault Refusal :=
  finish (sbpFrame frame words s)

/-- SBP_WRITE (R252). -/
def execSbpWrite (frame : List Byte) (s : State) : Host.Outcome State Fault Refusal := finish (sbpFrame frame 0 s)

/-- SBP_WAIT_TIMEOUT (R252, R260): the waiting frame ends with TIMEOUT and changes nothing. (log 126 DEDUCED) -/
def execSbpWaitTimeout (s : State) : Host.Outcome State Fault Refusal :=
  match s.sbp.wait with
  | some f => finish (respond f 7 [] s)
  | none => finish s

/-- HELD_REQUEST_RELEASE (R35, R55, R180): requests, register accesses and a waiting sideband frame are served once what
held them has ended. (log 32 DEDUCED) -/
def execHeldRequestRelease (s : State) : Host.Outcome State Fault Refusal :=
  finish (sbpResume (releaseHeld s.txn.held.length 0 s))

end Sys2Proof.Machine
end

