-- ==== Sys2Proof/Machine/Dispatch.lean ====
section
/-! DEFINITION. What each command does: one arm per command, in the order of the table of operations and events. -/

namespace Sys2Proof.Machine

def exec (i : Instr) (s : State) : Host.Outcome State Fault Refusal :=
  match i with
  | .registerWrite t addr w same => Sys2Proof.Machine.execRegisterWrite t addr w same s
  | .boundQuery t bit w => Sys2Proof.Machine.execBoundQuery t bit w s
  | .porNAssert ns banks => Sys2Proof.Machine.execPorNAssert ns banks s
  | .porNRelease banks => Sys2Proof.Machine.execPorNRelease banks s
  | .rstNAssert ns soft monitor => Sys2Proof.Machine.execRstNAssert ns soft monitor s
  | .warm t => Sys2Proof.Machine.execWarm t s
  | .warmResetRelease => Sys2Proof.Machine.execWarmResetRelease s
  | .deferredWarmReset => Sys2Proof.Machine.execDeferredWarmReset s
  | .domainReset t d => Sys2Proof.Machine.execDomainReset t d s
  | .domainResetEnd d => Sys2Proof.Machine.execDomainResetEnd d s
  | .backupPor => Sys2Proof.Machine.execBackupPor s
  | .clockCheckWindow edges => Sys2Proof.Machine.execClockCheckWindow edges s
  | .coreRailsInRange => Sys2Proof.Machine.execCoreRailsInRange s
  | .railWakeTimeout out => Sys2Proof.Machine.execRailWakeTimeout out s
  | .doorBudgetOver => Sys2Proof.Machine.execDoorBudgetOver s
  | .heldRequestRelease => Sys2Proof.Machine.execHeldRequestRelease s
  | .otpLoadDone weak selOk => Sys2Proof.Machine.execOtpLoadDone weak selOk s
  | .structureVerifyDone sel0 sel1 => Sys2Proof.Machine.execStructureVerifyDone sel0 sel1 s
  | .otpProgram t w vppOk => Sys2Proof.Machine.execOtpProgram t w vppOk s
  | .otpProgramDone failed => Sys2Proof.Machine.execOtpProgramDone failed s
  | .updOpen t w => Sys2Proof.Machine.execUpdOpen t w s
  | .updateEraseDone ok => Sys2Proof.Machine.execUpdateEraseDone ok s
  | .apertureWrite t addr data ok => Sys2Proof.Machine.execApertureWrite t addr data ok s
  | .updVerify t w => Sys2Proof.Machine.execUpdVerify t w s
  | .verifyDone => Sys2Proof.Machine.execVerifyDone s
  | .updActivate t w => Sys2Proof.Machine.execUpdActivate t w s
  | .updConfirm t w => Sys2Proof.Machine.execUpdConfirm t w s
  | .updRollback t w => Sys2Proof.Machine.execUpdRollback t w s
  | .selectorWriteDone ok0 ok1 => Sys2Proof.Machine.execSelectorWriteDone ok0 ok1 s
  | .readRequest p q => Sys2Proof.Machine.execReadRequest p q s
  | .writeRequest p q => Sys2Proof.Machine.execWriteRequest p q s
  | .atomicRequest p q => Sys2Proof.Machine.execAtomicRequest p q s
  | .eccCountClear t w => Sys2Proof.Machine.execEccCountClear t w s
  | .staleFlagClear t lost k w => Sys2Proof.Machine.execStaleFlagClear t lost k w s
  | .backgroundZero n => Sys2Proof.Machine.execBackgroundZero n s
  | .nvReadRelease => Sys2Proof.Machine.execNvReadRelease s
  | .supplyTrip vin vhold => Sys2Proof.Machine.execSupplyTrip vin vhold s
  | .storeRegionDone time vhold => Sys2Proof.Machine.execStoreRegionDone time vhold s
  | .energyEstimate time vhold => Sys2Proof.Machine.execEnergyEstimate time vhold s
  | .horizonCommit ok => Sys2Proof.Machine.execHorizonCommit ok s
  | .manualStore t vhold => Sys2Proof.Machine.execManualStore t vhold s
  | .supplyReturn vin => Sys2Proof.Machine.execSupplyReturn vin s
  | .heldWriteApply => Sys2Proof.Machine.execHeldWriteApply s
  | .classARestoreDone bad => Sys2Proof.Machine.execClassARestoreDone bad s
  | .backgroundRestore n bad => Sys2Proof.Machine.execBackgroundRestore n bad s
  | .preeraseStart => Sys2Proof.Machine.execPreeraseStart s
  | .preeraseDone ok => Sys2Proof.Machine.execPreeraseDone ok s
  | .preeraseResume => Sys2Proof.Machine.execPreeraseResume s
  | .scrub block weak => Sys2Proof.Machine.execScrub block weak s
  | .wearMigration => Sys2Proof.Machine.execWearMigration s
  | .blockCopyDone => Sys2Proof.Machine.execBlockCopyDone s
  | .vote t w vhold more => Sys2Proof.Machine.execVote t w vhold more s
  | .descentRelease vhold => Sys2Proof.Machine.execDescentRelease vhold s
  | .refusalRecheck vhold => Sys2Proof.Machine.execRefusalRecheck vhold s
  | .autoP1Expiry => Sys2Proof.Machine.execAutoP1Expiry s
  | .autoP2Expiry => Sys2Proof.Machine.execAutoP2Expiry s
  | .portsDrained vhold => Sys2Proof.Machine.execPortsDrained vhold s
  | .ladderEntryDone => Sys2Proof.Machine.execLadderEntryDone s
  | .ladderExitDone => Sys2Proof.Machine.execLadderExitDone s
  | .selfTestDone ok => Sys2Proof.Machine.execSelfTestDone ok s
  | .sbpWake t w => Sys2Proof.Machine.execSbpWake t w s
  | .seqUp t w => Sys2Proof.Machine.execSeqUp t w s
  | .seqDown t w => Sys2Proof.Machine.execSeqDown t w s
  | .railInRange slot code pg held time => Sys2Proof.Machine.execRailInRange slot code pg held time s
  | .stepDelayExpiry time => Sys2Proof.Machine.execStepDelayExpiry time s
  | .riseWindowExpiry code time => Sys2Proof.Machine.execRiseWindowExpiry code time s
  | .railDischarged code pg time total => Sys2Proof.Machine.execRailDischarged code pg time total s
  | .disTimeout code time total => Sys2Proof.Machine.execDisTimeout code time total s
  | .offMinExpiry => Sys2Proof.Machine.execOffMinExpiry s
  | .railWindowFault slots => Sys2Proof.Machine.execRailWindowFault slots s
  | .railRequalify e => Sys2Proof.Machine.execRailRequalify e s
  | .coreRailFault out => Sys2Proof.Machine.execCoreRailFault out s
  | .adcConversionDone ch code => Sys2Proof.Machine.execAdcConversionDone ch code s
  | .scanRoundStart => Sys2Proof.Machine.execScanRoundStart s
  | .adcChannelConfig t n w => Sys2Proof.Machine.execAdcChannelConfig t n w s
  | .logRecordCheck ok => Sys2Proof.Machine.execLogRecordCheck ok s
  | .logReadout t w => Sys2Proof.Machine.execLogReadout t w s
  | .vbkSwitchover => Sys2Proof.Machine.execVbkSwitchover s
  | .vddAdcSwitchback => Sys2Proof.Machine.execVddAdcSwitchback s
  | .vbkLow => Sys2Proof.Machine.execVbkLow s
  | .swfirstClear t w => Sys2Proof.Machine.execSwfirstClear t w s
  | .timeWrite t w => Sys2Proof.Machine.execTimeWrite t w s
  | .timeWriteApply => Sys2Proof.Machine.execTimeWriteApply s
  | .trimWindowStart => Sys2Proof.Machine.execTrimWindowStart s
  | .backupTempSample temp => Sys2Proof.Machine.execBackupTempSample temp s
  | .oscStopDetect => Sys2Proof.Machine.execOscStopDetect s
  | .shift t w together => Sys2Proof.Machine.execShift t w together s
  | .shiftApply => Sys2Proof.Machine.execShiftApply s
  | .timeSnapshot t => Sys2Proof.Machine.execTimeSnapshot t s
  | .rtcWrap => Sys2Proof.Machine.execRtcWrap s
  | .eventCapture n level samples => Sys2Proof.Machine.execEventCapture n level samples s
  | .ovfClear t w => Sys2Proof.Machine.execOvfClear t w s
  | .eventReadout t w => Sys2Proof.Machine.execEventReadout t w s
  | .eventConsume t => Sys2Proof.Machine.execEventConsume t s
  | .countdownLoad t w => Sys2Proof.Machine.execCountdownLoad t w s
  | .countdownExpiry => Sys2Proof.Machine.execCountdownExpiry s
  | .sbpCsFall sclk => Sys2Proof.Machine.execSbpCsFall sclk s
  | .sbpCsRise => Sys2Proof.Machine.execSbpCsRise s
  | .sbpRead frame words => Sys2Proof.Machine.execSbpRead frame words s
  | .sbpWrite frame => Sys2Proof.Machine.execSbpWrite frame s
  | .sbpWaitTimeout => Sys2Proof.Machine.execSbpWaitTimeout s
  | .cdrLock p => Sys2Proof.Machine.execCdrLock p s
  | .alignCandidate p hits skewOk => Sys2Proof.Machine.execAlignCandidate p hits skewOk s
  | .alignVerifyFail p => Sys2Proof.Machine.execAlignVerifyFail p s
  | .lockAcquired p training periods => Sys2Proof.Machine.execLockAcquired p training periods s
  | .trainingRecord p bytes corrected => Sys2Proof.Machine.execTrainingRecord p bytes corrected s
  | .lockLoss p hits => Sys2Proof.Machine.execLockLoss p hits s
  | .attemptTimeout p cdrLane skew => Sys2Proof.Machine.execAttemptTimeout p cdrLane skew s
  | .trainingRetry p => Sys2Proof.Machine.execTrainingRetry p s
  | .retrain t p w => Sys2Proof.Machine.execRetrain t p w s
  | .peerTraining p => Sys2Proof.Machine.execPeerTraining p s
  | .peerIdle p => Sys2Proof.Machine.execPeerIdle p s
  | .laneActivityWake p => Sys2Proof.Machine.execLaneActivityWake p s
  | .phyCounterClear t p w => Sys2Proof.Machine.execPhyCounterClear t p w s
  | .flitReceived p f corrected => Sys2Proof.Machine.execFlitReceived p f corrected s
  | .nullFlitReceived p f corrected fill => Sys2Proof.Machine.execNullFlitReceived p f corrected fill s
  | .badFlitReceived p decoded corrected => Sys2Proof.Machine.execBadFlitReceived p decoded corrected s
  | .flitSend p => Sys2Proof.Machine.execFlitSend p s
  | .ackTimerExpiry p => Sys2Proof.Machine.execAckTimerExpiry p s
  | .replayTimerExpiry p => Sys2Proof.Machine.execReplayTimerExpiry p s
  | .creditTimeout p => Sys2Proof.Machine.execCreditTimeout p s
  | .idlePoint p => Sys2Proof.Machine.execIdlePoint p s
  | .scheduleRetrain t p w => Sys2Proof.Machine.execScheduleRetrain t p w s
  | .linkCounterClear t p w => Sys2Proof.Machine.execLinkCounterClear t p w s
  | .eoi t x w => Sys2Proof.Machine.execEoi t x w s
  | .intRoute t k w => Sys2Proof.Machine.execIntRoute t k w s
  | .intEnable t x w => Sys2Proof.Machine.execIntEnable t x w s
  | .txnCounterClear t w => Sys2Proof.Machine.execTxnCounterClear t w s
  | .frameStart n pd => Sys2Proof.Machine.execFrameStart n pd s
  | .lineEnd n missing => Sys2Proof.Machine.execLineEnd n missing s
  | .channelActivate t n w => Sys2Proof.Machine.execChannelActivate t n w s
  | .channelDeactivate t n w => Sys2Proof.Machine.execChannelDeactivate t n w s
  | .channelLoadDone n => Sys2Proof.Machine.execChannelLoadDone n s
  | .commit t n w => Sys2Proof.Machine.execCommit t n w s
  | .paletteEntryWrite t n w => Sys2Proof.Machine.execPaletteEntryWrite t n w s
  | .channelCounterClear t n w => Sys2Proof.Machine.execChannelCounterClear t n w s
  | .hpdRise n => Sys2Proof.Machine.execHpdRise n s
  | .hpdIrq n => Sys2Proof.Machine.execHpdIrq n s
  | .hpdLoss n => Sys2Proof.Machine.execHpdLoss n s
  | .auxTransactionDone n r => Sys2Proof.Machine.execAuxTransactionDone n r s
  | .auxTimeout n => Sys2Proof.Machine.execAuxTimeout n s
  | .panelTrainingRetry n => Sys2Proof.Machine.execPanelTrainingRetry n s
  | .outputRetrain t n w => Sys2Proof.Machine.execOutputRetrain t n w s
  | .auxCommand t n w => Sys2Proof.Machine.execAuxCommand t n w s
  | .sinkCrcRead n => Sys2Proof.Machine.execSinkCrcRead n s
  | .outputCounterClear t n w => Sys2Proof.Machine.execOutputCounterClear t n w s
  | .lWindowEnd j samples => Sys2Proof.Machine.execLWindowEnd j samples s
  | .bulbCheckEnd n => Sys2Proof.Machine.execBulbCheckEnd n s
  | .proofDeadline j => Sys2Proof.Machine.execProofDeadline j s
  | .t1AliveKick t w => Sys2Proof.Machine.execT1AliveKick t w s
  | .t1AliveTimeout => Sys2Proof.Machine.execT1AliveTimeout s
  | .t1Request t k w => Sys2Proof.Machine.execT1Request t k w s
  | .presencePeriod => Sys2Proof.Machine.execPresencePeriod s
  | .ledFaultFlag n short => Sys2Proof.Machine.execLedFaultFlag n short s
  | .ledRetry n => Sys2Proof.Machine.execLedRetry n s
  | .canFrameReceived c f time expired report => Sys2Proof.Machine.execCanFrameReceived c f time expired report s
  | .canTxRequest t c n w => Sys2Proof.Machine.execCanTxRequest t c n w s
  | .canTxAbort t c n w onBus => Sys2Proof.Machine.execCanTxAbort t c n w onBus s
  | .canTxDone c time delay => Sys2Proof.Machine.execCanTxDone c time delay s
  | .canTxError c e delay => Sys2Proof.Machine.execCanTxError c e delay s
  | .busOffRecovery c => Sys2Proof.Machine.execBusOffRecovery c s
  | .sourceTimeout r => Sys2Proof.Machine.execSourceTimeout r s
  | .canSync c => Sys2Proof.Machine.execCanSync c s
  | .canActivityWake c => Sys2Proof.Machine.execCanActivityWake c s
  | .canCounterClear t c w => Sys2Proof.Machine.execCanCounterClear t c w s
  | .alsWindowEnd p samples => Sys2Proof.Machine.execAlsWindowEnd p samples s
  | .pwmCycleStart n => Sys2Proof.Machine.execPwmCycleStart n s
  | .bklDelayExpiry n => Sys2Proof.Machine.execBklDelayExpiry n s
  | .bklSettleExpiry n => Sys2Proof.Machine.execBklSettleExpiry n s
  | .flkHello p bytes => Sys2Proof.Machine.execFlkHello p bytes s
  | .flkState p bytes tt => Sys2Proof.Machine.execFlkState p bytes tt s
  | .flkTt p bytes => Sys2Proof.Machine.execFlkTt p bytes s
  | .flkTime p bytes => Sys2Proof.Machine.execFlkTime p bytes s
  | .flkRoleReq p bytes => Sys2Proof.Machine.execFlkRoleReq p bytes s
  | .flkRoleAck p bytes => Sys2Proof.Machine.execFlkRoleAck p bytes s
  | .helloTimer => Sys2Proof.Machine.execHelloTimer s
  | .stateTimer => Sys2Proof.Machine.execStateTimer s
  | .timeTimer => Sys2Proof.Machine.execTimeTimer s
  | .swap t w => Sys2Proof.Machine.execSwap t w s
  | .roleTimeout => Sys2Proof.Machine.execRoleTimeout s
  | .memberLoss r => Sys2Proof.Machine.execMemberLoss r s
  | .safeRelease t w => Sys2Proof.Machine.execSafeRelease t w s
  | .watchdogKick t w ms => Sys2Proof.Machine.execWatchdogKick t w ms s
  | .watchdogLate => Sys2Proof.Machine.execWatchdogLate s
  | .heartbeatLoss => Sys2Proof.Machine.execHeartbeatLoss s
  | .smoCheckWindow count => Sys2Proof.Machine.execSmoCheckWindow count s
  | .clockRecheck d out => Sys2Proof.Machine.execClockRecheck d out s
  | .starvation k us => Sys2Proof.Machine.execStarvation k us s
  | .faultQuery t w => Sys2Proof.Machine.execFaultQuery t w s
  | .arbCounterClear t w => Sys2Proof.Machine.execArbCounterClear t w s
  | .backupPorRelease => Sys2Proof.Machine.execBackupPorRelease s
  | .bk32Resume => Sys2Proof.Machine.execBk32Resume s
  | .vbkReturn => Sys2Proof.Machine.execVbkReturn s
  | .coreRailRequalify m => Sys2Proof.Machine.execCoreRailRequalify m s
  | .tapReset => Sys2Proof.Machine.execTapReset s
  | .trainingReadInterval n => Sys2Proof.Machine.execTrainingReadInterval n s
  | .auxDeferRetry n => Sys2Proof.Machine.execAuxDeferRetry n s
  | .presenceHoldoffExpiry => Sys2Proof.Machine.execPresenceHoldoffExpiry s
  | .canRxError c e heavy => Sys2Proof.Machine.execCanRxError c e heavy s
  | .arbBwWindow k => Sys2Proof.Machine.execArbBwWindow k s

end Sys2Proof.Machine
end

