-- ==== Sys2Proof/Safety.lean ====
section
/-! DEFINITION. What a good state and a good run are, in the words that the statements use: the canonical form of every
sparse table, the memories among them; summaries that have been evaluated; and runs that never stop. -/

namespace Sys2Proof.Machine

/-- The canonical form of a memory or of any table whose unlisted keys read `d`. -/
abbrev Memory.wf {α : Type} [DecidableEq α] (d : Nat → α) (t : Tab α) : Prop := Canon d t

/-- The register file is canonical: nothing is listed that reads its reset value. -/
def State.regsWf (s : State) : Prop := Memory.wf regReset s.regs

/-- Working memory is canonical. -/
def State.memWf (s : State) : Prop := Memory.wf (fun _ => 0) s.mem.wm

/-- The NV array is canonical. -/
def State.nvWf (s : State) : Prop := Memory.wf (fun _ => 0) s.nv.cells

/-- Every RAIL record in force names a slot and, for a sense at an ADC, a channel that there is (Table 3-8). -/
abbrev State.railsWf (s : State) : Prop := ∀ r ∈ s.rails, r.slot < 16 ∧ (r.senseKind = 0 → r.sense < 32)

/-- The TELLTALE records in force are those of an image that has been checked (Table 3-7, Table 3-17): no index twice,
indices, photodiodes and LED sinks in their ranges, and no photodiode shared. -/
abbrev State.ttsWf (s : State) : Prop :=
  (((s.cfg.map (·.telltales)).getD []).map (·.index)).Nodup ∧ ∀ r ∈ (s.cfg.map (·.telltales)).getD [],
    r.index < 64 ∧ (r.pd < 8 ∨ r.pd = 0xFF) ∧ (r.led < 32 ∨ r.led = 0xFF) ∧
    ∀ q ∈ (s.cfg.map (·.telltales)).getD [], q.pd = r.pd → r.pd = 0xFF ∨ q = r

/-- While the core is powered, the interrupt summaries at hand are those of the state: none has changed without an
evaluation (R239, R325, R326, R334). -/
def State.settled (s : State) : Prop := s.signals = true → s.txn.lastS = s.summaries

/-- The command completes: the block answers a next state. -/
def Completes (c : Instr) (s : State) : Prop := ∃ t, exec c s = .next t

/-- The command completes, in a state of which `P` holds. -/
def Yields (c : Instr) (s : State) (P : State → Prop) : Prop := ∃ t, exec c s = .next t ∧ P t

/-- An access of requester `t` that writes register `a` is carried out now: the block serves it (R55, R180, R257) and
the requester may write the register (R105, R256). -/
def State.takes (s : State) (t : Requester) (a : Nat) : Prop :=
  s.holdsFor t = false ∧ s.servesFor t = true ∧ (t = 16 → s.sbpWrites = true) ∧ s.mayWrite (whoOf t) a = true

/-- An access of requester `t` that writes register `a` of the backup domain is carried out now: the sideband port
reaches the domain whatever the core does (R240, R255). -/
def State.takesBackup (s : State) (t : Requester) (a : Nat) : Prop := if t = 16 then s.rtc.por = false else s.takes t a

/-- A read of register `a` by requester `t` is carried out now (R55, R105, R180). -/
def State.reads (s : State) (t : Requester) (a : Nat) : Prop :=
  s.holdsFor t = false ∧ s.servesFor t = true ∧ s.mayRead (whoOf t) a = true

/-- No update operation runs, no download is open and no record of a start is being written: a reset tears nothing
(R95). -/
def State.updQuiet (s : State) : Prop := s.upd.op = .none ∧ s.downloading = false ∧ s.upd.starting = none

/-- The device is in P0 and neither enters nor leaves a state: a wake source has nothing to wake. -/
def State.awake (s : State) : Prop := s.ladder = 0 ∧ s.pwr.entry = none ∧ s.pwr.exiting = none

/-- Every register outside `l` reads in `t` as it did in `s`. -/
def State.sameRegs (s t : State) (l : List Nat) : Prop := ∀ a, a ∉ l → t.reg a = s.reg a

/-- The registers that a fault report may change (R466 to R470), the log's status among them (R209). -/
def faultRegs : List Nat :=
  [FLT_COUNT, FLT_SEEN 0, FLT_SEEN 1, FLT_SEEN 2, FLT_SEEN 3, FLT_LAST, FLT_ISTAT, FLT_SAFE, LOG_STAT]

/-- Fault source `n`, of class `c`, has been reported once from `s` to `t`: counted, seen, the newest one (R466). -/
def State.reports (s t : State) (n : Nat) : Prop :=
  t.flag (FLT_SEEN (n / 32)) (n % 32) = true ∧ t.fld FLT_LAST 0 7 = n ∧ t.fld FLT_LAST 8 3 = s.faultClass n ∧
    tget 0 t.flt.counts n = min (tget 0 s.flt.counts n + 1) 0xFFFF

/-- The registers that a sample of rail `r` writes: those of its slot and, for a sense at an ADC, the result of its
channel and the sense code of every rail on that channel (R201, R423). -/
def State.sampleRegs (s : State) (r : RailRec) : List Nat :=
  SEQ_SENSE r.slot :: if r.senseKind = 0 then
    ADC_RES r.sense :: (s.rails.filter fun q => q.senseKind = 0 && q.sense = r.sense).map fun q => SEQ_SENSE q.slot else []

/-- From `s` to `t` nothing changes but registers, the status of the newest access, ungated clocks (R10) and what the
evaluation of the interrupt summaries changes (R326): no memory, no buffer, no other mode or counter. -/
def State.onlyRegs (s t : State) : Prop :=
  ∃ regs status gated lastS armed msgWait,
    t = { s with regs := regs, lastStatus := status, ctl := { s.ctl with gated := gated },
                 txn := { s.txn with lastS := lastS, armed := armed, msgWait := msgWait } }

/-- A request of `type` on port `p` is judged now: the device runs in P0 with open ports, the request has its shape, and
no older one of its port waits (R35, R180, R318, R321). -/
def State.judges (s : State) (p : HostPort) (type : BitVec 4) (q : ReqPacket) : Prop :=
  s.ctl.phase = .run ∧ s.away = false ∧ requestShape type q = true ∧ (Held.packet p type q).behind s.txn.held = false

/-- A request of `type` on port `p` passes every check now and is executed: its link is UP and no read of the NV window
waits on its port (R314, R318, R320). -/
def State.accepts (s : State) (p : HostPort) (type : BitVec 4) (q : ReqPacket) : Prop :=
  s.judges p type q ∧ s.judge p type q = none ∧ s.behindRead p = false ∧ s.lnkState p = lnUp

/-- The ack and credit field of a flit that acknowledges, asks for and gives back nothing. -/
def quietAck (f : AckField) : Prop :=
  f.ackV = false ∧ f.nakV = false ∧ f.snap = false ∧ f.credReq = 0 ∧ f.credRsp = 0

/-- Working memory stands still: no line waits for a fill, no word holds an error, no store or restore runs, and no
write waits for one. -/
def State.memQuiet (s : State) : Prop :=
  s.mem.fill = [] ∧ s.mem.poison = [] ∧ s.mem.weak = [] ∧ s.stoState = 0 ∧ s.sto.heldWrites = []

/-- A flock message that arrives on FRD port `p` is accepted: its link is UP, the flock runs, the message fits its
layout and revision, and it is a newer one of another device (R438, R440, R442). -/
def State.hears (s : State) (p : Fin 2) (b : List Byte) : Prop :=
  s.lnkState (2 + p) = lnUp ∧ s.fkState ≠ fkOff ∧ msgFits b = true ∧
    (msgField b 0 1 = 1 ∨ msgField b 2 1 = s.fld FLK_STAT 8 4) ∧ msgDevid b ≠ s.otp.force.devid ∧
    s.flkNewer (msgDevid b) (msgField b 4 4) = true

/-- The bytes of the next flock message of type `k` (Table 21-2). -/
def State.message (s : State) (k : Nat) (body : List Byte) : List Byte :=
  leBytes 1 k ++ leBytes 1 0 ++ leBytes 1 (if k = 1 then 1 else s.fld FLK_STAT 8 4) ++ leBytes 1 s.rank ++
    leBytes 4 ((s.flk.mseq + 1) % 2 ^ 32) ++ leBytes 8 s.otp.force.devid ++ body

/-- From `s` to `t` one flock message has been queued on each Fyrd port whose link is UP, and on no other (R439). -/
def State.sends (s t : State) (k : Nat) (body : List Byte) : Prop :=
  t.flk.mseq = (s.flk.mseq + 1) % 2 ^ 32 ∧ ∀ p ∈ [2, 3], (t.lnkOf p).qReq =
    (s.lnkOf p).qReq ++ if s.lnkState p = lnUp then [flkPacket (s.message k body)] else []

/-- Nothing asks the device to leave P0, whatever its flock reports: it is in P0 and its own target is P0 (R175). -/
def State.staysAwake (s : State) : Prop := s.awake ∧ s.pwr.refused = none ∧ s.ownTarget = 0

end Sys2Proof.Machine
end

