-- ==== Sys2Proof/Certificates/Slice0/Obligations.lean ====
section
/-! DEFINITION. The statements about the model. Each is a conjunction with one part per command and case; a part about a
command says that the command completes (`Yields`), what the next state holds, and what it leaves as it was. -/

open Sys2Proof Sys2Proof.Machine

/-- A clear zeroes its counts and nothing else. Drawn from Table 0-2 (SC, W1C) with R118, R322, R280, R309, R355.
Clauses about points that the spec leaves open or that are read by inference follow the model: log entry 9. -/
def Obligations.CountersClear : Prop :=
  (∀ (s : State) (t : Requester) (w : Word), s.takes t MEM_ECC_CTRL → w.getLsbD 0 = true →
    Yields (.eccCountClear t w) s fun u => u.reg MEM_ECC_CNT = 0 ∧ s.sameRegs u [MEM_ECC_CNT] ∧ s.onlyRegs u) ∧
  (∀ (s : State) (t : Requester) (w : Word), s.takes t TXN_CLR → w.getLsbD 0 = true →
    Yields (.txnCounterClear t w) s fun u => u.reg TXN_CNT = 0 ∧ u.reg TXN_RESENT = 0 ∧
      s.sameRegs u [TXN_CNT, TXN_RESENT] ∧ s.onlyRegs u) ∧
  (∀ (s : State) (t : Requester) (p : Port) (w : Word), s.takes t (PHY_CLR p) → w.getLsbD 0 = true →
    Yields (.phyCounterClear t p w) s fun u => u.reg (PHY_CORR p) = 0 ∧ u.reg (PHY_UNCORR p) = 0 ∧
      u.reg (PHY_LOCK p) = 0 ∧ u.reg (PHY_TRAIN p) = 0 ∧
      s.sameRegs u [PHY_CORR p, PHY_UNCORR p, PHY_LOCK p, PHY_TRAIN p] ∧ s.onlyRegs u) ∧
  (∀ (s : State) (t : Requester) (p : Port) (w : Word), s.takes t (LNK_CTRL p) → w.getLsbD 0 = false →
      w.getLsbD 1 = true →
    Yields (.linkCounterClear t p w) s fun u => u.fld (LNK_REPLAY p) 16 16 = 0 ∧
      u.fld (LNK_REPLAY p) 0 16 = s.fld (LNK_REPLAY p) 0 16 ∧ u.reg (LNK_NAK p) = 0 ∧
      u.reg (LNK_RETX p) = 0 ∧ u.reg (LNK_SNAP p) = 0 ∧ u.reg (LNK_DOWNS p) = 0 ∧
      s.sameRegs u [LNK_REPLAY p, LNK_NAK p, LNK_RETX p, LNK_SNAP p, LNK_DOWNS p] ∧ s.onlyRegs u) ∧
  (∀ (s : State) (t : Requester) (n : Fin 4) (w : Word), s.takes t (CH_CLR n) → w.getLsbD 0 = true →
    Yields (.channelCounterClear t n w) s fun u => u.reg (CH_UNDERRUN n) = 0 ∧ s.sameRegs u [CH_UNDERRUN n] ∧
      s.onlyRegs u) ∧
  (∀ (s : State) (t : Requester) (n : Fin 4) (w : Word), s.takes t (OUT_CLR n) → w.getLsbD 0 = true →
    Yields (.outputCounterClear t n w) s fun u => u.reg (OUT_TRAIN n) = 0 ∧ u.reg (OUT_SCRC_CNT n) = 0 ∧
      u.reg (OUT_HPD_CNT n) = 0 ∧ s.sameRegs u [OUT_TRAIN n, OUT_SCRC_CNT n, OUT_HPD_CNT n] ∧ s.onlyRegs u) ∧
  (∀ (s : State) (t : Requester) (c : Fin 2) (w : Word), s.takes t (CAN_CTRL c) → w.getLsbD 0 = true →
    Yields (.canCounterClear t c w) s fun u => u.reg (CAN_CNT c) = 0 ∧ u.reg (CAN_ECNT c) = 0 ∧ u.reg (CAN_MAP c) = 0 ∧
      s.sameRegs u [CAN_CNT c, CAN_ECNT c, CAN_MAP c] ∧ s.onlyRegs u) ∧
  (∀ (s : State) (t : Requester) (w : Word), s.takes t ARB_CLR → w.getLsbD 0 = true →
    Yields (.arbCounterClear t w) s fun u => (∀ i, i < 7 → u.fld (ARB_BW i) 16 16 = 0 ∧
      u.fld (ARB_BW i) 0 16 = s.fld (ARB_BW i) 0 16) ∧ s.sameRegs u ((List.range 7).map ARB_BW) ∧ s.onlyRegs u)

/-- The time is written, shifted and wraps. Drawn from R228, R232, R243, R246, R241. Clauses about points that the
spec leaves open or that are read by inference follow the model: log entries 9, 116, 118, 120. -/
def Obligations.TimeWrites : Prop :=
  (∀ (s : State) (t : Requester) (w : Word), s.takesBackup t RTC_SET_HI → w.getLsbD 31 = true →
      s.flag RTC_STAT 7 = false → s.flag RTC_CFG 0 = false →
      let lo := if t = 16 then (s.sbp.stagedLo.getD (s.reg RTC_SET_LO)).toNat else (s.reg RTC_SET_LO).toNat
      let n := lo + bits w.toNat 16 1 * 2 ^ 32
      Yields (.timeWrite t w) s fun u =>
        (n < 6311433600 → u.rtc = { s.rtc with pendTime := some (s.rtc.raw, n, bits w.toNat 0 15), flkTimed := false } ∧
          u.flag RTC_STAT 7 = true ∧ u.flag RTC_STAT 4 = s.flag RTC_STAT 4) ∧
        (6311433600 ≤ n → u.rtc = s.rtc ∧ u.flag RTC_STAT 7 = false ∧ u.flag RTC_STAT 4 = true) ∧
        s.sameRegs u [RTC_SET_HI, RTC_STAT] ∧ s.onlyRegs { u with rtc := s.rtc }) ∧
  (∀ (s : State) (t : Requester) (w : Word) (y m d h mi sec : Nat), s.takesBackup t RTC_SET_HI → w.getLsbD 31 = true →
      s.flag RTC_STAT 7 = false → s.flag RTC_CFG 0 = true → y < 200 → 1 ≤ m → m ≤ 12 → 1 ≤ d → d ≤ monthDays y m →
      h < 24 → mi < 60 → sec < 60 →
      bits (if t = 16 then s.sbp.stagedLo.getD (s.reg RTC_SET_LO) else s.reg RTC_SET_LO).toNat 0 24 =
        bcd sec + bcd mi * 2 ^ 8 + bcd h * 2 ^ 16 →
      bits w.toNat 0 25 = bcd d + bcd m * 2 ^ 8 + bcd (y % 100) * 2 ^ 16 + y / 100 * 2 ^ 24 →
      Yields (.timeWrite t w) s fun u =>
        u.rtc = { s.rtc with flkTimed := false, pendTime := some (s.rtc.raw,
          (yearStart y + monthStart y m + (d - 1)) * 86400 + h * 3600 + mi * 60 + sec, 0) } ∧
        u.flag RTC_STAT 7 = true ∧ u.flag RTC_STAT 4 = s.flag RTC_STAT 4 ∧ s.sameRegs u [RTC_SET_HI, RTC_STAT] ∧
        s.onlyRegs { u with rtc := s.rtc }) ∧
  (∀ (s : State) (t : Requester) (w : Word), s.takesBackup t RTC_SET_HI → w.getLsbD 31 = true →
      s.flag RTC_STAT 7 = false → s.flag RTC_CFG 0 = true →
      calSeconds (if t = 16 then s.sbp.stagedLo.getD (s.reg RTC_SET_LO) else s.reg RTC_SET_LO).toNat (bits w.toNat 0 31) = none →
      Yields (.timeWrite t w) s fun u => u.rtc = s.rtc ∧ u.flag RTC_STAT 7 = false ∧ u.flag RTC_STAT 4 = true ∧
        s.sameRegs u [RTC_SET_HI, RTC_STAT] ∧ s.onlyRegs u) ∧
  (∀ (s : State) (t : Requester) (w : Word), s.takesBackup t RTC_SET_HI → s.flag RTC_STAT 7 = true →
      s.rtc.flkTimed = false →
      Yields (.timeWrite t w) s fun u => u.rtc = s.rtc ∧ s.sameRegs u [RTC_SET_HI] ∧ s.onlyRegs u) ∧
  (∀ (s : State) (k sec sub : Nat), s.rtc.stopped = false → s.rtc.pendTime = some (k, sec, sub) →
      Yields .timeWriteApply s fun u => u.rtc = { s.rtc with sec := sec, sub := sub, pendTime := none, pendShift := none } ∧
        u.flag RTC_STAT 0 = false ∧ u.flag RTC_STAT 7 = false ∧
        u.flag RTC_STAT 5 = (s.rtc.pendShift.isSome || s.flag RTC_STAT 5) ∧
        s.sameRegs u [RTC_STAT] ∧ s.onlyRegs { u with rtc := s.rtc }) ∧
  (∀ (s : State) (t : Requester) (w : Word) (together : Bool), s.takesBackup t RTC_SHIFT → w.getLsbD 31 = true →
      bits w.toNat 0 15 ≠ 0 →
      (s.flag RTC_STAT 7 = false ∨ (together = true ∧ s.rtc.pendTime.isSome = true ∧ s.rtc.pendShift = none)) →
      Yields (.shift t w together) s fun u =>
        u.rtc = { s.rtc with pendShift := some (s.rtc.raw, w.getLsbD 15, bits w.toNat 0 15), flkTimed := false } ∧
        u.flag RTC_STAT 7 = true ∧ s.sameRegs u [RTC_SHIFT, RTC_STAT] ∧ s.onlyRegs { u with rtc := s.rtc }) ∧
  (∀ (s : State) (t : Requester) (w : Word) (together : Bool), s.takesBackup t RTC_SHIFT → bits w.toNat 0 15 = 0 →
      Yields (.shift t w together) s fun u => u.rtc = s.rtc ∧ s.sameRegs u [RTC_SHIFT] ∧ s.onlyRegs u) ∧
  (∀ (s : State) (t : Requester) (w : Word), s.takesBackup t RTC_SHIFT → s.flag RTC_STAT 7 = true →
      Yields (.shift t w false) s fun u => u.rtc = s.rtc ∧ s.sameRegs u [RTC_SHIFT] ∧ s.onlyRegs u) ∧
  (∀ (s : State) (k : Nat) (retard : Bool) (n : Nat), s.rtc.stopped = false → s.rtc.pendTime = none →
      s.rtc.pendShift = some (k, retard, n) →
      let dropped := if retard then s.rtc.units < n else rtcEnd * 32768 ≤ s.rtc.units + n
      Yields .shiftApply s fun u => u.rtc.pendShift = none ∧ u.flag RTC_STAT 7 = false ∧
        (¬ dropped → u.rtc.units = (if retard then s.rtc.units - n else s.rtc.units + n) ∧ u.rtc.sub < 32768 ∧
          u.flag RTC_STAT 5 = s.flag RTC_STAT 5) ∧
        (dropped → u.rtc.sec = s.rtc.sec ∧ u.rtc.sub = s.rtc.sub ∧ u.flag RTC_STAT 5 = true) ∧
        u.rtc.win = s.rtc.win ∧ u.rtc.cdLeft = s.rtc.cdLeft ∧ s.sameRegs u [RTC_STAT] ∧
        s.onlyRegs { u with rtc := s.rtc }) ∧
  (∀ s : State, s.rtc.wraps = true → s.rtc.stopped = false → s.rtc.por = false → s.rtc.winDue = false →
      s.rtc.pendTime = none → s.rtc.pendShift = none → s.pwr.lateWake = none → s.seq.adopt = none →
      Yields .rtcWrap s fun u => u.rtc.units = s.rtc.units + s.rtc.advance - rtcEnd * 32768 ∧ u.flag RTC_STAT 6 = true ∧
        u.flag RTC_STAT 0 = s.flag RTC_STAT 0 ∧ s.sameRegs u [RTC_STAT, RTC_RUNTIME])

/-- The countdown is loaded and expires; a trim window takes DIG; the temperature is kept. Drawn from R238, R246,
R229, R230. Clauses about points that the spec leaves open or that are read by inference follow the model: log entries
9, 116, 117, 119, 122. -/
def Obligations.BackupCounters : Prop :=
  (∀ (s : State) (t : Requester) (w : Word), s.takesBackup t RTC_CD_LOAD →
      Yields (.countdownLoad t w) s fun u => u.rtc = { s.rtc with pendCd := s.rtc.pendCd ++ [(s.rtc.raw, bits w.toNat 0 24)] } ∧
        u.fld RTC_CD_LOAD 0 24 = bits w.toNat 0 24 ∧ s.sameRegs u [RTC_CD_LOAD] ∧ s.onlyRegs { u with rtc := s.rtc }) ∧
  (∀ s : State, s.awake → s.rtc.cdLeft = some 0 → s.rtc.stopped = false → s.rtc.pendCd = [] →
      let n := s.fld RTC_CD_RELOAD 0 24
      Yields .countdownExpiry s fun u => u.flag RTC_ISTAT 0 = true ∧
        u.rtc = { s.rtc with cdLeft := if n = 0 then none else some (n * 512), cdx := true, cdAt := some s.rtc.raw } ∧
        s.sameRegs u [RTC_ISTAT] ∧ s.onlyRegs { u with rtc := s.rtc }) ∧
  (∀ s : State, 1 ≤ s.ladder → s.ladder ≤ 4 → s.pwr.entry = none → s.pwr.exiting = none → s.ctl.phase = .run →
      s.rtc.cdLeft = some 0 → s.rtc.stopped = false → s.rtc.pendCd = [] →
      let n := s.fld RTC_CD_RELOAD 0 24
      Yields .countdownExpiry s fun u => u.flag RTC_ISTAT 0 = true ∧
        u.rtc = { s.rtc with cdLeft := if n = 0 then none else some (n * 512), cdx := true, cdAt := some s.rtc.raw } ∧
        u.fld PWR_WAKE_SRC 0 4 = 4 ∧ u.fld PWR_WAKE_SRC 4 3 = s.ladder ∧ u.pwr.exiting = some s.ladder ∧
        u.flag PWR_STAT 9 = true ∧ s.sameRegs u [RTC_ISTAT, PWR_WAKE_SRC, PWR_STAT]) ∧
  (∀ s : State, s.rtc.winDue = true → s.rtc.stopped = false → s.rtc.por = false → s.flag RTC_CFG 1 = true →
      let d := 25 * toSigned 12 (s.fld RTC_TRIM_STAT 16 12) - s.otp.force.turnover
      let e := s.otp.force.offset * 10000000 - (s.otp.force.coeff : Int) * d ^ 2
      let n := roundAway (-1048576 * e) (10 ^ 15) + toSigned 10 (s.fld RTC_TRIM 0 10)
      Yields .trimWindowStart s fun u => u.rtc = { s.rtc with trimN := max (-511) (min 511 n), winDue := false } ∧
        toSigned 10 (u.fld RTC_TRIM_STAT 0 10) = max (-511) (min 511 n) ∧
        u.flag RTC_TRIM_STAT 15 = decide (n < -511 ∨ 511 < n) ∧
        u.fld RTC_TRIM_STAT 16 12 = s.fld RTC_TRIM_STAT 16 12 ∧ s.sameRegs u [RTC_TRIM_STAT] ∧
        s.onlyRegs { u with rtc := s.rtc }) ∧
  (∀ s : State, s.rtc.winDue = true → s.rtc.stopped = false → s.rtc.por = false → s.flag RTC_CFG 1 = false →
      s.fld RTC_TRIM 0 10 ≠ 512 →
      Yields .trimWindowStart s fun u =>
        u.rtc = { s.rtc with trimN := toSigned 10 (s.fld RTC_TRIM 0 10), winDue := false } ∧
        u.fld RTC_TRIM_STAT 0 10 = s.fld RTC_TRIM 0 10 ∧ u.flag RTC_TRIM_STAT 15 = false ∧
        u.fld RTC_TRIM_STAT 16 12 = s.fld RTC_TRIM_STAT 16 12 ∧ s.sameRegs u [RTC_TRIM_STAT] ∧
        s.onlyRegs { u with rtc := s.rtc }) ∧
  (∀ (s : State) (temp : BitVec 12), s.rtc.stopped = false → s.rtc.por = false →
      Yields (.backupTempSample temp) s fun u => u.fld RTC_TRIM_STAT 16 12 = temp.toNat ∧
        u.fld RTC_TRIM_STAT 0 16 = s.fld RTC_TRIM_STAT 0 16 ∧ s.sameRegs u [RTC_TRIM_STAT] ∧ s.onlyRegs u)

/-- The supply of the backup domain changes, its clock stops and resumes, its power is lost. Drawn from R223, R224,
R225, R231, R247, R24. Clauses about points that the spec leaves open or that are read by inference follow the model:
log entries 4, 123. -/
def Obligations.BackupSupply : Prop :=
  (∀ s : State, s.flag RTC_STAT 1 = false → s.rtc.por = false → s.flag RTC_SWFIRST_SUB 31 = false →
      Yields .vbkSwitchover s fun u => u.flag RTC_STAT 1 = true ∧ u.flag RTC_ISTAT 3 = true ∧ u.reg RTC_RUNTIME = 0 ∧
        u.reg RTC_SWFIRST_SEC = BitVec.ofNat 32 s.rtc.sec ∧ u.fld RTC_SWFIRST_SUB 0 15 = s.rtc.sub % 2 ^ 15 ∧
        u.flag RTC_SWFIRST_SUB 31 = true ∧ u.rtc = s.rtc ∧
        s.sameRegs u [RTC_STAT, RTC_ISTAT, RTC_RUNTIME, RTC_SWFIRST_SEC, RTC_SWFIRST_SUB] ∧ s.onlyRegs u) ∧
  (∀ s : State, s.flag RTC_STAT 1 = false → s.rtc.por = false → s.flag RTC_SWFIRST_SUB 31 = true →
      Yields .vbkSwitchover s fun u => u.flag RTC_STAT 1 = true ∧
        u.fld RTC_SWCOUNT 0 16 = min (s.fld RTC_SWCOUNT 0 16 + 1) 0xFFFF ∧
        s.sameRegs u [RTC_STAT, RTC_ISTAT, RTC_RUNTIME, RTC_SWCOUNT] ∧ s.onlyRegs u) ∧
  (∀ s : State, s.flag RTC_STAT 1 = true → s.rtc.por = false →
      Yields .vddAdcSwitchback s fun u => u.flag RTC_STAT 1 = false ∧ u.rtc = { s.rtc with runRaw := 0 } ∧
        s.sameRegs u [RTC_STAT] ∧ s.onlyRegs { u with rtc := s.rtc }) ∧
  (∀ s : State, s.flag RTC_STAT 2 = false → s.rtc.por = false →
      Yields .vbkLow s fun u => u.flag RTC_STAT 2 = true ∧ u.flag RTC_STAT 3 = true ∧ u.flag RTC_ISTAT 2 = true ∧
        s.sameRegs u [RTC_STAT, RTC_ISTAT] ∧ s.onlyRegs u) ∧
  (∀ s : State, Yields .vbkReturn s fun u => u.flag RTC_STAT 2 = false ∧ u.flag RTC_STAT 3 = s.flag RTC_STAT 3 ∧
        s.sameRegs u [RTC_STAT] ∧ s.onlyRegs u) ∧
  (∀ s : State, s.rtc.por = false →
      Yields .oscStopDetect s fun u => u.rtc = { s.rtc with stopped := true } ∧ u.flag RTC_STAT 0 = true ∧
        u.flag RTC_ISTAT 1 = true ∧ s.sameRegs u [RTC_STAT, RTC_ISTAT] ∧ s.onlyRegs { u with rtc := s.rtc }) ∧
  (∀ s : State, Yields .bk32Resume s fun u => u.rtc = { s.rtc with stopped := false } ∧ s.sameRegs u [] ∧
        s.onlyRegs { u with rtc := s.rtc }) ∧
  (∀ (s : State) (t : Requester) (w : Word), s.takesBackup t RTC_SWFIRST_SUB → w.getLsbD 31 = true →
      Yields (.swfirstClear t w) s fun u => u.flag RTC_SWFIRST_SUB 31 = false ∧ u.reg RTC_SWCOUNT = 0 ∧
        s.sameRegs u [RTC_SWFIRST_SUB, RTC_SWCOUNT] ∧ s.onlyRegs u) ∧
  (∀ s : State, Yields .backupPor s fun u => u.rtc = { RtcSt.reset with por := true } ∧ u.log = LogSt.reset ∧
        u.ctxs = [] ∧ u.evt.queues = [] ∧ u.pwr = { s.pwr with canDetect := 0, holdArea := PwrSt.reset.holdArea } ∧
        (∀ a, u.reg a = if isBackup a then regReset a else s.reg a) ∧
        s.onlyRegs
          { u with rtc := s.rtc, log := s.log, ctxs := s.ctxs, evt := s.evt, sbp := s.sbp, pwr := s.pwr }) ∧
  (∀ s : State, Yields .backupPorRelease s fun u => u.rtc = { s.rtc with por := false } ∧ s.sameRegs u [] ∧
        s.onlyRegs { u with rtc := s.rtc })

/-- Captures are queued or counted as dropped, and read out in order. Drawn from R234, R235, R236. Clauses about
points that the spec leaves open or that are read by inference follow the model: log entries 9, 122, 124. -/
def Obligations.EventInputs : Prop :=
  (∀ (s : State) (n : Fin 4) (level : Bool) (k : Nat), s.awake → (s.rtc.stopped = true ∨ s.fld (EVT_CFG n) 16 9 < k) → s.rtc.por = false → s.evt.level.getLsbD n.val = !level →
      bit (s.fld (EVT_CFG n) 0 2) (if level then 0 else 1) = true → (s.evtOf n).length < 4 →
      Yields (.eventCapture n level k) s fun u =>
        (∃ e : EvtEntry, u.evtOf n = s.evtOf n ++ [e] ∧ e.sec = s.rtc.sec ∧ e.sub = s.rtc.sub ∧ e.level = level ∧
          e.noclk = s.rtc.stopped ∧ e.cdx = s.cdxNow) ∧
        (∀ m, m ≠ n.val → u.evtOf m = s.evtOf m) ∧ u.evt.level.getLsbD n.val = level ∧ s.sameRegs u [] ∧
        s.onlyRegs { u with evt := s.evt }) ∧
  (∀ (s : State) (n : Fin 4) (level : Bool) (k : Nat), s.awake → (s.rtc.stopped = true ∨ s.fld (EVT_CFG n) 16 9 < k) → s.rtc.por = false → s.evt.level.getLsbD n.val = !level →
      bit (s.fld (EVT_CFG n) 0 2) (if level then 0 else 1) = true → 4 ≤ (s.evtOf n).length →
      Yields (.eventCapture n level k) s fun u => u.flag EVT_STAT (4 + n) = true ∧
        u.fld EVT_DROP (8 * n) 8 = min (s.fld EVT_DROP (8 * n) 8 + 1) 255 ∧ u.evt.queues = s.evt.queues ∧
        u.evt.level.getLsbD n.val = level ∧ s.sameRegs u [EVT_STAT, EVT_DROP] ∧ s.onlyRegs { u with evt := s.evt }) ∧
  (∀ (s : State) (n : Fin 4) (level : Bool) (k : Nat), (s.rtc.stopped = true ∨ s.fld (EVT_CFG n) 16 9 < k) → s.rtc.por = false →
      s.evt.level.getLsbD n.val = !level → bit (s.fld (EVT_CFG n) 0 2) (if level then 0 else 1) = false →
      Yields (.eventCapture n level k) s fun u => u.evt.level.getLsbD n.val = level ∧ u.evt.queues = s.evt.queues ∧
        s.sameRegs u [] ∧ s.onlyRegs { u with evt := s.evt }) ∧
  (∀ (s : State) (n : Fin 4) (level : Bool) (k : Nat), s.rtc.stopped = false → k ≤ s.fld (EVT_CFG n) 16 9 →
      Yields (.eventCapture n level k) s fun u => u.evt = s.evt ∧ s.sameRegs u [] ∧ s.onlyRegs u) ∧
  (∀ (s : State) (n : Fin 4) (level : Bool) (k : Nat), 1 ≤ s.ladder → s.ladder ≤ 4 → s.pwr.entry = none →
      s.pwr.exiting = none → s.ctl.phase = .run → s.rtc.stopped = false → s.fld (EVT_CFG n) 16 9 < k →
      s.rtc.por = false → s.evt.level.getLsbD n.val = !level →
      bit (s.fld (EVT_CFG n) 0 2) (if level then 0 else 1) = true → (s.evtOf n).length < 4 →
      Yields (.eventCapture n level k) s fun u =>
        (∃ e : EvtEntry, u.evtOf n = s.evtOf n ++ [e] ∧ e.sec = s.rtc.sec ∧ e.sub = s.rtc.sub ∧ e.level = level ∧
          e.wake = s.evtWakes n) ∧
        (s.evtWakes n = true → u.fld PWR_WAKE_SRC 0 4 = n ∧ u.fld PWR_WAKE_SRC 4 3 = s.ladder ∧
          u.pwr.exiting = some s.ladder ∧ u.flag PWR_STAT 9 = true) ∧
        (s.evtWakes n = false → u.pwr = s.pwr) ∧ s.sameRegs u [PWR_WAKE_SRC, PWR_STAT]) ∧
  (∀ (s : State) (t : Requester) (w : Word), s.takesBackup t EVT_STAT →
      Yields (.ovfClear t w) s fun u =>
        (∀ n, n < 4 → u.flag EVT_STAT (4 + n) = (s.flag EVT_STAT (4 + n) && !w.getLsbD (4 + n)) ∧
          u.fld EVT_DROP (8 * n) 8 = if w.getLsbD (4 + n) then 0 else s.fld EVT_DROP (8 * n) 8) ∧
        u.evt = s.evt ∧ s.sameRegs u [EVT_STAT, EVT_DROP]) ∧
  (∀ (s : State) (t : Requester) (w : Word), s.takesBackup t EVT_RD_CTRL →
      let q := s.evtOf (bits w.toNat 0 2)
      let shown := q.take (min 4 (bits w.toNat 4 3))
      Yields (.eventReadout t w) s fun u =>
        (u.ctxOf (ctxOfReq t)).evtShown = shown.map (·.id) ∧ (u.ctxOf (ctxOfReq t)).evtWin.length = 40 ∧
        (u.ctxOf (ctxOfReq t)).evtWin.take 4 = [BitVec.ofNat 8 shown.length, BitVec.ofNat 8 q.length,
          BitVec.ofNat 8 (b2n (s.flag EVT_STAT (4 + bits w.toNat 0 2)) + 2 * b2n (s.evt.level.getLsbD (bits w.toNat 0 2))),
          BitVec.ofNat 8 (s.fld EVT_DROP (8 * bits w.toNat 0 2) 8)] ∧
        ((u.ctxOf (ctxOfReq t)).evtWin.drop 8).take (8 * shown.length) = shown.flatMap entryBytes ∧
        (∀ k, k ≠ ctxOfReq t → u.ctxOf k = s.ctxOf k) ∧ u.evt = s.evt ∧ s.sameRegs u [] ∧
        s.onlyRegs { u with ctxs := s.ctxs }) ∧
  (∀ (s : State) (t : Requester), (if t = 16 then s.sbp.open_ = true else s.reads t EVT_RD_CTRL) →
      (s.ctxOf (ctxOfReq t)).evtCtl.getLsbD 8 = true →
      let n := bits (s.ctxOf (ctxOfReq t)).evtCtl.toNat 0 2
      Yields (.eventConsume t) s fun u =>
        u.evtOf n = (s.evtOf n).filter (fun e => !(s.ctxOf (ctxOfReq t)).evtShown.contains e.id) ∧
        (∀ m, m ≠ n → u.evtOf m = s.evtOf m) ∧ u.ctxs = s.ctxs ∧ s.sameRegs u [] ∧ s.onlyRegs { u with evt := s.evt })

/-- A snapshot belongs to its reader; log records are judged in order and read out per requester. Drawn from R233,
R205, R207. Clauses about points that the spec leaves open or that are read by inference follow the model: log entries
110, 121, 124. -/
def Obligations.ContextsAndLog : Prop :=
  (∀ (s : State) (t : Requester),
      (if t = 16 then s.sbp.open_ = true ∧ s.sbp.snapped = false else s.reads t RTC_SUBSEC) →
      Yields (.timeSnapshot t) s fun u =>
        (u.ctxOf (ctxOfReq t)).snap = some { sec := s.rtc.sec, sub := s.rtc.sub, cdNow := s.rtc.cdUnits } ∧
        (∀ k, k ≠ ctxOfReq t → u.ctxOf k = s.ctxOf k) ∧ u.rtc = s.rtc ∧ s.sameRegs u [] ∧
        s.onlyRegs { u with ctxs := s.ctxs, sbp := s.sbp }) ∧
  (∀ (s : State) (ok : Bool) (l : List LogRec) (r : LogRec) (m : List LogRec), s.rtc.stopped = false →
      s.rtc.por = false → s.log.recs = l ++ r :: m → (∀ e ∈ l, e.verdict ≠ .unchecked) → r.verdict = .unchecked →
      Yields (.logRecordCheck ok) s fun u =>
        u.log = { s.log with recs := l ++ { r with verdict := if ok then .good else .torn } :: m } ∧
        s.sameRegs u [] ∧ s.onlyRegs { u with log := s.log }) ∧
  (∀ s : State, s.rtc.stopped = true → ∀ ok, Yields (.logRecordCheck ok) s fun u => u.log = s.log ∧ s.onlyRegs u) ∧
  (∀ (s : State) (t : Requester) (w : Word), s.takesBackup t LOG_RD_CTRL →
      let found := s.log.recs.any fun r => r.seq = bits w.toNat 0 16
      Yields (.logReadout t w) s fun u =>
        ((u.ctxOf (ctxOfReq t)).logWin.drop 8).take 4 = leBytes 2 s.uncheckedRecs ++ leBytes 2 (if found then 0 else 2) ∧
        (bits w.toNat 16 9 = 0 → (u.ctxOf (ctxOfReq t)).logWin.length = 16 ∧ (u.ctxOf (ctxOfReq t)).logWin.take 2 = [0, 0]) ∧
        (∀ k, k ≠ ctxOfReq t → u.ctxOf k = s.ctxOf k) ∧ u.log = s.log ∧ s.sameRegs u [])

/-- Safe-display and its release, the watchdog, the checks and the arbiter's counts. Drawn from R465, R468, R469,
R470, R472, R474, R477, R479. Clauses about points that the spec leaves open or that are read by inference follow the
model: log entries 9, 198, 201, 202, 203. -/
def Obligations.FaultManager : Prop :=
  (∀ (s : State) (t : Requester) (w : Word), s.takes t FLT_SAFE_CTRL → w.getLsbD 0 = true →
      Yields (.safeRelease t w) s fun u =>
        (s.releaseBlocked = false → u.flag FLT_SAFE 0 = false ∧ u.fld FLT_SAFE 4 4 = 0 ∧ u.fld FLT_SAFE 8 7 = 0 ∧
          u.flag FLT_SAFE 16 = s.flag FLT_SAFE 16) ∧
        (s.releaseBlocked = true → u.flag FLT_SAFE 16 = true ∧ u.fld FLT_SAFE 0 16 = s.fld FLT_SAFE 0 16) ∧
        s.sameRegs u [FLT_SAFE] ∧ s.onlyRegs u) ∧
  (∀ (s : State) (t : Requester) (w : Word), s.takes t FLT_QSRC →
      Yields (.faultQuery t w) s fun u => u.fld FLT_QSRC 0 7 = bits w.toNat 0 7 ∧ s.sameRegs u [FLT_QSRC] ∧ s.onlyRegs u) ∧
  (∀ (s : State) (t : Requester) (w : Word) (ms : Nat), s.takes t FLT_WDG_KICK → w.getLsbD 0 = true →
      s.wdgRuns = true →
      Yields (.watchdogKick t w ms) s fun u =>
        (s.wdgOpen ≤ ms → ms < s.wdgClose → u.fld FLT_WDG_STAT 0 16 = s.wdgClose ∧
          u.flag FLT_WDG_STAT 16 = s.flag FLT_WDG_STAT 16 ∧ s.sameRegs u [FLT_WDG_STAT] ∧ s.onlyRegs u) ∧
        (ms < s.wdgOpen → s.faultClass 80 ≤ 3 → u.fld FLT_WDG_STAT 0 16 = s.wdgClose ∧
          u.flag FLT_WDG_STAT 16 = true ∧ s.reports u 80 ∧ s.sameRegs u (FLT_WDG_STAT :: faultRegs)) ∧
        (s.wdgClose ≤ ms → s.wdgOpen = 0 → s.faultClass 80 ≤ 3 → u.fld FLT_WDG_STAT 0 16 = s.wdgClose ∧
          u.flag FLT_WDG_STAT 17 = true ∧ s.reports u 80 ∧ s.sameRegs u (FLT_WDG_STAT :: faultRegs))) ∧
  (∀ s : State, s.wdgRuns = true → s.faultClass 80 ≤ 3 →
      Yields .watchdogLate s fun u => u.flag FLT_WDG_STAT 17 = true ∧ u.fld FLT_WDG_STAT 0 16 = s.wdgClose ∧
        s.reports u 80 ∧ s.sameRegs u (FLT_WDG_STAT :: faultRegs)) ∧
  (∀ (s : State) (count : Nat), s.coreUp = true → s.ladder ≤ 2 → s.faultClass 19 ≤ 3 →
      Yields (.smoCheckWindow count) s fun u =>
        u.flag SYS_CLK_STAT 19 = decide (8 * ((count : Int) - 655).natAbs ≤ 655) ∧
        (655 < 8 * ((count : Int) - 655).natAbs → u.flag SYS_CLK_FAULT 19 = true ∧ s.reports u 19 ∧
          s.sameRegs u (SYS_CLK_STAT :: SYS_CLK_FAULT :: faultRegs)) ∧
        (8 * ((count : Int) - 655).natAbs ≤ 655 → s.sameRegs u [SYS_CLK_STAT] ∧ s.onlyRegs u)) ∧
  (∀ (s : State) (k : Fin 7) (us : Nat), s.coreUp = true → 3 ≤ k.val → s.fld ARB_CFG 0 16 ≠ 0 → s.fld ARB_CFG 0 16 < us →
      s.faultClass 82 ≤ 3 →
      Yields (.starvation k us) s fun u => u.flag ARB_ISTAT 0 = true ∧ s.reports u 82 ∧ s.sameRegs u (ARB_ISTAT :: faultRegs)) ∧
  (∀ (s : State) (k : List (Nat × Nat)), s.coreUp = true →
      Yields (.arbBwWindow k) s fun u =>
        (∀ i, i < 7 → u.fld (ARB_BW i) 0 16 = min (k.getD i (0, 0)).1 0xFFFF ∧
          u.fld (ARB_BW i) 16 16 = max (s.fld (ARB_BW i) 16 16) (min (k.getD i (0, 0)).2 0xFFFF)) ∧
        s.sameRegs u ((List.range 7).map ARB_BW) ∧ s.onlyRegs u) ∧
  (∀ (s : State) (k : Fin 7) (us : Nat), s.coreUp = true → 3 ≤ k.val → s.fld ARB_CFG 0 16 ≠ 0 → s.fld ARB_CFG 0 16 < us →
      s.faultClass 82 = 3 →
      Yields (.starvation k us) s fun u => u.flag FLT_SAFE 0 = true ∧
        (s.flag FLT_SAFE 0 = false → u.fld FLT_SAFE 8 7 = 82 ∧ u.flag FLT_ISTAT 1 = true ∧
          ∀ n, n < 4 → u.flag FLT_SAFE (4 + n) = s.channels.contains n) ∧
        (s.flag FLT_SAFE 0 = true → u.reg FLT_SAFE = s.reg FLT_SAFE) ∧ (∀ n, u.chanOf n = s.chanOf n) ∧
        s.sameRegs u (ARB_ISTAT :: faultRegs)) ∧
  (∀ (s : State) (k : Fin 7) (us : Nat), s.coreUp = true → 3 ≤ k.val → s.fld ARB_CFG 0 16 ≠ 0 → s.fld ARB_CFG 0 16 < us →
      s.faultClass 82 = 2 → s.faultChannels 82 ≠ 0 →
      Yields (.starvation k us) s fun u => u.flag FLT_SAFE 0 = s.flag FLT_SAFE 0 ∧
        (∀ n, n < 4 → u.flag FLT_SAFE (4 + n) = (s.flag FLT_SAFE (4 + n) || bit (s.faultChannels 82) n)) ∧
        (s.flag FLT_SAFE 0 = false → s.fld FLT_SAFE 4 4 = 0 → u.fld FLT_SAFE 8 7 = 82) ∧
        (s.flag FLT_SAFE 0 = true ∨ s.fld FLT_SAFE 4 4 ≠ 0 → u.fld FLT_SAFE 8 7 = s.fld FLT_SAFE 8 7) ∧
        (∀ n, u.chanOf n = s.chanOf n) ∧ s.sameRegs u (ARB_ISTAT :: faultRegs))

/-- Class 4 and a clock that stays out bring the monitor's warm reset, while fewer than two came in the last 10 s.
Drawn from R473, R475, R478, R483, Table 22-2. Clauses about points that the spec leaves open or that are read by
inference follow the model: log entries 3, 24, 198, 199, 200. -/
def Obligations.MonitorReset : Prop :=
  (∀ s : State, s.ctl.phase = .run → s.ladder = 0 → s.faultClass 81 = 4 → s.ctl.halted = false → s.ctl.lossFlow = false →
      s.pwr.entry = none → s.otp.prog = none → s.updQuiet → (recentResets s).length < 2 →
      Yields .heartbeatLoss s fun u => u.ctl.phase = .reset ∧ u.ctl.path = .warm ∧ u.flag SYS_RST_CAUSE 4 = true ∧
        u.fld FLT_SAFE 17 3 = (recentResets s).length + 1 ∧ u.mem = s.mem ∧ u.nv = s.nv ∧ u.rtc = s.rtc) ∧
  (∀ (s : State) (d : Fin 4), s.ctl.recheck.getLsbD d = true → s.ctl.phase = .run → s.ladder = 0 → s.ctl.halted = false →
      s.ctl.lossFlow = false → s.pwr.entry = none → s.otp.prog = none → s.updQuiet → (recentResets s).length < 2 →
      Yields (.clockRecheck d true) s fun u => u.ctl.phase = .reset ∧ u.ctl.path = .warm ∧
        u.flag SYS_RST_CAUSE 4 = true ∧ u.fld FLT_SAFE 17 3 = (recentResets s).length + 1 ∧ u.mem = s.mem ∧ u.nv = s.nv ∧
        u.rtc = s.rtc) ∧
  (∀ s : State, s.ctl.phase = .run → s.ladder = 0 → s.faultClass 81 = 4 → s.ctl.halted = false → s.ctl.lossFlow = false →
      s.pwr.entry = none → s.otp.prog = none → s.updQuiet → 2 ≤ (recentResets s).length →
      Yields .heartbeatLoss s fun u => u.ctl.halted = true ∧ u.ctl.phase = .reset ∧ u.ctl.path = .warm ∧
        u.flag SYS_RST_CAUSE 4 = true ∧ (u.log.recs.getLast?.map fun r => (r.type, r.data)) = some (0x0B, leBytes 2 81 ++ [5]) ∧
        u.mem = s.mem ∧ u.nv = s.nv ∧ u.rtc = s.rtc) ∧
  (∀ s : State, s.ctl.halted = true → s.ctl.phase = .reset → s.ctl.path = .warm →
      ∀ i ∈ [Instr.warmResetRelease, .heartbeatLoss],
      Yields i s fun u => u.ctl.halted = true ∧ u.ctl.phase = .reset ∧ s.sameRegs u faultRegs ∧ u.mem = s.mem ∧
        u.nv = s.nv) ∧
  (∀ (s : State) (banks : BitVec 2), s.ctl.halted = true → s.ctl.porHigh = true →
      Yields (.porNAssert 1000 banks) s fun u => u.ctl.halted = false) ∧
  (∀ (s : State) (d : Fin 4), s.ctl.recheck.getLsbD d = true →
      Yields (.clockRecheck d false) s fun u => u.ctl.recheck.getLsbD d = false ∧ s.sameRegs u [] ∧
        s.onlyRegs { u with ctl := { u.ctl with recheck := s.ctl.recheck } })

/-- The power-up and shutdown orders, step by step. Drawn from R196, R197, R198, R210, R211, R214, R215, R220. Clauses
about points that the spec leaves open or that are read by inference follow the model: log entries 4, 107, 108, 113,
114, 115. -/
def Obligations.RailOrders : Prop :=
  (∀ (s : State) (t : Requester) (w : Word) (n : Nat) (rest : List Nat), s.takes t SEQ_CTRL → w.getLsbD 0 = true →
      w.getLsbD 1 = false → s.cfg.isSome = true → s.seqState = seqOff → s.seq.offWait = false →
      s.upSlots = n :: rest → n < 16 → (∀ m ∈ s.upSlots, s.enabled m = false) →
      Yields (.seqUp t w) s fun u => u.seqState = seqRising ∧ u.seq.step = .rise ∧ u.seq.slot = n ∧ u.seq.todo = rest ∧
        u.seq.cause = 2 ∧ u.enabled n = true ∧ s.sameRegs u [SEQ_STAT, SEQ_SENSE n]) ∧
  (∀ (s : State) (t : Requester) (w : Word) (n : Nat), s.takes t SEQ_CTRL → w.getLsbD 1 = true → s.cfg.isSome = true →
      s.seqState = seqUp → n ∈ s.activeChannels → s.chState n = chRun → (s.chanOf n).blackSent = false →
      Yields (.seqDown t w) s fun u => u.seqState = seqBlanking ∧ u.seq.cause = 2 ∧
        (∀ m ∈ s.activeChannels, s.chState m = chRun → (s.chanOf m).blackSent = false → u.chState m = chBlanking) ∧
        u.seq.heldCause = 0 ∧ u.flag SEQ_STAT 8 = false) ∧
  (∀ (s : State) (slot : Fin 16) (code : Code) (pg : Bool) (held time : Nat) (r : RailRec), s.enabled slot = true →
      s.railRec slot = some r → s.senseRuns r = true → s.railsWf →
      Yields (.railInRange slot code pg held time) s fun u =>
        (r.senseKind = 0 → u.fld (SEQ_SENSE slot) 0 10 = code.toNat) ∧ (r.senseKind ≠ 0 → u.flag (SEQ_SENSE slot) 16 = s.pgIn r pg) ∧
        (r.qualifies code.toNat (s.pgIn r pg) = true → s.fld SUP_CTRL 0 10 ≤ held →
          u.seq.supervised.getLsbD slot = true ∧ u.flag (SEQ_SENSE slot) 17 = true) ∧
        (r.qualifies code.toNat (s.pgIn r pg) = true → s.fld SUP_CTRL 0 10 ≤ held → s.seqState = seqRising → s.seq.step = .rise →
          s.seq.slot = slot → time < 10 * r.riseWindow →
          u.seq.step = .delay ∧ u.fld (SEQ_TIME slot) 0 16 = min time 0xFFFF) ∧
        (r.qualifies code.toNat (s.pgIn r pg) = false ∨ held < s.fld SUP_CTRL 0 10 ∨ 10 * r.riseWindow ≤ time →
          u.seq.step = s.seq.step ∧ u.reg (SEQ_TIME slot) = s.reg (SEQ_TIME slot)) ∧
        u.seq.slot = s.seq.slot ∧ u.seq.todo = s.seq.todo ∧ s.sameRegs u (SEQ_TIME slot :: s.sampleRegs r) ∧
        s.onlyRegs { u with seq := s.seq }) ∧
  (∀ (s : State) (time n : Nat) (rest : List Nat), s.seqRuns = true → s.seqState = seqRising → s.seq.step = .delay → s.seq.todo = n :: rest →
      n < 16 →
      Yields (.stepDelayExpiry time) s fun u => u.seqState = seqRising ∧ u.seq.step = .rise ∧ u.seq.slot = n ∧
        u.seq.todo = rest ∧ u.enabled n = true ∧ u.flag (SEQ_SENSE n) 17 = false ∧
        s.sameRegs u [SEQ_STAT, SEQ_SENSE n] ∧ s.onlyRegs { u with seq := s.seq }) ∧
  (∀ (s : State) (code : Code) (time n : Nat) (r : RailRec), s.seqRuns = true → s.seqState = seqRising →
      s.seq.step = .rise → s.seq.slot < 16 → s.railRec s.seq.slot = some r → r.riseWindow ≤ time → n ∈ s.activeChannels → s.chState n = chRun → (s.chanOf n).blackSent = false →
      Yields (.riseWindowExpiry code time) s fun u => u.flag SEQ_TOUT s.seq.slot = true ∧ u.flag SEQ_STAT 3 = true ∧
        u.seq.cause = 6 ∧ u.seqState = seqBlanking ∧
        ∀ m ∈ s.activeChannels, s.chState m = chRun → (s.chanOf m).blackSent = false → u.chState m = chBlanking) ∧
  (∀ (s : State) (code : Code) (pg : Bool) (time total n : Nat) (rest : List Nat) (r : RailRec),
      s.seqState = seqFalling → s.seq.step = .fall → s.seq.slot < 16 → s.railRec s.seq.slot = some r →
      s.senseRuns r = true → s.railsWf → (if r.senseKind = 0 then code.toNat ≤ r.vLo / 8 else s.pgIn r pg = false) → time < 10 * r.disTimeout →
      s.seq.todo = n :: rest → n < 16 → n ≠ s.seq.slot →
      Yields (.railDischarged code pg time total) s fun u => u.fld (SEQ_TIME s.seq.slot) 16 16 = min time 0xFFFF ∧
        u.seqState = seqFalling ∧ u.seq.step = .fall ∧ u.seq.slot = n ∧ u.seq.todo = rest ∧ u.enabled n = false ∧
        u.seq.timeouts = s.seq.timeouts ∧ u.reg SEQ_TOUT = s.reg SEQ_TOUT) ∧
  (∀ (s : State) (code : Code) (pg : Bool) (time total : Nat) (r : RailRec), s.seqState = seqFalling →
      s.seq.step = .fall → s.seq.slot < 16 → s.railRec s.seq.slot = some r → s.senseRuns r = true → s.railsWf →
      (if r.senseKind = 0 then r.vLo / 8 < code.toNat else s.pgIn r pg = true) ∨ 10 * r.disTimeout ≤ time →
      Yields (.railDischarged code pg time total) s fun u => u.seqState = seqFalling ∧ u.seq.step = .fall ∧
        u.seq.slot = s.seq.slot ∧ u.seq.todo = s.seq.todo ∧ u.enabled s.seq.slot = s.enabled s.seq.slot ∧
        s.sameRegs u (s.sampleRegs r) ∧ s.onlyRegs { u with seq := s.seq }) ∧
  (∀ (s : State) (code : Code) (time total n : Nat) (rest : List Nat) (r : RailRec), s.seqRuns = true →
      s.seqState = seqFalling → s.seq.step = .fall → s.railRec s.seq.slot = some r → 10 * r.disTimeout ≤ time →
      s.seq.slot < 16 → s.seq.todo = n :: rest → n < 16 → n ≠ s.seq.slot →
      Yields (.disTimeout code time total) s fun u => u.flag SEQ_TOUT (16 + s.seq.slot) = true ∧
        u.seq.timeouts = s.seq.timeouts + 1 ∧ u.seqState = seqFalling ∧ u.seq.step = .fall ∧ u.seq.slot = n ∧
        u.seq.todo = rest ∧ u.enabled n = false) ∧
  (∀ (s : State) (n : Nat) (rest : List Nat), s.seqRuns = true → s.seqState = seqOff → s.seq.offWait = true → s.upSlots = n :: rest →
      n < 16 → (∀ m ∈ s.upSlots, s.enabled m = false) →
      Yields .offMinExpiry s fun u => u.seqState = seqRising ∧ u.seq.slot = n ∧ u.seq.todo = rest ∧
        u.seq.cause = s.seq.heldCause ∧ u.seq.offWait = false ∧ u.enabled n = true)

/-- Rail supervision and the fixed monitors. Drawn from R200, R202, R221. Clauses about points that the spec leaves
open or that are read by inference follow the model: log entries 108, 111, 112, 113. -/
def Obligations.RailSupervision : Prop :=
  (∀ (s : State) (e : RailSample) (r : RailRec), s.watched e.slot = true → s.faultClass (32 + e.slot) ≤ 3 →
      s.railRec e.slot = some r → s.senseRuns r = true → s.railsWf → r.qualifies e.code.toNat (s.pgIn r e.pg) = false →
      s.fld SUP_CTRL 0 10 ≤ e.held →
      Yields (.railWindowFault [e]) s fun u => u.flag SUP_STAT e.slot = true ∧ u.flag SUP_FAULT e.slot = true ∧
        s.reports u (32 + e.slot) ∧ s.sameRegs u (SUP_STAT :: SUP_FAULT :: s.sampleRegs r ++ faultRegs)) ∧
  (∀ (s : State) (e : RailSample) (r : RailRec), s.railRec e.slot = some r →
      s.watched e.slot = false ∨ s.senseRuns r = false ∨ r.qualifies e.code.toNat (s.pgIn r e.pg) = true ∨
        e.held < s.fld SUP_CTRL 0 10 →
      Yields (.railWindowFault [e]) s fun u => s.sameRegs u [] ∧ s.onlyRegs u) ∧
  (∀ (s : State) (e : RailSample) (r : RailRec), s.flag SUP_STAT e.slot = true → s.railRec e.slot = some r →
      s.senseRuns r = true → s.railsWf →
      Yields (.railRequalify e) s fun u =>
        (r.qualifies e.code.toNat (s.pgIn r e.pg) = true → s.fld SUP_CTRL 0 10 ≤ e.held →
          u.flag SUP_STAT e.slot = false ∧ u.flag (SEQ_SENSE e.slot) 17 = true) ∧
        (r.qualifies e.code.toNat (s.pgIn r e.pg) = false ∨ e.held < s.fld SUP_CTRL 0 10 → u.reg SUP_STAT = s.reg SUP_STAT) ∧
        u.reg SUP_FAULT = s.reg SUP_FAULT ∧ s.sameRegs u (SUP_STAT :: s.sampleRegs r) ∧
        s.onlyRegs { u with seq := s.seq }) ∧
  (∀ (s : State) (out : BitVec 7) (m : Fin 7), s.ctl.monitorsArmed = true → s.ladder ≤ 4 → s.faultClass 48 ≤ 3 →
      out.getLsbD m = true → s.flag SUP_STAT (16 + m) = false →
      Yields (.coreRailFault out) s fun u => u.fld SUP_STAT 16 7 = s.fld SUP_STAT 16 7 ||| out.toNat ∧
        u.fld SUP_FAULT 16 7 = s.fld SUP_FAULT 16 7 ||| out.toNat ∧ s.reports u 48 ∧
        s.sameRegs u (SUP_STAT :: SUP_FAULT :: faultRegs)) ∧
  (∀ (s : State) (m : Fin 7), Yields (.coreRailRequalify m) s fun u => u.flag SUP_STAT (16 + m) = false ∧
        (∀ i, i < 32 → i ≠ 16 + m.val → u.flag SUP_STAT i = s.flag SUP_STAT i) ∧ s.sameRegs u [SUP_STAT] ∧ s.onlyRegs u)

/-- The resets, what each clears and keeps, and its cause bit. Drawn from R15, R17, R18, R19, R24, R25, R26, Table
1-4. Clauses about points that the spec leaves open or that are read by inference follow the model: log entries 15,
17, 18, 19, 20, 101. -/
def Obligations.Resets : Prop :=
  (∀ (s : State) (ns : Nat) (banks : BitVec 2), filterNs ≤ ns → s.ctl.porHigh = true → s.otp.prog = none → s.updQuiet →
      s.stoState ≠ 2 → s.nv.hk = .none →
      Yields (.porNAssert ns banks) s fun u => (∀ a, u.reg a = if isBackup a then s.reg a else regReset a) ∧
        u.ctl.phase = .reset ∧ u.ctl.porHigh = false ∧ u.cfg = none ∧ u.mem = MemSt.reset ∧ u.rtc = s.rtc ∧
        u.evt = s.evt ∧ u.log = s.log ∧ u.nv.cells = s.nv.cells ∧ u.nv.journal = s.nv.journal ∧ u.otp.array = s.otp.array) ∧
  (∀ (s : State) (ns : Nat) (banks : BitVec 2), ns < filterNs ∨ s.ctl.porHigh = false →
      Yields (.porNAssert ns banks) s fun u => s.sameRegs u [] ∧ s.onlyRegs { u with ctl := s.ctl }) ∧
  (∀ (s : State) (banks : BitVec 2), s.ctl.phase = .reset → s.ctl.porHigh = false → banks.getLsbD 1 = false →
      Yields (.porNRelease banks) s fun u => u.ctl = { s.ctl with banks := banks } ∧ s.sameRegs u [] ∧
        s.onlyRegs { u with ctl := s.ctl }) ∧
  (∀ (s : State) (banks : BitVec 2), s.ctl.phase = .reset → s.ctl.porHigh = false → banks.getLsbD 1 = true →
      s.ctl.pmicOn = true →
      Yields (.porNRelease banks) s fun u => u.ctl.porHigh = true ∧ u.flag SYS_RST_CAUSE 1 = true ∧
        u.ctl.phase = (if s.ctl.railsOk then Phase.otp else Phase.rails) ∧
        u.ctl.path = (if s.fld PWR_HOLD 0 3 = 6 ∨ s.flag PWR_HOLD 3 = false then StartPath.cold else StartPath.restore) ∧
        u.reg PWR_HOLD = s.reg PWR_HOLD ∧ u.rtc = s.rtc ∧ u.nv = s.nv) ∧
  (∀ (s : State) (ns : Nat) (soft : Bool), filterNs ≤ ns → s.ctl.phase = .run → s.ladder = 0 → s.pwr.entry = none →
      s.ctl.lossFlow = false → s.ctl.halted = false → s.otp.prog = none → s.updQuiet → s.ctl.warmDeferred &&& 0x10 = 0 →
      Yields (.rstNAssert ns soft false) s fun u => u.ctl.phase = .reset ∧ u.ctl.path = .warm ∧
        u.reg SYS_RST_CAUSE =
          s.reg SYS_RST_CAUSE ||| BitVec.ofNat 32 (0x04 ||| (if soft then 0x08 else 0) ||| s.ctl.warmDeferred) ∧
        u.fld SEQ_STAT 16 16 = s.fld SEQ_STAT 16 16 ∧
        u.fld STO_STAT 0 4 = s.fld STO_STAT 0 4 ∧ u.fld NVH_STAT 0 4 = s.fld NVH_STAT 0 4 ∧
        (∀ a, a ∉ sluiceConfig → a ≠ STO_DET → a ≠ STO_STAT → a ≠ NVH_STAT → a ≠ SEQ_STAT → a ≠ SYS_RST_CAUSE →
          a ≠ STR_BERR_INFO → u.reg a = if keptWarm a then s.reg a else regReset a) ∧
        u.fld STR_BERR_INFO 16 16 = s.fld STR_BERR_INFO 16 16 ∧ u.mem = s.mem ∧ u.nv = s.nv ∧
        u.sto = { s.sto with heldWrites := [], heldReads := [] } ∧ u.rtc = s.rtc ∧ u.cfg = s.cfg) ∧
  (∀ (s : State) (ns : Nat) (soft : Bool), filterNs ≤ ns → s.ctl.phase = .run → s.ladder = 0 → s.pwr.entry = none →
      s.ctl.lossFlow = false → s.ctl.halted = false → s.otp.prog = none → s.updQuiet → (recentResets s).length < 2 →
      Yields (.rstNAssert ns soft true) s fun u => u.ctl.phase = .reset ∧ u.ctl.path = .warm ∧
        u.flag SYS_RST_CAUSE 2 = true ∧ u.flag SYS_RST_CAUSE 3 = (soft || s.flag SYS_RST_CAUSE 3 ||
          s.ctl.warmDeferred.testBit 3) ∧ u.flag SYS_RST_CAUSE 4 = true ∧
        u.fld FLT_SAFE 17 3 = (recentResets s).length + 1 ∧ u.mem = s.mem ∧ u.nv = s.nv) ∧
  (∀ (s : State) (ns : Nat) (soft monitor : Bool), ns < filterNs →
      Yields (.rstNAssert ns soft monitor) s fun u => s.sameRegs u [] ∧ s.onlyRegs u) ∧
  (∀ (s : State) (t : Requester), s.takes t SYS_RST_CTRL → s.ctl.phase = .run → s.ladder = 0 → s.pwr.entry = none →
      s.ctl.lossFlow = false → s.ctl.halted = false → s.otp.prog = none → s.flag OTP_PROG_STAT 0 = false → s.updQuiet →
      s.ctl.warmDeferred &&& 0x10 = 0 →
      Yields (.warm t) s fun u => u.ctl.phase = .reset ∧ u.ctl.path = .warm ∧ u.flag SYS_RST_CAUSE 3 = true ∧
        u.fld SEQ_STAT 16 16 = s.fld SEQ_STAT 16 16 ∧ u.mem = s.mem ∧ u.nv = s.nv ∧ u.rtc = s.rtc) ∧
  (∀ (s : State) (t : Requester), s.takes t SYS_RST_CTRL → s.flag OTP_PROG_STAT 0 = true ∨ s.upd.op ≠ .none →
      Yields (.warm t) s fun u => u.ctl.phase = s.ctl.phase ∧ u.ctl.warmDeferred = s.ctl.warmDeferred ||| 0x08 ∧
        u.flag SYS_RST_CAUSE 5 = true ∧ s.sameRegs u [SYS_RST_CAUSE]) ∧
  (∀ s : State, s.ctl.phase = .reset → s.ctl.path = .warm → s.ctl.halted = false →
      Yields .warmResetRelease s fun u => u.ctl.phase = .otp ∧ u.fld MEM_STAT 0 2 = 2 ∧ s.sameRegs u [MEM_STAT, LOG_STAT] ∧
        u.mem = s.mem ∧ u.nv = s.nv ∧ u.rtc = s.rtc) ∧
  (∀ s : State, s.ctl.warmDeferred ≠ 0 → s.stoState ≠ 1 → s.stoState ≠ 2 → s.seqState ≠ seqBlanking →
      s.seqState ≠ seqFalling → s.supplyAway = true → s.ctl.supplyBack = false →
      Yields .deferredWarmReset s fun u => u.ctl.warmDeferred = 0 ∧ u.ctl.phase = s.ctl.phase ∧
        u.flag SYS_RST_CAUSE 6 = true ∧ s.sameRegs u [SYS_RST_CAUSE]) ∧
  (∀ s : State, s.ctl.warmDeferred ≠ 0 → s.ctl.warmDeferred &&& 0x10 = 0 → s.stoState ≠ 1 → s.stoState ≠ 2 →
      s.seqState ≠ seqBlanking → s.seqState ≠ seqFalling → s.supplyAway = false → s.ctl.phase = .run → s.ladder = 0 →
      s.pwr.entry = none → s.ctl.halted = false → s.otp.prog = none → s.flag OTP_PROG_STAT 0 = false → s.updQuiet →
      Yields .deferredWarmReset s fun u => u.ctl.phase = .reset ∧ u.ctl.path = .warm ∧ u.ctl.warmDeferred = 0 ∧
        u.reg SYS_RST_CAUSE = s.reg SYS_RST_CAUSE ||| BitVec.ofNat 32 s.ctl.warmDeferred ∧ u.mem = s.mem ∧ u.nv = s.nv)

/-- A domain reset changes its own block alone and ends when the block restarts; the test access port. Drawn from R14,
R21, R15. Clauses about points that the spec leaves open or that are read by inference follow the model: log entries
9, 22, 23, 154. -/
def Obligations.DomainResets : Prop :=
  (∀ (s : State) (t : Requester) (d : ResetDomain), s.takes t SYS_RST_CTRL →
      (d = .opt → ∀ r ∈ s.tts, s.oOpen r = false) →
      Yields (.domainReset t d) s fun u => u.flag SYS_RST_CTRL (domainBit d) = true ∧
        (∀ a, blockOf a ≠ [16, 17, 18, 19, 64, 65, 80, 49].getD (domainBit d - 1) 0 → a ≠ SYS_RST_CTRL → a ≠ TXN_RESENT →
          (d = .opt → blockOf a ≠ 64 ∧ blockOf a ≠ 65) → u.reg a = s.reg a) ∧
        (d = .can0 ∨ d = .can1 ∨ d = .opt → ∀ a, blockOf a = [16, 17, 18, 19, 64, 65, 80, 49].getD (domainBit d - 1) 0 →
          u.reg a = regReset a) ∧
        (∀ p : Nat, p < 2 → domainBit d = p + 1 → (∀ e ∈ u.txn.tags, e.2.1 ≠ p) ∧
          u.fld TXN_RESENT 16 16 = min (s.fld TXN_RESENT 16 16 + s.completionsOf p) 0xFFFF ∧
          u.sto.heldReads = markGone p s.sto.heldReads ∧ u.sto.heldWrites = markGone p s.sto.heldWrites) ∧
        (d = .adc → u.adc.stopped = true ∧ ∀ n, n < 41 → u.flag (ADC_RES n) 31 = false) ∧
        u.srcs = s.srcs ∧ u.mem = s.mem ∧ u.nv = s.nv ∧ u.chan = s.chan ∧ u.rtc = s.rtc) ∧
  (∀ (s : State) (d : ResetDomain), s.flag SYS_RST_CTRL (domainBit d) = true →
      Yields (.domainResetEnd d) s fun u => u.flag SYS_RST_CTRL (domainBit d) = false ∧ u.srcs = s.srcs ∧ u.mem = s.mem ∧
        u.nv = s.nv ∧ (d = .adc → u.adc.stopped = false)) ∧
  (∀ s : State, Yields .tapReset s fun u => u.ctl.tapReset = true ∧ s.sameRegs u [] ∧ s.onlyRegs { u with ctl := s.ctl })

/-- The steps of a start. Drawn from R11, R16, R28, R33, R38, R48, R58, R59, R70, R193, R194. Clauses about points
that the spec leaves open or that are read by inference follow the model: log entries 4, 29, 35, 40, 52, 67, 92. -/
def Obligations.StartSteps : Prop :=
  (∀ s : State, s.ctl.railsOk = false → s.ctl.phase ≠ .off →
      Yields .coreRailsInRange s fun u => u.ctl.railsOk = true ∧ u.ctl.monitorsArmed = true ∧
        u.ctl.phase = (if s.ctl.phase = .rails then Phase.otp else s.ctl.phase) ∧ s.sameRegs u [SYS_DOOR_PH1]) ∧
  (∀ (s : State) (n : Nat) (out : BitVec 7), s.pwr.exiting = some n → n = 5 ∨ n = 6 → s.ctl.railsOk = false → s.updQuiet →
      Yields (.railWakeTimeout out) s fun u => u.ctl.phase = .off ∧ u.ctl.pmicOn = false ∧ u.ladder = n ∧
        u.flag SYS_DOOR_STAT 3 = (s.door.counting || s.flag SYS_DOOR_STAT 3) ∧ u.reg PWR_HOLD = s.reg PWR_HOLD ∧ u.rtc = s.rtc ∧
        u.nv.cells = s.nv.cells) ∧
  (∀ s : State, s.door.counting = true → s.reg SYS_DOOR_LINE = 0 →
      Yields .doorBudgetOver s fun u => u.flag SYS_DOOR_STAT 2 = true ∧
        (∀ i, i < 32 → i ≠ 2 → u.flag SYS_DOOR_STAT i = s.flag SYS_DOOR_STAT i) ∧ s.sameRegs u [SYS_DOOR_STAT] ∧
        s.onlyRegs u) ∧
  (∀ (s : State) (weak : BitVec 20) (selOk : BitVec 3), s.ctl.phase = .otp → s.supplyAway = false →
      Yields (.otpLoadDone weak selOk) s fun u => u.otp.force = otpForceOf s.otp.array ∧ u.otp.array = s.otp.array ∧
        u.fld OTP_STAT 16 2 = (otpLife s.otp.array).1 % 4 ∧ u.flag OTP_STAT 18 = (otpLife s.otp.array).2.2 ∧
        u.flag OTP_STAT 20 = true ∧ u.ctl.tapRule = tapRuleOf (otpLife s.otp.array).1 (otpLife s.otp.array).2.2 ∧
        (s.ctl.path = .cold → u.ctl.phase = .selfTest) ∧
        (s.ctl.path ≠ .cold → ∃ pair trial, u.ctl.phase = .verify pair false trial)) ∧
  (∀ s : State, s.ctl.phase = .selfTest → s.supplyAway = false →
      Yields (.selfTestDone true) s fun u => u.ctl.phase = .verify s.selector.active false (s.selector.state = 1) ∧
        s.sameRegs u []) ∧
  (∀ s : State, s.ctl.phase = .selfTest → s.supplyAway = false → s.faultClass 49 ≤ 3 →
      Yields (.selfTestDone false) s fun u => u.flag PWR_STAT 18 = true ∧ s.reports u 49 ∧
        u.ctl.phase = .verify s.selector.active false (s.selector.state = 1) ∧ s.sameRegs u (PWR_STAT :: faultRegs)) ∧
  (∀ (s : State) (sel0 sel1 pair : Bool) (e : LoadErr), s.ctl.phase = .verify pair false false → s.supplyAway = false →
      s.stoState ≠ 1 → s.stoState ≠ 2 → s.verifyPair pair = .inl e →
      Yields (.structureVerifyDone sel0 sel1) s fun u => u.ctl.phase = .verify (!pair) true false ∧ u.flag STR_STAT 4 = true ∧
        u.fld STR_ERR 0 8 = e.code % 256 ∧ u.fld STR_ERR 8 5 = e.sect % 32 ∧ u.flag STR_ERR 13 = pair ∧
        u.fld STR_ERR 16 16 = e.record % 65536 ∧ s.sameRegs u [STR_ERR, STR_STAT, LOG_STAT] ∧ u.mem = s.mem ∧ u.nv = s.nv) ∧
  (∀ (s : State) (sel0 sel1 pair : Bool) (r : SelRec) (e : LoadErr), s.ctl.phase = .verify pair false true →
      s.supplyAway = false → s.stoState ≠ 1 → s.stoState ≠ 2 → s.verifyPair pair = .inl e →
      (verifyFailed e pair s).nextSel (!s.selector.active) 2 0 4 = r → s.ringErases false = false → s.ringErases true = false →
      Yields (.structureVerifyDone sel0 sel1) s fun u => u.ctl.phase = .verify (!pair) true false ∧
        u.flag STR_STAT 4 = true ∧ u.fld STR_ERR 0 8 = e.code % 256 ∧
        (sel0 = true → sel1 = true → u.selector = r ∧ u.flag UPD_STAT 24 = true ∧ u.fld UPD_STAT 17 2 = 2 ∧
          u.flag UPD_STAT 16 = !s.selector.active)) ∧
  (∀ (s : State) (sel0 sel1 pair trial : Bool) (e : LoadErr), s.ctl.phase = .verify pair true trial →
      s.supplyAway = false → s.stoState ≠ 1 → s.stoState ≠ 2 → s.ctl.warmAfterExit = 0 → s.verifyPair pair = .inl e →
      Yields (.structureVerifyDone sel0 sel1) s fun u => u.ctl.phase = .run ∧ u.cfg = none ∧ u.fld STR_STAT 0 2 = 0 ∧
        u.flag STR_STAT 4 = true ∧ u.fld STR_ERR 0 8 = e.code % 256 ∧ u.ladder = 0 ∧ u.nv = s.nv) ∧
  (∀ (s : State) (sel0 sel1 pair second trial : Bool) (img : Image), s.ctl.phase = .verify pair second trial →
      s.supplyAway = false → s.stoState ≠ 1 → s.stoState ≠ 2 → s.ctl.path = .restore → s.verifyPair pair = .inr img →
      Yields (.structureVerifyDone sel0 sel1) s fun u => u.ctl.phase = .classA ∧ u.cfg = some img ∧ u.fld STR_STAT 0 2 = 2 ∧
        u.flag STR_STAT 2 = pair ∧ u.flag STR_STAT 3 = second ∧ u.fld STO_STAT 0 3 = 3)

/-- A clock check window in which every monitored clock is in range, and one in which one clock is out. Drawn from
R11, R16. Clauses about points that the spec leaves open or that are read by inference follow the model: log entry 24.
-/
def Obligations.ClockChecks : Prop :=
  (∀ (s : State) (edges : List (Option Nat)), s.ladder ≤ 2 → s.coreUp = true → (∀ k, (s.outOf k).serFault = false) →
      (∀ d ∈ smoDomains, ∀ e, edges.getD d none = some e → s.monitored d = true → edgesOk (s.domainKhz d) e = true) →
      Yields (.clockCheckWindow edges) s fun u =>
        (∀ d ∈ smoDomains, u.flag SYS_CLK_STAT d =
          if (edges.getD d none).isSome then s.monitored d else s.flag SYS_CLK_STAT d) ∧
        s.sameRegs u [SYS_CLK_STAT]) ∧
  (∀ (s : State) (edges : List (Option Nat)) (d n : Nat), s.ladder ≤ 2 → s.coreUp = true → (∀ k, (s.outOf k).serFault = false) →
      d ∈ smoDomains → d < 4 ∨ 12 ≤ d → s.faultClass d ≤ 3 → s.monitored d = true →
      edges.getD d none = some n → edgesOk (s.domainKhz d) n = false →
      (∀ x ∈ smoDomains, x ≠ d → ∀ e, edges.getD x none = some e → s.monitored x = true →
        edgesOk (s.domainKhz x) e = true) →
      Yields (.clockCheckWindow edges) s fun u => u.flag SYS_CLK_STAT d = false ∧ u.flag SYS_CLK_FAULT d = true ∧
        s.reports u d ∧ s.sameRegs u (SYS_CLK_STAT :: SYS_CLK_FAULT :: faultRegs))

/-- The OTP program operation. Drawn from R63, R64, R67, R68, R69, R76, R77. Clauses about points that the spec leaves
open or that are read by inference follow the model: log entries 9, 11, 44, 45, 46. -/
def Obligations.OtpProgramming : Prop :=
  (∀ (s : State) (t : Requester) (w : Word) (vppOk : Bool) (slot : Nat), s.takes t OTP_PROG_CTRL → w.getLsbD 8 = true →
      s.flag OTP_PROG_STAT 0 = false → bits w.toNat 16 16 = 0x4F54 → otpAdmit s (bits w.toNat 0 3) vppOk = .inr slot →
      Yields (.otpProgram t w vppOk) s fun u => u.flag OTP_PROG_STAT 0 = true ∧ u.fld OTP_PROG_STAT 16 3 = slot ∧
        (∃ p, u.otp.prog = some p ∧ p.group = bits w.toNat 0 3 ∧ p.slot = slot ∧
          p.image = s.otpBuf (otpGroup p.group).2.2 ++ leBytes 4 (crc32c (s.otpBuf (otpGroup p.group).2.2)) ++
            leBytes 4 0xC3A55A3C) ∧
        u.otp.array = s.otp.array ∧ s.sameRegs u [OTP_PROG_CTRL, OTP_PROG_STAT] ∧
        s.onlyRegs { u with otp := s.otp }) ∧
  (∀ (s : State) (t : Requester) (w : Word) (vppOk : Bool) (code : Nat), s.takes t OTP_PROG_CTRL → w.getLsbD 8 = true →
      s.flag OTP_PROG_STAT 0 = false → bits w.toNat 16 16 = 0x4F54 → otpAdmit s (bits w.toNat 0 3) vppOk = .inl code →
      Yields (.otpProgram t w vppOk) s fun u => u.fld OTP_PROG_STAT 8 8 = code ∧ u.flag OTP_PROG_STAT 0 = false ∧
        s.sameRegs u [OTP_PROG_CTRL, OTP_PROG_STAT] ∧ s.onlyRegs u) ∧
  (∀ (s : State) (t : Requester) (w : Word) (vppOk : Bool), s.takes t OTP_PROG_CTRL → w.getLsbD 8 = true →
      s.flag OTP_PROG_STAT 0 = false → bits w.toNat 16 16 ≠ 0x4F54 →
      Yields (.otpProgram t w vppOk) s fun u => u.fld OTP_PROG_STAT 8 8 = 0x0A ∧ u.flag OTP_PROG_STAT 0 = false ∧
        s.sameRegs u [OTP_PROG_CTRL, OTP_PROG_STAT] ∧ s.onlyRegs u) ∧
  (∀ (s : State) (t : Requester) (w : Word) (vppOk : Bool), s.takes t OTP_PROG_CTRL → w.getLsbD 8 = true →
      s.flag OTP_PROG_STAT 0 = true →
      Yields (.otpProgram t w vppOk) s fun u => s.sameRegs u [] ∧ s.onlyRegs u) ∧
  (∀ (s : State) (p : OtpProg), s.otp.prog = some p → s.ctl.warmDeferred = 0 →
      Yields (.otpProgramDone none) s fun u => u.otp.prog = none ∧ u.flag OTP_PROG_STAT 0 = false ∧
        u.fld OTP_PROG_STAT 8 8 = 0 ∧ u.otp.force = s.otp.force ∧
        (∀ i, i < p.image.length → let a := (otpGroup p.group).1 + p.slot * (otpGroup p.group).2.1 + i;
          tget 0 u.otp.array a = tget 0 s.otp.array a ||| p.image.getD i 0) ∧
        (∀ a, a < (otpGroup p.group).1 + p.slot * (otpGroup p.group).2.1 ∨
            (otpGroup p.group).1 + p.slot * (otpGroup p.group).2.1 + p.image.length ≤ a →
          tget 0 u.otp.array a = tget 0 s.otp.array a) ∧ s.sameRegs u [OTP_PROG_STAT]) ∧
  (∀ (s : State) (p : OtpProg) (k : Nat), s.otp.prog = some p → s.ctl.warmDeferred = 0 → k < p.image.length / 4 →
      Yields (.otpProgramDone (some k)) s fun u => u.otp.prog = none ∧ u.flag OTP_PROG_STAT 0 = false ∧
        u.fld OTP_PROG_STAT 8 8 = 0x0B ∧ (∃ i, i < p.image.length ∧
          tget 0 u.otp.array ((otpGroup p.group).1 + p.slot * (otpGroup p.group).2.1 + i) ≠ 0) ∧
        s.sameRegs u [OTP_PROG_STAT])

/-- The commands of Table 5-1, each in the states that accept it. Drawn from R82, R83, R84, R85, R86, R90, R91.
Clauses about points that the spec leaves open or that are read by inference follow the model: log entries 9, 11, 53.
-/
def Obligations.UpdateCommands : Prop :=
  (∀ (s : State) (t : Requester) (w : Word), s.takes t UPD_CTRL → w.toNat % 32 = 1 → bits w.toNat 24 8 = 0x5A →
      (w.getLsbD 10 = true → w.getLsbD 9 = true) → s.updState = upIdle ∨ s.updState = upVerified ∨ s.updState = upFailed →
      s.selector.state ≠ 1 → s.faultClass 31 ≤ 3 →
      Yields (.updOpen t w) s fun u => u.updState = (if bits w.toNat 8 2 = 0 then upOpen else upErasing) ∧
        u.fld UPD_STAT 8 8 = 0 ∧ u.reg UPD_WRCNT = 0 ∧ u.upd.parts = BitVec.ofNat 2 (bits w.toNat 8 2) ∧
        u.upd.cloned = w.getLsbD 10 ∧ u.upd.written = [] ∧ u.upd.op = (if bits w.toNat 8 2 = 0 then UpdOp.none else UpdOp.erase)) ∧
  (∀ (s : State) (t : Requester) (w : Word), s.takes t UPD_CTRL → w.toNat % 32 = 2 →
      s.updState ≠ upErasing → s.updState ≠ upVerifying → s.updState ≠ upWriting →
      Yields (.updVerify t w) s fun u => u.updState = upVerifying ∧ u.fld UPD_STAT 8 8 = 0 ∧ u.upd.op = .verify false ∧
        u.upd.written = s.upd.written) ∧
  (∀ (s : State) (t : Requester) (w : Word), s.takes t UPD_CTRL → w.toNat % 32 = 4 → bits w.toNat 24 8 = 0x5A →
      s.updState = upVerified → s.selector.gen < 0xFFFFFFFF →
      Yields (.updActivate t w) s fun u => u.updState = upWriting ∧ u.fld UPD_STAT 8 8 = 0 ∧
        (∃ r, u.upd.op = .write r ∧ r.gen = s.selector.gen + 1 ∧ r.active = s.inactive ∧
          r.state = (if bits w.toNat 16 4 = 0 then 0 else 1) ∧ r.bootsLeft = bits w.toNat 16 4 ∧ r.cause = 1) ∧
        s.sameRegs u [UPD_CTRL, UPD_STAT, NVH_STAT] ∧ s.onlyRegs { u with upd := s.upd, nv := s.nv }) ∧
  (∀ (s : State) (t : Requester) (w : Word), s.takes t UPD_CTRL → w.toNat % 32 = 8 → bits w.toNat 24 8 = 0x5A →
      s.updState ≠ upErasing → s.updState ≠ upVerifying → s.updState ≠ upWriting → s.selector.state = 1 →
      s.selector.gen < 0xFFFFFFFF →
      Yields (.updConfirm t w) s fun u => u.updState = upWriting ∧
        (∃ r, u.upd.op = .write r ∧ r.gen = s.selector.gen + 1 ∧ r.active = s.running ∧ r.state = 0 ∧ r.bootsLeft = 0 ∧
          r.cause = 3) ∧ s.sameRegs u [UPD_CTRL, UPD_STAT, NVH_STAT] ∧ s.onlyRegs { u with upd := s.upd, nv := s.nv }) ∧
  (∀ (s : State) (t : Requester) (w : Word), s.takes t UPD_CTRL → w.toNat % 32 = 16 → bits w.toNat 24 8 = 0x5A →
      s.updState ≠ upErasing → s.updState ≠ upVerifying → s.updState ≠ upWriting → s.selector.gen < 0xFFFFFFFF →
      Yields (.updRollback t w) s fun u =>
        (s.selector.state = 1 → u.updState = upWriting ∧ ∃ r, u.upd.op = .write r ∧ r.gen = s.selector.gen + 1 ∧
          r.active = s.inactive ∧ r.state = 2 ∧ r.bootsLeft = 0 ∧ r.cause = 5) ∧
        (s.selector.state ≠ 1 → u.updState = upVerifying ∧ u.upd.op = .verify true)) ∧
  (∀ (s : State) (t : Requester) (w : Word), s.takes t UPD_CTRL → w.toNat % 32 ∈ [1, 4, 8, 16] → bits w.toNat 24 8 ≠ 0x5A →
      ∀ c ∈ [Instr.updOpen t w, .updActivate t w, .updConfirm t w, .updRollback t w],
        Yields c s fun u => u.fld UPD_STAT 8 8 = 0x22 ∧ u.updState = s.updState ∧
          s.sameRegs u [UPD_CTRL, UPD_STAT] ∧ s.onlyRegs u)

/-- How the operations of an update end, and the writes of its aperture. Drawn from R81, R83, R85, R86, R88, R91,
R100. Clauses about points that the spec leaves open or that are read by inference follow the model: log entries 54,
55, 56, 57, 87. -/
def Obligations.UpdateOperations : Prop :=
  (∀ (s : State) (ok : Bool), s.upd.op = .erase → s.ctl.warmDeferred = 0 → s.faultClass 30 ≤ 3 → s.faultClass 31 ≤ 3 →
      Yields (.updateEraseDone ok) s fun u => u.upd.op = .none ∧ (s.upd.cloned = true → ok = false → u.updState = upFailed) ∧
        (u.updState = upOpen ∧ u.fld UPD_STAT 8 8 = 0 ∧
            (∀ l ∈ partBlocks s.inactive s.upd.parts, (u.block l).state = .mapped) ∨
          u.updState = upFailed ∧ u.fld UPD_STAT 8 8 = 0x26 ∧ (s.upd.cloned = true ∧ ok = false ∨
            ∃ l ∈ partBlocks s.inactive s.upd.parts, (u.block l).state = .bad))) ∧
  (∀ (s : State) (addr : Word) (data : List Byte), s.servesRegs = true → s.apertureOpen addr.toNat data.length = true →
      Yields (.apertureWrite 0 addr data true) s fun u => u.lastStatus = stOk ∧ u.updState = upOpen ∧
        u.fld UPD_WRCNT 0 22 = min (s.fld UPD_WRCNT 0 22 + data.length) 0x3FFFFF ∧
        u.upd.written = s.upd.written ++ [(addr.toNat - 0x90000000, addr.toNat - 0x90000000 + data.length)] ∧
        (s.apertureOffset addr.toNat % blockSize + data.length ≤ blockSize →
          ∀ i, i < data.length → let o := s.apertureOffset addr.toNat + i;
            tget 0 u.nv.cells (s.physAddr (o / blockSize) o) = data.getD i 0) ∧
        s.sameRegs u [UPD_WRCNT, NVH_STAT]) ∧
  (∀ (s : State) (addr : Word) (data : List Byte), s.servesRegs = true → s.apertureOpen addr.toNat data.length = true →
      Yields (.apertureWrite 0 addr data false) s fun u => u.updState = upFailed ∧ u.fld UPD_STAT 8 8 = 0x26 ∧
        s.sameRegs u [UPD_WRCNT, UPD_STAT, NVH_STAT]) ∧
  (∀ (s : State) (t : Tenant) (addr : Word) (data : List Byte) (ok : Bool), s.servesRegs = true →
      t ≠ 0 ∨ s.apertureOpen addr.toNat data.length = false →
      Yields (.apertureWrite t addr data ok) s fun u => u.lastStatus = stPermission ∧ s.sameRegs u [] ∧ s.onlyRegs u) ∧
  (∀ (s : State) (t : Tenant) (addr : Word) (data : List Byte) (ok : Bool), s.holdsRegs = true →
      Yields (.apertureWrite t addr data ok) s fun u => u.txn.held = s.txn.held ++ [.aperture t addr data ok] ∧
        u.nv = s.nv ∧ u.upd = s.upd ∧ s.sameRegs u []) ∧
  (∀ (s : State) (rb : Bool) (e : LoadErr), s.upd.op = .verify rb → s.ctl.warmDeferred = 0 →
      s.verifyPair s.inactive = .inl e →
      Yields .verifyDone s fun u => u.upd.op = .none ∧ u.updState = (if rb then upIdle else upFailed) ∧
        u.fld UPD_STAT 8 8 = (if rb then 0x27 else 0x28) ∧ u.fld UPD_ERR 0 8 = e.code % 256 ∧
        u.fld UPD_ERR 8 5 = e.sect % 32 ∧ u.flag UPD_ERR 13 = s.inactive ∧ u.fld UPD_ERR 16 16 = e.record % 65536 ∧
        s.sameRegs u [UPD_ERR, UPD_STAT] ∧ s.onlyRegs { u with upd := s.upd }) ∧
  (∀ (s : State) (img : Image), s.upd.op = .verify false → s.ctl.warmDeferred = 0 →
      s.verifyPair s.inactive = .inr img →
      Yields .verifyDone s fun u => u.upd.op = .none ∧ u.updState = upVerified ∧ u.fld UPD_STAT 8 8 = 0 ∧
        u.reg UPD_VER = BitVec.ofNat 32 img.version ∧ s.sameRegs u [UPD_VER, UPD_STAT] ∧
        s.onlyRegs { u with upd := s.upd }) ∧
  (∀ (s : State) (r : SelRec), s.upd.op = .write r → s.ctl.warmDeferred = 0 → s.nv.lost = 0 →
      s.ringErases false = false → s.ringErases true = false →
      Yields (.selectorWriteDone true true) s fun u => u.upd.op = .none ∧ u.updState = upIdle ∧ u.fld UPD_STAT 8 8 = 0 ∧
        u.upd.ring0 = s.upd.ring0 ++ [{ r with ok := true, junk := 0 }] ∧
        u.upd.ring1 = s.upd.ring1 ++ [{ r with ok := true, junk := 0 }] ∧ s.sameRegs u [UPD_STAT, UPD_SEL_GEN] ∧
        s.onlyRegs { u with upd := s.upd, freeCount := s.freeCount }) ∧
  (∀ (s : State) (r : SelRec) (ok1 : Bool), s.upd.op = .write r → s.ctl.warmDeferred = 0 → s.nv.lost = 0 →
      s.ringErases false = false →
      Yields (.selectorWriteDone false ok1) s fun u => u.upd.op = .none ∧ u.updState = upFailed ∧
        u.fld UPD_STAT 8 8 = 0x26 ∧ u.upd.ring1 = s.upd.ring1 ∧ u.selector = s.selector)

/-- A register write and its outcomes. Drawn from R2, R3, R4, R51, R55, R60, R103, R105, R180, Table 15-3. Clauses
about points that the spec leaves open or that are read by inference follow the model: log entries 8, 12, 32, 38, 151.
-/
def Obligations.RegisterWrites : Prop :=
  (∀ (s : State) (t : Requester) (a w same : Word), s.holdsFor t = false → s.servesFor t = true →
      regMapped a.toNat = false →
      Yields (.registerWrite t a w same) s fun u => u.lastStatus = stDecode ∧ s.sameRegs u [] ∧ s.onlyRegs u) ∧
  (∀ (s : State) (t : Requester) (a w same : Word), s.holdsFor t = false → s.servesFor t = true →
      regMapped a.toNat = true → a.toNat % 4 ≠ 0 →
      Yields (.registerWrite t a w same) s fun u => u.lastStatus = stFormat ∧ s.sameRegs u [] ∧ s.onlyRegs u) ∧
  (∀ (s : State) (t : Requester) (a w same : Word), s.holdsFor t = false → s.servesFor t = true → regMapped a.toNat = true →
      a.toNat % 4 = 0 → (t = 16 ∧ s.sbpWrites = false) ∨ s.mayWrite (whoOf t) a.toNat = false →
      Yields (.registerWrite t a w same) s fun u => u.lastStatus = stPermission ∧ s.sameRegs u [] ∧ s.onlyRegs u) ∧
  (∀ (s : State) (t : Requester) (a w same : Word), s.holdsFor t = true →
      Yields (.registerWrite t a w same) s fun u => u.txn.held = s.txn.held ++ [.reg t a w] ∧ u.lastStatus = s.lastStatus ∧
        s.sameRegs u []) ∧
  (∀ (s : State) (t : Requester) (a w same : Word),
      a.toNat ∈ [RTC_IEN, TT_IEN, OPT_IEN, LED_IEN, ADC_IEN, BKL_IEN, FLK_IEN, FLT_IEN, ARB_IEN] ++
        (List.range 4).map CH_IEN ++ (List.range 4).map OUT_IEN ++ (List.range 2).map CAN_IEN → s.takes t a.toNat →
      Yields (.registerWrite t a w same) s fun u => u.lastStatus = stOk ∧
        (∀ f ∈ regFields a.toNat, u.fld a.toNat f.lsb f.width = bits w.toNat f.lsb f.width) ∧
        s.sameRegs u [a.toNat] ∧ s.onlyRegs u) ∧
  (∀ (s : State) (t : Requester) (a w same : Word),
      a.toNat ∈ [SYS_RST_CAUSE, SYS_CLK_FAULT, SUP_FAULT, SEQ_TOUT, TT_ISTAT, OPT_ISTAT, LED_OPEN, LED_SHORT, ADC_ISTAT,
        BKL_ISTAT, FLK_ISTAT, FLT_ISTAT, ARB_ISTAT] → s.takes t a.toNat →
      Yields (.registerWrite t a w same) s fun u => u.lastStatus = stOk ∧
        (∀ f ∈ regFields a.toNat, u.fld a.toNat f.lsb f.width =
          s.fld a.toNat f.lsb f.width &&& (2 ^ 32 - 1 - bits (w &&& ~~~same).toNat f.lsb f.width)) ∧
        s.sameRegs u [a.toNat] ∧ s.onlyRegs u) ∧
  (∀ (s : State) (t : Requester) (w same : Word) (b : BoundRec), s.takes t STO_PACE → boundOf s.bounds STO_PACE 0 = some b →
      bit b.writers (whoOf t) = true → b.min ≤ bits w.toNat 0 16 → bits w.toNat 0 16 ≤ b.max →
      Yields (.registerWrite t (BitVec.ofNat 32 STO_PACE) w same) s fun u => u.lastStatus = stOk ∧
        u.fld STO_PACE 0 16 = bits w.toNat 0 16 ∧ s.sameRegs u [STO_PACE] ∧ s.onlyRegs u) ∧
  (∀ (s : State) (t : Requester) (w same : Word), s.takes t STO_PACE → s.fld STO_PACE 0 16 ≠ bits w.toNat 0 16 →
      (boundOf s.bounds STO_PACE 0 = none ∨ ∃ b, boundOf s.bounds STO_PACE 0 = some b ∧
        (bit b.writers (whoOf t) = false ∨ bits w.toNat 0 16 < b.min ∨ b.max < bits w.toNat 0 16)) →
      Yields (.registerWrite t (BitVec.ofNat 32 STO_PACE) w same) s fun u => u.lastStatus = stBound ∧
        u.reg STO_PACE = s.reg STO_PACE ∧ u.reg STR_BERR_ADDR = BitVec.ofNat 32 STO_PACE ∧
        u.fld STR_BERR_INFO 0 4 = whoOf t ∧ u.flag STR_STAT 5 = true ∧
        s.sameRegs u [STR_BERR_ADDR, STR_BERR_INFO, STR_STAT] ∧ s.onlyRegs u) ∧
  (∀ (s : State) (t : Requester) (w same : Word), s.takes t STO_PACE → s.fld STO_PACE 0 16 = bits w.toNat 0 16 →
      Yields (.registerWrite t (BitVec.ofNat 32 STO_PACE) w same) s fun u => u.lastStatus = stOk ∧
        u.reg STO_PACE = s.reg STO_PACE ∧ s.sameRegs u [] ∧ s.onlyRegs u)

/-- The bound query and the STALE and LOST flags of regions. Drawn from R51, R115. Clauses about points that the spec
leaves open or that are read by inference follow the model: log entry 9. -/
def Obligations.RegionFlagsAndBounds : Prop :=
  (∀ (s : State) (t : Requester) (lost : Bool) (k : Fin 8) (w : Word),
      s.takes t ((if lost then MEM_LOST else MEM_STALE) k) →
      let a := (if lost then MEM_LOST else MEM_STALE) k
      Yields (.staleFlagClear t lost k w) s fun u =>
        (∀ j, j < 32 → u.flag a j = (s.flag a j && !(w.getLsbD j &&
          (whoOf t == 0 || (s.regions[32 * k.val + j]?).any fun r => r.owner == whoOf t)))) ∧
        s.sameRegs u [a] ∧ s.onlyRegs u) ∧
  (∀ (s : State) (t : Requester) (b : Bool) (w : Word), s.takes t (if b then STR_BQ_BIT else STR_BQ_ADDR) →
      let addr := if b then (s.reg STR_BQ_ADDR).toNat else w.toNat
      let i := if b then w.toNat % 32 else s.fld STR_BQ_BIT 0 5
      let q := s.bounds.find? fun r => r.addr = addr ∧ r.lsb ≤ i ∧ i < r.lsb + r.width
      Yields (.boundQuery t b w) s fun u => (u.reg STR_BQ_ADDR).toNat = addr ∧ u.fld STR_BQ_BIT 0 5 = i ∧
        (q = none → u.reg STR_BQ_RES = 0 ∧ u.reg STR_BQ_MIN = 0 ∧ u.reg STR_BQ_MAX = 0) ∧
        (∀ r, q = some r → u.flag STR_BQ_RES 0 = true ∧ u.fld STR_BQ_RES 3 5 = r.lsb % 32 ∧
          u.fld STR_BQ_RES 8 6 = r.width % 64 ∧ u.fld STR_BQ_RES 16 16 = r.writers % 65536 ∧
          u.reg STR_BQ_MIN = BitVec.ofNat 32 r.min ∧ u.reg STR_BQ_MAX = BitVec.ofNat 32 r.max) ∧
        s.sameRegs u [STR_BQ_ADDR, STR_BQ_BIT, STR_BQ_RES, STR_BQ_MIN, STR_BQ_MAX] ∧ s.onlyRegs u)

/-- Interrupt routes and enables, EOI, and the message interrupt that follows a rise while the core has power. Drawn
from R324, R325, R326, R328, R334, R239. Clauses about points that the spec leaves open or that are read by inference
follow the model: log entries 9, 155. -/
def Obligations.Interrupts : Prop :=
  (∀ (s : State) (t : Requester) (x : Tenant) (w : Word), s.takes t (INT_CTL x) → w.getLsbD 0 = true →
      Yields (.eoi t x w) s fun u =>
        (s.signals = true → s.summary x = true ∧ s.msgEnabled x = true → u.txn.armed.getLsbD x = false ∧ u.msgWaits x = true) ∧
        (s.summary x = false ∨ s.msgEnabled x = false → u.txn.armed.getLsbD x = true) ∧ s.sameRegs u [] ∧ s.onlyRegs u) ∧
  (∀ (s : State) (t : Requester) (x : Tenant) (w : Word), s.takes t (INT_EN x) →
      Yields (.intEnable t x w) s fun u => u.reg (INT_EN x) = w ∧ (s.signals = true → u.txn.lastS = u.summaries) ∧
        (s.signals = true → u.summary x = true → s.txn.lastS.getLsbD x = false → s.txn.armed.getLsbD x = true → s.msgEnabled x = true →
          u.msgWaits x = true ∧ u.txn.armed.getLsbD x = false) ∧
        s.sameRegs u [INT_EN x] ∧ s.onlyRegs u) ∧
  (∀ (s : State) (t : Requester) (k : Fin 4) (w : Word), s.takes t (INT_ROUTE k) →
      Yields (.intRoute t k w) s fun u =>
        (∀ n, 8 * k.val ≤ n → n < 8 * k.val + 8 → n ≠ 0 → u.route n = bits w.toNat (4 * (n % 8)) 4) ∧
        (∀ n, n < 32 → n / 8 ≠ k.val → u.route n = s.route n) ∧ (s.signals = true → u.txn.lastS = u.summaries) ∧
        s.sameRegs u [INT_ROUTE k] ∧ s.onlyRegs u)

/-- An accepted request to working memory is executed and its completions queued. Drawn from R107, R315, R317, R318,
R319, R320. Clauses about points that the spec leaves open or that are read by inference follow the model: log entries
63, 65, 146, 149. -/
def Obligations.MemoryRequests : Prop :=
  (∀ (s : State) (p : HostPort) (q : ReqPacket), s.accepts p tyRd q → s.memQuiet →
      spaceOf (reqOf q.payload).addr (reqOf q.payload).count = .memory → 0 < (reqOf q.payload).count →
      Yields (.readRequest p q) s fun u =>
        (u.lnkOf p).qRsp = (s.lnkOf p).qRsp ++ readPackets q.tenant (reqOf q.payload).tag
          (s.wmBytes (reqOf q.payload).addr (reqOf q.payload).count) (fun _ => false) ∧
        tfind u.txn.tags (reqOf q.payload).tag = some (p.val, q.tenant.val) ∧ u.mem = s.mem ∧ u.nv = s.nv ∧
        s.sameRegs u [TEN_HELD q.tenant]) ∧
  (∀ (s : State) (p : HostPort) (q : ReqPacket), s.accepts p tyWr q → s.memQuiet →
      spaceOf (reqOf q.payload).addr (reqOf q.payload).count = .memory → 0 < (reqOf q.payload).count →
      Yields (.writeRequest p q) s fun u =>
        (∀ i, i < (reqOf q.payload).count → u.wmByte ((reqOf q.payload).addr + i) = (q.payload.drop 8).getD i 0) ∧
        (∀ a, a < (reqOf q.payload).addr ∨ (reqOf q.payload).addr + (reqOf q.payload).count ≤ a → u.wmByte a = s.wmByte a) ∧
        (u.lnkOf p).qRsp = (s.lnkOf p).qRsp ++ [cplPacket q.tenant (reqOf q.payload).tag stOk true] ∧
        tfind u.txn.tags (reqOf q.payload).tag = some (p.val, q.tenant.val) ∧ u.nv = s.nv ∧
        s.sameRegs u [TEN_HELD q.tenant]) ∧
  (∀ (s : State) (p : HostPort) (q : ReqPacket), s.accepts p tyAt q → s.memQuiet →
      spaceOf (reqOf q.payload).addr (reqOf q.payload).size = .memory → 0 < (reqOf q.payload).size →
      let r := reqOf q.payload
      let old := ofLe (s.wmBytes r.addr r.size)
      Yields (.atomicRequest p q) s fun u =>
        ofLe (u.wmBytes r.addr r.size) = atomicResult r.op r.size old r.opa r.opb ∧
        (∀ a, a < r.addr ∨ r.addr + r.size ≤ a → u.wmByte a = s.wmByte a) ∧
        (u.lnkOf p).qRsp = (s.lnkOf p).qRsp ++ [cpldPacket q.tenant r.tag stOk true 0 (leBytes r.size old)] ∧
        tfind u.txn.tags r.tag = some (p.val, q.tenant.val) ∧ u.nv = s.nv ∧ s.sameRegs u [TEN_HELD q.tenant])

/-- Requests that are held, refused with an error completion, or dropped. Drawn from R35, R180, R314, R321, R322.
Clauses about points that the spec leaves open or that are read by inference follow the model: log entries 32, 106,
146, 151, 152. -/
def Obligations.RequestsTurnedAway : Prop :=
  (∀ (s : State) (p : HostPort) (q : ReqPacket), ∀ c ∈ [(tyRd, Instr.readRequest p q), (tyWr, .writeRequest p q),
      (tyAt, .atomicRequest p q)], s.ctl.phase = .run →
      s.away = true ∨ (Held.packet p c.1 q).behind s.txn.held = true → requestShape c.1 q = true →
      Yields c.2 s fun u => u.txn.held = s.txn.held ++ [.packet p c.1 q] ∧ u.mem = s.mem ∧ u.lnk = s.lnk ∧
        s.sameRegs u []) ∧
  (∀ (s : State) (p : HostPort) (q : ReqPacket) (st : Nat), ∀ c ∈ [(tyRd, Instr.readRequest p q), (tyWr, .writeRequest p q),
      (tyAt, .atomicRequest p q)], s.judges p c.1 q → s.judge p c.1 q = some st → st ≠ 15 → s.lnkState p = lnUp →
      Yields c.2 s fun u =>
        (u.lnkOf p).qRsp = (s.lnkOf p).qRsp ++
          [cplPacket q.tenant (reqOf q.payload).tag (BitVec.ofNat 4 st) false] ∧
        u.flag TXN_STAT 16 = true ∧ u.fld TXN_CNT 0 16 = min (s.fld TXN_CNT 0 16 + 1) 0xFFFF ∧
        u.fld (TEN_ERR q.tenant) 0 16 = min (s.fld (TEN_ERR q.tenant) 0 16 + 1) 0xFFFF ∧
        u.fld TXN_ERR_LAST 0 4 = st % 16 ∧ u.fld TXN_ERR_LAST 4 4 = q.tenant ∧ u.fld TXN_ERR_LAST 8 2 = p ∧
        u.reg TXN_ERR_ADDR = BitVec.ofNat 32 (reqOf q.payload).addr ∧ u.txn.tags = s.txn.tags ∧ u.mem = s.mem ∧
        s.sameRegs u [TXN_CNT, TEN_ERR q.tenant, TXN_STAT, TXN_ERR_LAST, TXN_ERR_ADDR]) ∧
  (∀ (s : State) (p : HostPort) (q : ReqPacket), ∀ c ∈ [(tyRd, Instr.readRequest p q), (tyWr, .writeRequest p q),
      (tyAt, .atomicRequest p q)], s.judges p c.1 q → s.judge p c.1 q = some 15 → s.faultClass (58 + p) ≤ 3 →
      Yields c.2 s fun u => u.flag TXN_STAT 16 = true ∧
        u.fld TXN_CNT 16 16 = min (s.fld TXN_CNT 16 16 + 1) 0xFFFF ∧ u.fld TXN_ERR_LAST 0 4 = 15 ∧
        u.fld TXN_ERR_LAST 8 2 = p ∧ s.reports u (58 + p) ∧ u.txn.tags = s.txn.tags ∧ u.mem = s.mem ∧
        (u.lnkOf p).qRsp = (s.lnkOf p).qRsp ∧
        s.sameRegs u (TXN_CNT :: TXN_STAT :: TXN_ERR_LAST :: TXN_ERR_ADDR :: faultRegs))

/-- What was held is served once nothing holds it any more. Drawn from R35, R55, R122, R136, R180. Clauses about
points that the spec leaves open or that are read by inference follow the model: log entries 32, 147, 148. -/
def Obligations.HeldRequests : Prop :=
  (∀ (s : State) (t : Requester) (w : Word), s.txn.held = [.reg t (BitVec.ofNat 32 MEM_ECC_CTRL) w] →
      s.takes t MEM_ECC_CTRL → s.sbp.wait = none → w.getLsbD 0 = true →
      Yields .heldRequestRelease s fun u => u.txn.held = [] ∧ u.reg MEM_ECC_CNT = 0 ∧ u.lastStatus = stOk ∧
        s.sameRegs u [MEM_ECC_CNT]) ∧
  (∀ s : State, (∀ h ∈ s.txn.held, s.staysHeld h = true) → s.sbp.wait = none →
      Yields .heldRequestRelease s fun u => u.txn.held = s.txn.held ∧ s.sameRegs u [] ∧ s.onlyRegs u) ∧
  (∀ (s : State) (p : HostPort) (q : ReqPacket), s.txn.held = [.packet p tyRd q] → s.sbp.wait = none →
      State.accepts { s with txn := { s.txn with held := [] } } p tyRd q → s.memQuiet →
      spaceOf (reqOf q.payload).addr (reqOf q.payload).count = .memory → 0 < (reqOf q.payload).count →
      Yields .heldRequestRelease s fun u => u.txn.held = [] ∧
        (u.lnkOf p).qRsp = (s.lnkOf p).qRsp ++ readPackets q.tenant (reqOf q.payload).tag
          (s.wmBytes (reqOf q.payload).addr (reqOf q.payload).count) (fun _ => false) ∧ u.mem = s.mem ∧
        s.sameRegs u [TEN_HELD q.tenant]) ∧
  (∀ (s : State) (p : HostPort) (q : ReqPacket) (gone : Bool), s.nvHeld = false → s.sto.heldWrites = [] →
      s.sto.heldReads = [{ port := p, type := tyRd, req := q, again := false, gone := gone }] →
      spaceOf (reqOf q.payload).addr (reqOf q.payload).count = .nv → 0 < (reqOf q.payload).count → s.lnkState p = lnUp →
      (s.block (((reqOf q.payload).addr - 0x40000000) / blockSize)).state ≠ .preerasing →
      let answer := readPackets q.tenant (reqOf q.payload).tag
        ((List.range (reqOf q.payload).count).map fun i => s.nvByte ((reqOf q.payload).addr - 0x40000000 + i))
        (fun i => s.nvPoisoned ((reqOf q.payload).addr - 0x40000000 + i))
      Yields .nvReadRelease s fun u => u.sto.heldReads = [] ∧
        (u.lnkOf p).qRsp = (s.lnkOf p).qRsp ++ (if gone then [] else answer) ∧
        (gone = true → u.fld TXN_RESENT 16 16 = min (s.fld TXN_RESENT 16 16 + answer.length) 0xFFFF) ∧
        u.mem = s.mem ∧ u.nv = s.nv) ∧
  (∀ s : State, s.nvHeld = true → Yields .nvReadRelease s fun u => u.sto = s.sto ∧ s.sameRegs u [] ∧ s.onlyRegs u) ∧
  (∀ (s : State) (p : HostPort) (q : ReqPacket),
      s.sto.heldWrites = [{ port := p, type := tyWr, req := q, again := false, gone := false }] →
      formatOk tyWr q.payload = true → s.mem.fill = [] → s.mem.poison = [] → s.mem.weak = [] → s.stoState ≠ 4 →
      s.lnkState p = lnUp →
      Yields .heldWriteApply s fun u => u.sto.heldWrites = [] ∧
        (∀ i, i < (reqOf q.payload).count → u.wmByte ((reqOf q.payload).addr + i) = (q.payload.drop 8).getD i 0) ∧
        (∀ a, a < (reqOf q.payload).addr ∨ (reqOf q.payload).addr + (reqOf q.payload).count ≤ a → u.wmByte a = s.wmByte a) ∧
        (u.lnkOf p).qRsp = (s.lnkOf p).qRsp ++ [cplPacket q.tenant (reqOf q.payload).tag stOk true] ∧ s.sameRegs u [])

/-- The power-loss flow and the steps of a store. Drawn from R129, R130, R131, R132, R135, R138, R143, R147, R148,
R149, R152. Clauses about points that the spec leaves open or that are read by inference follow the model: log entries
68, 69, 70, 71, 72, 73, 75, 78, 79. -/
def Obligations.Stores : Prop :=
  (∀ (s : State) (vin vhold : Code), vin.toNat < s.fld STO_DET 0 10 → s.mayTrip = true → s.ladder ≠ 4 → s.ladder ≠ 5 →
      (s.ctl.phase ≠ .reset ∨ s.ctl.path = .warm ∨ s.pwr.exiting.isSome = true) →
      Yields (.supplyTrip vin vhold) s fun u => u.ctl.lossFlow = true ∧ u.ctl.supplyBack = false ∧
        u.flag STO_DET 31 = true ∧ u.pwr.entry = none ∧ u.otp.prog = none ∧ u.upd.op = .none ∧
        (s.stoState = 1 ∨ s.stoState = 2 → u.sto.meterNext = true ∧ u.sto.gen = s.sto.gen ∧
          u.sto.flags = if s.sto.cause = 1 then s.sto.flags else s.sto.flags ||| 8) ∧
        (s.stoState ≠ 1 → s.stoState ≠ 2 → u.sto.cause = 1 ∧ u.sto.metered = true ∧ u.sto.vTrip = vhold.toNat)) ∧
  (∀ (s : State) (vin vhold : Code), vin.toNat < s.fld STO_DET 0 10 → s.mayTrip = true →
      s.ladder = 4 ∨ s.ladder = 5 ∨ (s.ctl.phase = .reset ∧ s.ctl.path ≠ .warm ∧ s.pwr.exiting = none) →
      Yields (.supplyTrip vin vhold) s fun u => (u.log.recs.getLast?.map (·.type)) = some 1 ∧ u.ctl.lossFlow = s.ctl.lossFlow ∧
        u.sto = s.sto ∧ u.mem = s.mem ∧ u.nv = s.nv ∧ s.sameRegs u [STO_DET, LOG_STAT]) ∧
  (∀ (s : State) (vin vhold : Code), s.fld STO_DET 0 10 + 4 ≤ vin.toNat →
      Yields (.supplyTrip vin vhold) s fun u => s.sameRegs u [] ∧ s.onlyRegs u) ∧
  (∀ (s : State) (time i : Nat) (vhold : Code) (r : RegionRec), s.stoState = 1 → s.sto.cur = some i →
      s.regions[i]? = some r →
      Yields (.storeRegionDone time vhold) s fun u => s.sto.entries ++ [entryOf r 1] <+: u.sto.entries ∧
        u.fld STO_SNS 0 10 = vhold.toNat ∧ (s.sto.todo = [] → u.stoState = 2 ∧ u.sto.cur = none ∧ u.nv = s.nv ∧
          u.mem = s.mem ∧ s.sameRegs u [STO_SNS, STO_EST, STO_STAT])) ∧
  (∀ (s : State) (time : Nat) (vhold : Code), s.stoState = 1 → s.sto.metered = false →
      Yields (.energyEstimate time vhold) s fun u => u.fld STO_SNS 0 10 = vhold.toNat ∧
        u.fld STO_SNS 16 10 = s.fld STO_SNS 16 10 ∧ u.sto.time = max time s.sto.time ∧ u.stoState = 1 ∧ u.sto.cur = s.sto.cur ∧
        s.sameRegs u [STO_SNS, STO_EST]) ∧
  (∀ (s : State) (time : Nat) (vhold : Code), s.stoState = 1 → s.sto.metered = true →
      State.shortOfRest (takeSample (max time s.sto.time) vhold.toNat s) = true →
      Yields (.energyEstimate time vhold) s fun u => u.stoState = 2 ∧ u.sto.outcome = 3 ∧ u.flag STO_STAT 12 = true ∧
        u.sto.cur = none ∧ u.sto.todo = [] ∧ u.sto.entries = s.sto.entries) ∧
  (∀ s : State, s.stoState = 2 → s.pwr.entry = none → s.ctl.lossFlow = false → s.storeEmpty = false → s.faultClass 31 ≤ 3 →
      Yields (.horizonCommit true) s fun u => u.stoState = 0 ∧ u.reg PWR_HOLD_GEN = BitVec.ofNat 32 s.sto.gen ∧
        u.reg STO_GEN = BitVec.ofNat 32 s.sto.gen ∧ u.flag STO_STAT 3 = s.sto.area ∧ u.flag PWR_HOLD 3 = true ∧
        u.flag PWR_HOLD 4 = false ∧ u.pwr.holdArea = s.sto.area ∧ u.fld STO_LAST 8 8 = s.sto.cause % 256 ∧
        u.fld STO_LAST 0 8 = s.sto.outcome % 256 ∧
        u.mem = { s.mem with newStore := some s.sto.area }) ∧
  (∀ s : State, s.stoState = 2 → s.pwr.entry = none → s.ctl.lossFlow = false → s.storeEmpty = false → s.faultClass 31 ≤ 3 →
      Yields (.horizonCommit false) s fun u => u.stoState = 0 ∧ u.reg PWR_HOLD_GEN = s.reg PWR_HOLD_GEN ∧
        u.reg STO_GEN = s.reg STO_GEN ∧ u.flag PWR_HOLD 4 = true ∧ u.reg PWR_HOLD_PGEN = BitVec.ofNat 32 s.sto.gen ∧
        u.pwr.holdArea = s.pwr.holdArea ∧ u.mem = s.mem) ∧
  (∀ (s : State) (ok : Bool), s.stoState = 2 → s.pwr.entry = none → s.ctl.lossFlow = false → s.storeEmpty = true →
      Yields (.horizonCommit ok) s fun u => u.stoState = 0 ∧ u.nv = s.nv ∧ u.mem = s.mem ∧
        s.sameRegs u [STO_STAT, LOG_STAT]) ∧
  (∀ (s : State) (t : Requester) (vhold : Code), s.takes t STO_CTRL → s.admission true vhold.toNat = 0 →
      Yields (.manualStore t vhold) s fun u => u.fld STO_STAT 4 4 = 0 ∧ u.sto.cause = 2 ∧ u.sto.metered = true ∧
        u.sto.gen = s.nextGen ∧ (u.stoState = 1 ∨ u.stoState = 2)) ∧
  (∀ (s : State) (t : Requester) (vhold : Code), s.takes t STO_CTRL → s.admission true vhold.toNat ≠ 0 →
      Yields (.manualStore t vhold) s fun u => u.fld STO_STAT 4 4 = s.admission true vhold.toNat ∧ u.stoState = s.stoState ∧
        s.sameRegs u [STO_STAT, STO_SNS, STO_EST] ∧ s.onlyRegs u) ∧
  (∀ (s : State) (vin : Code), s.fld STO_DET 0 10 + s.fld STO_DET 16 10 ≤ vin.toNat → s.ctl.lossFlow = true →
      s.ctl.supplyBack = false → s.stoState = 1 ∨ s.stoState = 2 →
      Yields (.supplyReturn vin) s fun u => u.ctl.lossFlow = true ∧ u.ctl.supplyBack = true ∧ u.sto.metered = false ∧
        u.sto.meterNext = false ∧ u.sto.flags = s.sto.flags ||| 1 ∧ u.stoState = s.stoState) ∧
  (∀ (s : State) (vin : Code), s.fld STO_DET 0 10 + s.fld STO_DET 16 10 ≤ vin.toNat → s.supplyAway = true →
      s.ctl.supplyBack = false → s.stoState ≠ 1 → s.stoState ≠ 2 →
      Yields (.supplyReturn vin) s fun u => u.supplyAway = false ∧ u.ctl.supplyBack = false) ∧
  (∀ (s : State) (vin : Code), s.fld STO_DET 0 10 + s.fld STO_DET 16 10 ≤ vin.toNat → s.supplyAway = false →
      s.ctl.phase ≠ .off →
      Yields (.supplyReturn vin) s fun u => u.flag STO_DET 31 = false ∧ s.sameRegs u [STO_DET] ∧ s.onlyRegs u) ∧
  (∀ (s : State) (vin : Code), vin.toNat + 4 < s.fld STO_DET 0 10 + s.fld STO_DET 16 10 →
      Yields (.supplyReturn vin) s fun u => s.sameRegs u [] ∧ s.onlyRegs u)

/-- Restore and background zeroing. Drawn from R32, R34, R125, R141. Clauses about points that the spec leaves open or
that are read by inference follow the model: log entries 4, 67, 73. -/
def Obligations.Restores : Prop :=
  (∀ (s : State) (bad : List Nat), s.stoState = 3 → s.supplyAway = false → s.ctl.phase = .run →
      Yields (.classARestoreDone bad) s fun u => u.restoreRuns 0 = [] ∧
        u.stoState = (if u.mem.fill.any FillRun.restores then 4 else 0) ∧ u.nv = s.nv ∧
        s.sameRegs u [STO_STAT, SYS_DOOR_FULL, SYS_DOOR_STAT]) ∧
  (∀ (s : State) (bad : List Nat), s.stoState = 3 → s.supplyAway = false → s.ctl.phase = .classA →
      s.ctl.warmAfterExit = 0 →
      Yields (.classARestoreDone bad) s fun u => u.ctl.phase = .run ∧ u.restoreRuns 0 = [] ∧ u.ladder = 0 ∧ u.nv = s.nv) ∧
  (∀ (s : State) (n lo hi : Nat) (area : Bool), s.stoState = 4 → s.fld STO_PACE 0 16 ≠ 0 → s.supplyAway = false → s.nv.hk = .none →
      s.restoreRuns 1 = [{ lo := lo, hi := hi, kind := .toRestore area }] →
      s.mem.fill = [{ lo := lo, hi := hi, kind := .toRestore area }] → lo < hi → 0 < n →
      Yields (.backgroundRestore n []) s fun u =>
        u.mem.fill = (if n < hi - lo then [{ lo := lo + n, hi := hi, kind := .toRestore area }] else []) ∧
        u.stoState = (if n < hi - lo then 4 else 0) ∧ u.nv = s.nv ∧
        s.sameRegs u [STO_STAT, SYS_DOOR_FULL, SYS_DOOR_STAT]) ∧
  (∀ (s : State) (n lo hi : Nat), s.mem.fill = [{ lo := lo, hi := hi, kind := .toZero }] → lo < hi → 0 < n →
      Yields (.backgroundZero n) s fun u =>
        u.mem.fill = (if n < hi - lo then [{ lo := lo + n, hi := hi, kind := .toZero }] else []) ∧
        (∀ a, lo * 64 ≤ a → a < min (lo + n) hi * 64 → tget 0 u.mem.wm a = 0) ∧
        (∀ a, a < lo * 64 ∨ min (lo + n) hi * 64 ≤ a → tget 0 u.mem.wm a = tget 0 s.mem.wm a) ∧
        u.nv = s.nv ∧ s.sameRegs u [])

/-- Housekeeping of the NV array. Drawn from R158, R165, R166, R167, R169, R171. Clauses about points that the spec
leaves open or that are read by inference follow the model: log entries 83, 84, 85, 86, 88, 91, 93. -/
def Obligations.Housekeeping : Prop :=
  (∀ (s : State) (l reason : Nat), s.hkMayStart 4 = true → s.quarantined = [] → s.flag NVH_CTRL 0 = false →
      s.nextPreerase = some (l, reason) → s.faultClass 31 ≤ 3 →
      Yields .preeraseStart s fun u => u.nv.hk = .preerase l 0 ∧ (u.block l).state = .preerasing ∧
        u.fld NVH_STAT 0 2 = 1 ∧ u.flag NVH_STAT 2 = false ∧ u.mem = s.mem ∧ s.sameRegs u (NVH_STAT :: faultRegs)) ∧
  (∀ s : State, s.hkMayStart 4 = true → s.quarantined ≠ [] → s.faultClass 31 ≤ 3 →
      Yields .preeraseStart s fun u => ∃ l ∈ s.quarantined, u.nv.hk = .preerase l 0 ∧ (u.block l).state = .preerasing ∧
        u.fld NVH_STAT 0 2 = 1 ∧ s.sameRegs u (NVH_STAT :: faultRegs)) ∧
  (∀ (s : State) (l n : Nat), s.nv.hk = .preerase l n → s.flag NVH_STAT 2 = false → s.vppOn = true →
      s.faultClass 31 ≤ 3 →
      Yields (.preeraseDone true) s fun u => u.nv.hk = .none ∧ (u.block l).state = .erased ∧ u.fld NVH_STAT 0 2 = 0 ∧
        s.sameRegs u (NVH_STAT :: faultRegs)) ∧
  (∀ (s : State) (l n : Nat), s.nv.hk = .preerase l n → s.flag NVH_STAT 2 = false → s.vppOn = true →
      Yields (.preeraseDone false) s fun u =>
        (n < 2 → u.nv.hk = .preerase l (n + 1) ∧ (u.block l).wear = (s.block l).wear + 1 ∧ s.sameRegs u []) ∧
        (2 ≤ n → u.nv.hk = .none ∧ (u.block l).state = .bad)) ∧
  (∀ (s : State) (l n : Nat), s.nv.hk = .preerase l n →
      Yields .preeraseResume s fun u => (s.nvBusy = false → u.flag NVH_STAT 2 = false) ∧
        (s.nvBusy = true → u.flag NVH_STAT 2 = s.flag NVH_STAT 2) ∧ s.sameRegs u [NVH_STAT] ∧ s.onlyRegs u) ∧
  (∀ (s : State) (b : Fin 768) (t : Nat), s.hkMayStart 2 = true → s.flag NVH_CTRL 0 = false → s.fld NVH_SCRUB 0 16 ≠ 0 →
      (s.block b).state = .mapped → b.val < 536 ∨ (540 ≤ b.val ∧ b.val < 764) → s.leastWornErased [] = some t →
      Yields (.scrub b true) s fun u => u.nv.hk = .copy b t false ∧ (u.block t).state = .dirty ∧ u.fld NVH_STAT 0 2 = 2 ∧
        u.nv.cells = s.nv.cells ∧ s.sameRegs u [NVH_STAT]) ∧
  (∀ (s : State) (l t : Nat), s.hkMayStart 2 = true → s.flag NVH_CTRL 0 = false → s.migration = some (l, t) →
      Yields .wearMigration s fun u => u.nv.hk = .copy l t true ∧ (u.block t).state = .dirty ∧ u.fld NVH_STAT 0 2 = 3 ∧
        u.nv.cells = s.nv.cells ∧ s.sameRegs u [NVH_STAT]) ∧
  (∀ (s : State) (l t : Nat) (m : Bool), s.nv.hk = .copy l t m → l ≠ t → l < 764 → t < 764 →
      (s.block l).state = .mapped → s.vppOn = true → s.faultClass 31 ≤ 3 →
      Yields .blockCopyDone s fun u => u.nv.hk = .none ∧ (u.block l).phys = (s.block t).phys ∧
        (u.block l).state = .mapped ∧ (u.block t).phys = (s.block l).phys ∧ (u.block t).state = .dirty ∧
        (∀ i, i < blockSize → tget 0 u.nv.cells ((s.block t).phys * blockSize + i) =
          tget 0 s.nv.cells ((s.block l).phys * blockSize + i)) ∧ u.mem = s.mem ∧
        s.sameRegs u (NVH_STAT :: faultRegs)) ∧
  (∀ (s : State) (vin vhold : Code) (l t : Nat) (m : Bool), vin.toNat < s.fld STO_DET 0 10 → s.mayTrip = true →
      s.ladder ≤ 2 → s.ctl.phase = .run → s.nv.hk = .copy l t m → l ≠ t →
      Yields (.supplyTrip vin vhold) s fun u => u.nv.hk = .none ∧ (u.block t).state = .dirty ∧
        (u.block t).phys = (s.block t).phys ∧ u.block l = s.block l ∧ u.nv.cells = s.nv.cells ∧ u.fld NVH_STAT 0 2 = 0)

/-- Votes, the target, and how a descent starts, waits or is refused. Drawn from R175, R176, R177, R178, R179, R185,
R186, R187. Clauses about points that the spec leaves open or that are read by inference follow the model: log entries
9, 94, 96, 100, 104, 105. -/
def Obligations.Descents : Prop :=
  (∀ (s : State) (t : Requester) (w : Word) (vhold : Code), s.takes t PWR_REQ → s.voter (whoOf t) = true → s.awake →
      s.joined = false →
      let v := { s with pwr := { s.pwr with votes := tset 0 s.pwr.votes (whoOf t) (w.toNat % 8) } }
      Yields (.vote t w vhold false) s fun u => tget 0 u.pwr.votes (whoOf t) = w.toNat % 8 ∧
        u.fld PWR_STAT 4 3 = State.targetNow v ∧ u.lastStatus = stOk ∧
        (State.targetNow v < 3 → u.pwr.entry = none ∧ s.sameRegs u [PWR_STAT, STO_SNS, STO_EST, FLK_FLOOR])) ∧
  (∀ (s : State) (t : Requester) (w : Word) (vhold : Code), s.takes t PWR_REQ → s.voter (whoOf t) = true →
      Yields (.vote t w vhold true) s fun u => tget 0 u.pwr.votes (whoOf t) = w.toNat % 8 ∧ s.sameRegs u [] ∧
        s.onlyRegs { u with pwr := s.pwr } ∧ u.pwr = { s.pwr with votes := u.pwr.votes }) ∧
  (∀ (s : State) (t : Requester) (w : Word) (vhold : Code) (more : Bool), s.holdsFor t = false → s.servesFor t = true →
      s.mayWrite (whoOf t) PWR_REQ = false →
      Yields (.vote t w vhold more) s fun u => u.lastStatus = stPermission ∧ s.sameRegs u [] ∧ s.onlyRegs u) ∧
  (∀ (s : State) (t : Requester) (w : Word) (vhold : Code), s.takes t PWR_REQ → s.voter (whoOf t) = true → s.ladder = 0 →
      s.joined = false → s.mayDescend = true →
      let v := { s with pwr := { s.pwr with votes := tset 0 s.pwr.votes (whoOf t) (w.toNat % 8) } };
      3 ≤ State.targetNow v → s.descentHeld (State.targetNow v) = false →
      Yields (.vote t w vhold false) s fun u =>
        (s.refuseCode (State.targetNow v) vhold.toNat = 0 → u.pwr.entry = some (State.targetNow v, .drain) ∧
          u.pwr.portsClosed = true ∧ u.flag PWR_STAT 8 = true ∧ u.flag PWR_STAT 10 = false ∧ u.ladder = 0) ∧
        (s.refuseCode (State.targetNow v) vhold.toNat ≠ 0 → u.pwr.entry = none ∧
          u.fld PWR_STAT 12 4 = s.refuseCode (State.targetNow v) vhold.toNat ∧ u.flag PWR_STAT 16 = true ∧
          u.pwr.refused = some (State.targetNow v))) ∧
  (∀ (s : State) (vhold : Code), s.flag PWR_STAT 10 = true → s.descentHeld s.targetNow = false → s.mayDescend = true →
      s.ladder = 0 → s.joined = false → 3 ≤ s.targetNow → s.refuseCode s.targetNow vhold.toNat = 0 →
      Yields (.descentRelease vhold) s fun u => u.flag PWR_STAT 10 = false ∧ u.pwr.entry = some (s.targetNow, .drain) ∧
        u.pwr.portsClosed = true ∧ u.fld STO_SNS 0 10 = vhold.toNat) ∧
  (∀ (s : State) (vhold : Code), s.flag PWR_STAT 10 = true → s.descentHeld s.targetNow = false → s.targetNow < 2 →
      Yields (.descentRelease vhold) s fun u => u.flag PWR_STAT 10 = false ∧ u.fld STO_SNS 0 10 = vhold.toNat ∧
        s.sameRegs u [PWR_STAT, STO_SNS, STO_EST] ∧ s.onlyRegs u) ∧
  (∀ (s : State) (vhold : Code), s.pwr.refused.isSome = true → s.mayDescend = true → s.ladder = 0 → 3 ≤ s.targetNow →
      s.descentHeld s.targetNow = false → s.joined = false →
      Yields (.refusalRecheck vhold) s fun u =>
        (s.refuseCode s.targetNow vhold.toNat = 0 → u.pwr.entry = some (s.targetNow, .drain) ∧ u.pwr.refused = none ∧
          u.fld PWR_STAT 12 4 = 0) ∧
        (s.refuseCode s.targetNow vhold.toNat ≠ 0 → u.pwr.entry = none ∧ u.pwr.refused = some s.targetNow ∧
          u.fld PWR_STAT 12 4 = s.refuseCode s.targetNow vhold.toNat)) ∧
  (∀ s : State, s.idle = true → s.ladder = 0 → 1 ≤ s.targetNow → s.reg PWR_AUTO_P1 ≠ 0 →
      Yields .autoP1Expiry s fun u => u.pwr.entry = some (1, .last) ∧ u.flag PWR_STAT 8 = true ∧
        u.pwr.upAtEntry = s.portsUp ∧ s.sameRegs u [PWR_STAT] ∧ s.onlyRegs { u with pwr := s.pwr }) ∧
  (∀ s : State, s.idle = true → s.ladder = 1 → 2 ≤ s.targetNow → s.reg PWR_AUTO_P2 ≠ 0 →
      Yields .autoP2Expiry s fun u =>
        (s.descentHeld 2 = true → u.flag PWR_STAT 10 = true ∧ u.pwr = { s.pwr with dozeHeld := true } ∧ s.sameRegs u [PWR_STAT]) ∧
        (s.descentHeld 2 = false → u.pwr.entry = some (2, .last) ∧ u.flag PWR_STAT 8 = true))

/-- The steps of an entry, rest in each state, and the exits. Drawn from R179, R181, R183, R184, R188, Tables 9-3 and
9-4. Clauses about points that the spec leaves open or that are read by inference follow the model: log entries 17,
79, 95, 97, 98, 100, 102, 104. -/
def Obligations.LadderSteps : Prop :=
  (∀ (s : State) (t : Nat) (vhold : Code), s.pwr.entry = some (t, .drain) → s.drained = true → t ≠ 6 →
      Yields (.portsDrained vhold) s fun u => u.pwr.entry = some (t, .store) ∧ u.sto.cause = 3 ∧
        (t = 3 → ∀ i ∈ u.sto.cur.toList ++ u.sto.todo, (s.regions[i]?).any hotRegion = false) ∧
        u.sto.metered = true ∧ (u.stoState = 1 ∨ u.stoState = 2)) ∧
  (∀ (s : State) (vhold : Code), s.pwr.entry = some (6, .drain) → s.drained = true →
      Yields (.portsDrained vhold) s fun u => u.pwr.entry = some (6, .black) ∧ u.sto = s.sto) ∧
  (∀ s : State, s.pwr.entry = some (1, .last) → s.pwr.lateWake = none → s.joined = false → 1 ≤ s.targetNow →
      s.targetNow < 3 →
      Yields .ladderEntryDone s fun u => u.ladder = 1 ∧ u.pwr.entry = none ∧ u.flag PWR_STAT 8 = false ∧
        u.ctl.gated = gatedP1 ∧ u.reg SYS_CLK_STAT = s.reg SYS_CLK_STAT &&& clocksKept 1 ∧ u.mem = s.mem ∧
        s.sameRegs u [PWR_STAT, FLK_FLOOR, SYS_CLK_STAT]) ∧
  (∀ s : State, s.pwr.entry = some (2, .last) → s.pwr.lateWake = none → s.joined = false → 2 ≤ s.targetNow →
      s.targetNow < 3 →
      Yields .ladderEntryDone s fun u =>
        (s.portsIdle = true → u.ladder = 2 ∧ u.pwr.entry = none ∧ u.flag PWR_STAT 8 = false) ∧
        ((∃ p < 4, s.portEnabled p = true ∧ (s.phyOf p).elecIdle = false ∧ s.mayIdle p = false) →
          u.ladder = s.ladder ∧ u.pwr.entry = some (2, .last)) ∧ u.mem = s.mem ∧ u.nv = s.nv) ∧
  (∀ (s : State) (t : Nat), s.pwr.entry = some (t, .last) → t = 3 ∨ t = 4 → s.portsIdle = true → s.pwr.lateWake = none →
      Yields .ladderEntryDone s fun u => u.ladder = t ∧ u.fld PWR_HOLD 0 3 = t ∧ u.pwr.entry = none ∧
        u.flag PWR_STAT 8 = false ∧ u.nv = s.nv) ∧
  (∀ (s : State) (t : Nat), s.pwr.entry = some (t, .black) → t = 5 ∨ t = 6 → s.allBlack = true → s.seqState = seqOff →
      s.portsIdle = true → s.updQuiet → s.pwr.lateWake = none →
      Yields .ladderEntryDone s fun u => u.ladder = t ∧ u.fld PWR_HOLD 0 3 = t ∧ u.ctl.phase = .off ∧ u.ctl.pmicOn = false ∧
        u.ctl.porHigh = false ∧ u.rtc = s.rtc ∧ u.evt = s.evt ∧ u.nv.cells = s.nv.cells) ∧
  (∀ (s : State) (n : Nat), s.pwr.exiting = some n → n ≤ 4 → s.supplyAway = false → s.ctl.warmAfterExit = 0 →
      s.joined = false → s.pwr.entry = none → s.targetNow < 3 →
      Yields .ladderExitDone s fun u => u.ladder = 0 ∧ u.pwr.exiting = none ∧ u.flag PWR_STAT 9 = false ∧
        u.fld PWR_HOLD 0 3 = 0 ∧ u.ctl.gated = 0 ∧
        (3 ≤ n → u.stoState = 3 ∧ (∀ x, x < 16 → u.reg (INT_EN x) = 0) ∧ u.txn.armed = 0xFFFF))

/-- The wake sources that commands bring. Drawn from R182, R191, R258, R284, R420, Table 9-2. Clauses about points
that the spec leaves open or that are read by inference follow the model: log entries 95, 97, 98, 116, 122, 137. -/
def Obligations.Wakes : Prop :=
  (∀ (s : State) (w : Word), w.getLsbD 0 = true → 1 ≤ s.ladder → s.ladder ≤ 4 → s.pwr.entry = none →
      s.pwr.exiting = none → s.ctl.phase = .run →
      Yields (.sbpWake 16 w) s fun u => u.fld PWR_WAKE_SRC 0 4 = 7 ∧ u.fld PWR_WAKE_SRC 4 3 = s.ladder ∧
        u.pwr.exiting = some s.ladder ∧ u.flag PWR_STAT 9 = true ∧ u.pwr.votes = (if 3 ≤ s.ladder then [] else s.pwr.votes) ∧
        s.sameRegs u [PWR_WAKE_SRC, PWR_STAT]) ∧
  (∀ (s : State) (w : Word), w.getLsbD 0 = true → s.ladder = 5 → s.flag PWR_WAKE_EN 7 = true → s.pwr.entry = none →
      s.pwr.exiting = none → s.ctl.phase = .off →
      Yields (.sbpWake 16 w) s fun u => u.fld PWR_WAKE_SRC 0 4 = 7 ∧ u.fld PWR_WAKE_SRC 4 3 = 5 ∧
        u.pwr.exiting = some 5 ∧ u.ctl.pmicOn = true ∧ u.ctl.phase = .reset ∧ u.ctl.path = .cold ∧
        u.door.counting = true ∧ u.flag SYS_DOOR_STAT 0 = true ∧ u.reg PWR_HOLD = s.reg PWR_HOLD ∧ u.rtc = s.rtc) ∧
  (∀ (s : State) (w : Word), w.getLsbD 0 = true → s.ladder = 6 → s.flag PWR_WAKE_EN 7 = true → s.pwr.entry = none →
      s.pwr.exiting = none → s.ctl.phase = .off →
      Yields (.sbpWake 16 w) s fun u => u.fld PWR_WAKE_SRC 0 4 = 7 ∧ u.fld PWR_WAKE_SRC 4 3 = 6 ∧
        u.pwr.exiting = some 6 ∧ u.ctl.pmicOn = true ∧ u.ctl.phase = .reset ∧ u.ctl.path = .cold ∧
        u.door.counting = false ∧ u.reg PWR_HOLD = s.reg PWR_HOLD ∧ u.rtc = s.rtc) ∧
  (∀ s : State, s.ladder = 5 ∨ s.ladder = 6 → s.flag PWR_WAKE_EN 4 = true → s.pwr.entry = none →
      s.pwr.exiting = none → s.ctl.phase = .off → s.rtc.cdLeft = some 0 → s.rtc.stopped = false → s.rtc.pendCd = [] →
      Yields .countdownExpiry s fun u => u.flag RTC_ISTAT 0 = true ∧ u.fld PWR_WAKE_SRC 0 4 = 4 ∧
        u.fld PWR_WAKE_SRC 4 3 = s.ladder ∧ u.pwr.exiting = some s.ladder ∧ u.ctl.pmicOn = true ∧ u.ctl.phase = .reset ∧
        u.door.counting = decide (s.ladder = 5)) ∧
  (∀ (s : State) (n : Fin 4) (level : Bool) (k : Nat), s.ladder = 5 ∨ s.ladder = 6 → s.flag PWR_WAKE_EN n = true →
      s.evtWakes n = true → s.pwr.entry = none → s.pwr.exiting = none → s.ctl.phase = .off → s.rtc.stopped = false →
      s.fld (EVT_CFG n) 16 9 < k → s.rtc.por = false → s.evt.level.getLsbD n.val = !level →
      bit (s.fld (EVT_CFG n) 0 2) (if level then 0 else 1) = true →
      Yields (.eventCapture n level k) s fun u => u.fld PWR_WAKE_SRC 0 4 = n ∧ u.fld PWR_WAKE_SRC 4 3 = s.ladder ∧
        u.pwr.exiting = some s.ladder ∧ u.ctl.pmicOn = true ∧ u.ctl.phase = .reset ∧
        u.door.counting = decide (s.ladder = 5) ∧ u.door.ticks = 0) ∧
  (∀ (s : State) (w : Word), s.awake → Yields (.sbpWake 16 w) s fun u => s.sameRegs u [] ∧ s.onlyRegs u) ∧
  (∀ (s : State) (p : Port), s.portEnabled p = true → s.phyState p = phIdle → s.awake → s.ctl.phase = .run →
      Yields (.laneActivityWake p) s fun u => u.phyState p = phCdr ∧ (u.phyOf p).training = true ∧
        (u.phyOf p).elecIdle = false ∧ u.fld (PHY_TRAIN p) 0 16 = min (s.fld (PHY_TRAIN p) 0 16 + 1) 0xFFFF ∧
        s.sameRegs u [PHY_STAT p, PHY_TRAIN p]) ∧
  (∀ (s : State) (p : Port), s.portEnabled p = true → s.phyState p = phIdle → 1 ≤ s.ladder → s.ladder ≤ 4 →
      s.pwr.entry = none → s.pwr.exiting = none → s.ctl.phase = .run → s.pwr.upAtEntry.getLsbD p = true →
      Yields (.laneActivityWake p) s fun u => u.fld PWR_WAKE_SRC 0 4 = 8 + p ∧ u.pwr.exiting = some s.ladder ∧
        u.flag PWR_STAT 9 = true ∧ s.sameRegs u [PWR_WAKE_SRC, PWR_STAT]) ∧
  (∀ (s : State) (c : Fin 2), s.canWakes c s.ladder = true → s.canHears c = true → 1 ≤ s.ladder → s.ladder ≤ 4 → s.pwr.entry = none →
      s.pwr.exiting = none → s.ctl.phase = .run →
      Yields (.canActivityWake c) s fun u => u.fld PWR_WAKE_SRC 0 4 = 5 ∧ u.pwr.exiting = some s.ladder ∧
        u.flag PWR_STAT 9 = true ∧ s.sameRegs u [PWR_WAKE_SRC, PWR_STAT])

/-- Measurement. Drawn from R421, R422, R423, R424, R425, R426, R436. Clauses about points that the spec leaves open
or that are read by inference follow the model: log entries 9, 185, 186, 189. -/
def Obligations.Measurement : Prop :=
  (∀ (s : State) (ch : Fin 41) (code : Code), s.converts ch = true → ch.val < 32 →
      Yields (.adcConversionDone ch code) s fun u => u.fld (ADC_RES ch) 0 10 = code.toNat ∧
        u.fld (ADC_RES ch) 16 8 = (s.fld (ADC_RES ch) 16 8 + 1) % 256 ∧ u.flag (ADC_RES ch) 31 = true ∧
        (∀ r ∈ s.rails, r.senseKind = 0 → r.sense = ch.val → u.fld (SEQ_SENSE r.slot) 0 10 = code.toNat) ∧
        u.adc = (passSlot ch.val s).adc ∧ s.onlyRegs { u with adc := s.adc }) ∧
  (∀ (s : State) (code : Code), s.converts 32 = true → s.railsWf →
      Yields (.adcConversionDone 32 code) s fun u => u.fld (ADC_RES 32) 0 10 = code.toNat ∧
        u.fld STO_SNS 16 10 = code.toNat ∧ s.sameRegs u [ADC_RES 32, STO_SNS] ∧ s.onlyRegs { u with adc := s.adc }) ∧
  (∀ (s : State) (k : Fin 6) (code : Code), s.converts (33 + k) = true → tget 0 s.adc.hotRun k < 2 →
      s.flag ADC_HOT k = false → s.railsWf →
      let t := ofSigned 12 (Config.temperature k code.toNat s.otp.force.analog)
      Yields (.adcConversionDone ⟨33 + k.val, by omega⟩ code) s fun u => u.fld (ADC_RES (33 + k)) 0 10 = code.toNat ∧
        u.fld (ADC_TEMP k) 0 12 = t ∧
        tget 0 u.adc.hotRun k = (if toSigned 12 (s.fld ADC_TALARM 0 12) ≤ toSigned 12 t then tget 0 s.adc.hotRun k + 1 else 0) ∧
        s.sameRegs u [ADC_RES (33 + k), ADC_TEMP k] ∧ s.onlyRegs { u with adc := s.adc }) ∧
  (∀ (s : State) (k : Fin 6) (code : Code), s.converts (33 + k) = true → 2 ≤ tget 0 s.adc.hotRun k →
      s.flag ADC_HOT k = false → s.faultClass 76 ≤ 3 → s.railsWf →
      toSigned 12 (s.fld ADC_TALARM 0 12) ≤
        toSigned 12 (ofSigned 12 (Config.temperature k code.toNat s.otp.force.analog)) →
      Yields (.adcConversionDone ⟨33 + k.val, by omega⟩ code) s fun u => u.flag ADC_HOT k = true ∧
        u.flag ADC_ISTAT 2 = true ∧ s.reports u 76) ∧
  (∀ (s : State) (code : Code), s.converts 40 = true → code.toNat < 845 ∨ 861 < code.toNat → s.faultClass 77 ≤ 3 →
      s.railsWf →
      Yields (.adcConversionDone 40 code) s fun u => u.flag ADC_STAT 17 = true ∧ u.flag ADC_ISTAT 1 = true ∧
        s.reports u 77 ∧ s.sameRegs u (ADC_RES 40 :: ADC_STAT :: ADC_ISTAT :: faultRegs)) ∧
  (∀ (s : State) (code : Code), s.converts 40 = true → 845 ≤ code.toNat → code.toNat ≤ 861 →
      s.railsWf →
      Yields (.adcConversionDone 40 code) s fun u => u.fld (ADC_RES 40) 0 10 = code.toNat ∧ s.sameRegs u [ADC_RES 40] ∧
        s.onlyRegs { u with adc := s.adc }) ∧
  (∀ s : State, s.adcRuns = true →
      let slots := fun (u : State) (k : Nat) => if k = 0 then u.adc.slots0 else u.adc.slots1
      Yields .scanRoundStart s fun u => u.adc.round = s.adc.round + 1 ∧ u.adc.pos0 = 0 ∧ u.adc.pos1 = 0 ∧
        (∀ k, k < 2 → (s.adcRails k).length ≤ 24 →
          (∀ e ∈ (s.adcRails k).zipIdx,
            (slots u k)[e.2]? = some e.1.sense ∧ (slots u k)[e.2 + 25]? = some e.1.sense) ∧
          (s.conf.isSome = true → (slots u k)[49]? = some (if k = 0 then 40 else 32 + u.adc.round % 9))) ∧
        (∀ k, k < 2 → s.conf.isSome = true → s.adcRails k = [] →
          ∀ n ∈ (s.admitAdc k).1, (s.admitAdc k).1 = [n] → s.fld (ADC_CH_CFG n) 1 3 ≤ 2 →
            (slots u k).count n = 2 ^ (2 - s.fld (ADC_CH_CFG n) 1 3)) ∧
        u.fld ADC_STAT 0 6 = (49 - s.railSlots 0) % 64 ∧ u.fld ADC_STAT 8 6 = (49 - s.railSlots 1) % 64 ∧
        (∀ n, n < 32 → n ∉ (s.admitAdc 0).1 → n ∉ (s.admitAdc 1).1 → n ∉ s.railChannels →
          u.flag (ADC_RES n) 31 = false ∧ u.fld (ADC_RES n) 0 31 = s.fld (ADC_RES n) 0 31) ∧
        (∀ n, n < 41 → n ∈ (s.admitAdc 0).1 ++ (s.admitAdc 1).1 ++ s.railChannels → s.conf.isSome = true →
          u.reg (ADC_RES n) = s.reg (ADC_RES n)) ∧ s.onlyRegs { u with adc := s.adc }) ∧
  (∀ (s : State) (t : Requester) (n : Fin 32) (w : Word), s.takes t (ADC_CH_CFG n) →
      Yields (.adcChannelConfig t n w) s fun u => u.fld (ADC_CH_CFG n) 0 4 = w.toNat % 16 ∧
        u.flag ADC_STAT 16 = (s.flag ADC_STAT 16 || (u.admitAdc 0).2 || (u.admitAdc 1).2) ∧
        s.sameRegs u [ADC_CH_CFG n, ADC_STAT, ADC_ISTAT] ∧ s.onlyRegs u) ∧
  (∀ (s : State) (p : Fin 8) (l : List PdRun), s.fld OPT_ALS 0 10 ≠ 0 → s.ladder = 0 →
      (l.map (·.count)).sum = 96 * s.fld OPT_ALS 0 10 →
      let k := 96 * s.fld OPT_ALS 0 10
      let v := 64 * (l.map fun r => r.count * r.code.toNat).sum
      Yields (.alsWindowEnd p l) s fun u => (u.fld (ALS_P p) 0 16 = v / k ∨ (v % k ≠ 0 ∧ u.fld (ALS_P p) 0 16 = v / k + 1)) ∧
        u.flag (ALS_P p) 31 = l.any (fun r => r.count != 0 && (r.rail || r.code == 1023)) ∧
        s.sameRegs u [ALS_P p] ∧ s.onlyRegs { u with freeCount := s.freeCount })

/-- Backlight settings take effect at a cycle start; the waits before a backlight and after it. Drawn from R427, R429,
R431. Clauses about points that the spec leaves open or that are read by inference follow the model: log entries 187,
188. -/
def Obligations.Backlights : Prop :=
  (∀ (s : State) (n : Fin 4), s.bklLocked n = false →
      Yields (.pwmCycleStart n) s fun u => u.bklNow (BKL_DUTY n) = s.reg (BKL_DUTY n) ∧
        u.bklNow (BKL_PER n) = s.reg (BKL_PER n) ∧ u.bklNow (BKL_CTRL n) = s.reg (BKL_CTRL n) ∧
        u.flag BKL_STAT (8 + n) = decide (s.fld (BKL_PER n) 0 19 < 2500 ∨ 500000 < s.fld (BKL_PER n) 0 19) ∧
        u.flag BKL_STAT (4 + n) = false ∧ s.sameRegs u [BKL_STAT, BKL_ISTAT]) ∧
  (∀ (s : State) (n : Fin 4), s.bklLocked n = true → Yields (.pwmCycleStart n) s fun u => s.sameRegs u [] ∧ s.onlyRegs u) ∧
  (∀ (s : State) (n : Fin 4), s.chState n = chRun → s.flag (OUT_STAT n) 8 = true →
      Yields (.bklDelayExpiry n) s fun u => (u.chanOf n).bklDelay = true ∧ s.sameRegs u [] ∧
        s.onlyRegs { u with chan := s.chan }) ∧
  (∀ (s : State) (n : Fin 4), (s.chanOf n).bklOn = true →
      Yields (.bklSettleExpiry n) s fun u => (u.chanOf n).bklSettle = true ∧ s.sameRegs u [] ∧
        s.onlyRegs { u with chan := s.chan })

/-- Sideband transactions and frames. Drawn from R250 to R255, R258 to R260, R264, R266. Clauses about points that the
spec leaves open or that are read by inference follow the model: log entries 125, 126, 127, 128, 129, 130. -/
def Obligations.Sideband : Prop :=
  (∀ (s : State) (sclk : Bool), s.sbp.open_ = false → s.rtc.por = false →
      Yields (.sbpCsFall sclk) s fun u => u.sbp.open_ = true ∧ u.sbp.mode3 = sclk ∧ u.sbp.resp = [] ∧
        (∀ n, u.sdo n 0 = if sclk then none else some false) ∧ s.sameRegs u [] ∧ s.onlyRegs { u with sbp := s.sbp }) ∧
  (∀ s : State, Yields .sbpCsRise s fun u => u.sbp.open_ = false ∧ u.sbp.stagedLo = none ∧ u.sbp.scratch = s.sbp.scratch ∧
        u.sbp.wait = none ∧ u.sbp.burst = none ∧ (∀ n k, u.sdo n k = none) ∧ tfind u.ctxs 16 = none ∧
        (s.sbp.wait = none → u.txn.held = s.txn.held) ∧
        (∀ f, s.sbp.wait = some f → sbpOp f = 2 → sbpSpace (frameAddr f) (frameCount f) = .core →
          u.txn.held = s.txn.held ++ [.burst (BitVec.ofNat 32 (0x80000000 + frameAddr f % 0x800000))
            ((List.range (frameCount f)).map (frameWord f))]) ∧
        s.sameRegs u [] ∧ s.onlyRegs { u with sbp := s.sbp, ctxs := s.ctxs, txn := { u.txn with held := s.txn.held } }) ∧
  (∀ (s : State) (f : List Byte) (n : Nat), s.sbp.open_ = true → s.sbp.wait = none → s.sbp.burst = none →
      s.frameCheck f ≠ 0 → ∀ c ∈ [Instr.sbpRead f n, .sbpWrite f],
        Yields c s fun u => u.sbp.resp.head? = some (BitVec.ofNat 8 (0x80 + s.sbpLadder * 16 + s.frameCheck f)) ∧
          u.sbp.resp.length = (if frameCrc f then 2 else 1) ∧ s.sameRegs u [] ∧ s.onlyRegs { u with sbp := s.sbp }) ∧
  (∀ (s : State) (f : List Byte) (n : Nat), s.sbp.open_ = true → s.sbp.wait = none → s.sbp.burst = none →
      s.frameCheck f = 0 → sbpOp f = 1 → frameCrc f = false → frameAddr f = 0 → frameCount f = 1 → 0 < n →
      Yields (.sbpRead f n) s fun u =>
        u.sbp.resp = [BitVec.ofNat 8 (0x80 + s.sbpLadder * 16), 0x48, 0x16, 0xB0, 0x00] ∧ u.sbp.burst = none ∧
        s.sameRegs u []) ∧
  (∀ (s : State) (f : List Byte), s.sbp.open_ = true → s.sbp.wait = none → s.sbp.burst = none →
      s.frameCheck f = 0 → sbpOp f = 1 → frameAddr f = 0 → frameCount f = 2 →
      Yields (.sbpRead f 1) s fun u => u.sbp.burst = some (f, 1) ∧
        u.sbp.resp = [BitVec.ofNat 8 (0x80 + s.sbpLadder * 16), 0x48, 0x16, 0xB0, 0x00] ∧ s.sameRegs u []) ∧
  (∀ (s : State) (f g : List Byte) (n : Nat), s.sbp.open_ = true → s.sbp.wait = none → s.sbp.burst = some (f, 1) →
      frameCrc f = false → frameAddr f = 0 → frameCount f = 2 → 0 < n →
      Yields (.sbpRead g n) s fun u => u.sbp.burst = none ∧ u.sbp.resp = s.sbp.resp ++ wordOut s.sbp.scratch ∧
        s.sameRegs u []) ∧
  (∀ (s : State) (f : List Byte), s.sbp.open_ = true → s.sbp.wait = none → s.sbp.burst = none →
      s.frameCheck f = 0 → sbpOp f = 2 → frameAddr f = 4 → frameCount f = 1 →
      Yields (.sbpWrite f) s fun u => u.sbp.scratch = frameWord f 0 ∧
        u.sbp.resp.head? = some (BitVec.ofNat 8 (0x80 + s.sbpLadder * 16)) ∧ s.sameRegs u [] ∧
        s.onlyRegs { u with sbp := s.sbp }) ∧
  (∀ (s : State) (f : List Byte), s.sbp.open_ = true → s.sbp.wait = none → s.sbp.burst = none →
      s.frameCheck f = 0 → sbpOp f = 2 → frameAddr f = 0xA054 → frameCount f = 1 →
      Yields (.sbpWrite f) s fun u => u.fld RTC_IEN 0 4 = (frameWord f 0).toNat % 16 ∧
        u.sbp.resp.head? = some (BitVec.ofNat 8 (0x80 + s.sbpLadder * 16)) ∧ s.sameRegs u [RTC_IEN]) ∧
  (∀ (s : State) (f : List Byte) (n : Nat), s.sbp.open_ = true → s.sbp.wait = none → s.sbp.burst = none →
      s.frameCheck f = 0 → s.frameWaits f = true → ∀ c ∈ [Instr.sbpRead f n, .sbpWrite f],
        Yields c s fun u => u.sbp.wait = some f ∧ u.sbp.resp = [] ∧ s.sameRegs u [] ∧ s.onlyRegs { u with sbp := s.sbp }) ∧
  (∀ (s : State) (f : List Byte), s.sbp.wait = some f →
      Yields .sbpWaitTimeout s fun u => u.sbp.wait = none ∧
        u.sbp.resp.head? = some (BitVec.ofNat 8 (0x80 + s.sbpLadder * 16 + 7)) ∧ s.sameRegs u [] ∧
        s.onlyRegs { u with sbp := s.sbp })

/-- Training and lock of a link port. Drawn from R275 to R277, R280 to R284, R286, Table 13-4. Clauses about points
that the spec leaves open or that are read by inference follow the model: log entries 131, 133, 134, 136. -/
def Obligations.PortTraining : Prop :=
  (∀ (s : State) (p : Port), s.phyState p = phCdr →
      Yields (.cdrLock p) s fun u => u.phyState p = phSearch ∧ s.sameRegs u [PHY_STAT p] ∧ s.onlyRegs u) ∧
  (∀ (s : State) (p : Port) (hits : List LaneHit) (m : List Nat), s.phyState p = phSearch → s.portLanes p ≤ 4 →
      laneMap (s.portLanes p) hits = some m →
      Yields (.alignCandidate p hits true) s fun u => u.phyState p = phVerify ∧
        (∀ i, i < hits.length → u.flag (PHY_LANEMAP p) (8 + i) = (hits[i]?).any (·.inverted)) ∧
        (∀ n, n < m.length → u.fld (PHY_LANEMAP p) (2 * n) 2 = m.getD n 0) ∧
        s.sameRegs u [PHY_STAT p, PHY_LANEMAP p] ∧ s.onlyRegs u) ∧
  (∀ (s : State) (p : Port) (hits : List LaneHit), s.phyState p = phSearch →
      Yields (.alignCandidate p hits false) s fun u => s.sameRegs u [] ∧ s.onlyRegs u) ∧
  (∀ (s : State) (p : Port), s.phyState p = phVerify →
      Yields (.alignVerifyFail p) s fun u => u.phyState p = phSearch ∧
        u.fld (PHY_LOCK p) 24 8 = min (s.fld (PHY_LOCK p) 24 8 + 1) 255 ∧ s.sameRegs u [PHY_STAT p, PHY_LOCK p] ∧
        s.onlyRegs u) ∧
  (∀ (s : State) (p : Port) (l : List LockPeriod), s.phyState p = phVerify → lockTest l = true →
      Yields (.lockAcquired p true l) s fun u => u.phyState p = phExchange ∧ u.locked p = true ∧ u.lnkState p = lnDown ∧
        (u.phyOf p).training = true ∧ (u.lnkOf p).replay = [] ∧ (u.lnkOf p).held = [] ∧
        s.sameRegs u [PHY_STAT p, LNK_STAT p]) ∧
  (∀ (s : State) (p : Port) (l : List LockPeriod), s.phyState p = phVerify → lockTest l = true →
      Yields (.lockAcquired p false l) s fun u => u.phyState p = phActive ∧ u.locked p = true ∧ u.lnk = s.lnk ∧
        s.sameRegs u [PHY_STAT p] ∧ s.onlyRegs { u with phy := s.phy }) ∧
  (∀ (s : State) (p : Port) (training : Bool) (l : List LockPeriod),
      l.length ≠ 4 ∨ (∃ r ∈ l, r.hit = false ∨ r.decoded ≠ 64) ∨ (l.filter fun r => r.corrected = 0).length < 3 →
      Yields (.lockAcquired p training l) s fun u => s.sameRegs u [] ∧ s.onlyRegs u) ∧
  (∀ (s : State) (p : Port), s.phyState p = phActive → s.locked p = true →
      Yields (.lockLoss p [false]) s fun u => u.fld (PHY_LOCK p) 0 16 = min (s.fld (PHY_LOCK p) 0 16 + 1) 0xFFFF ∧
        ((s.phyOf p).misses < 2 → u.phyState p = phActive ∧ (u.phyOf p).misses = (s.phyOf p).misses + 1 ∧
          u.fld (PHY_LOCK p) 16 8 = s.fld (PHY_LOCK p) 16 8) ∧
        (2 ≤ (s.phyOf p).misses → u.phyState p = phSearch ∧ u.locked p = false ∧ (u.phyOf p).misses = 0 ∧
          u.fld (PHY_LOCK p) 16 8 = min (s.fld (PHY_LOCK p) 16 8 + 1) 255) ∧
        s.sameRegs u [PHY_STAT p, PHY_LOCK p] ∧ s.onlyRegs { u with phy := s.phy }) ∧
  (∀ (s : State) (p : Port), s.locked p = true →
      Yields (.lockLoss p [true]) s fun u => (u.phyOf p).misses = 0 ∧ s.sameRegs u [] ∧ s.onlyRegs { u with phy := s.phy }) ∧
  (∀ (s : State) (p : Port), s.phyState p = phActive →
      Yields (.peerTraining p) s fun u => u.phyState p = phExchange ∧ u.lnkState p = lnDown ∧
        (u.phyOf p).training = true ∧ (u.phyOf p).recvValid = 0 ∧ (u.lnkOf p).replay = [] ∧
        s.sameRegs u [PHY_STAT p, LNK_STAT p]) ∧
  (∀ (s : State) (p : Port), s.phyState p = phExchange ∨ s.phyState p = phActive →
      Yields (.peerIdle p) s fun u => u.phyState p = phIdle ∧ (u.phyOf p).elecIdle = true ∧ u.lnk = s.lnk ∧
        s.sameRegs u [PHY_STAT p])

/-- Training records, failed attempts and their retry. Drawn from R275, R280, R281, R282, R286. Clauses about points
that the spec leaves open or that are read by inference follow the model: log entries 132, 135. -/
def Obligations.TrainingAttempts : Prop :=
  (∀ (s : State) (p : Port) (bytes : List Byte), s.phyState p = phExchange → trainingValid bytes = true →
      recField bytes 5 1 = s.portLanes p → recField bytes 6 1 = s.portRate p → recField bytes 4 1 = kindExpected p →
      Yields (.trainingRecord p bytes false) s fun u => (u.phyOf p).recvValid = (s.phyOf p).recvValid + 1 ∧
        (u.phyOf p).recvSeen = (s.phyOf p).recvSeen + (if bit (recField bytes 7 1) 0 then 1 else 0) ∧
        u.phyState p = phExchange ∧ u.lnk = s.lnk ∧
        (2 ≤ p.val → u.reg (PHY_PEER_LO p) = BitVec.ofNat 32 (recField bytes 0x10 4) ∧
          u.reg (PHY_PEER_HI p) = BitVec.ofNat 32 (recField bytes 0x14 4)) ∧
        s.sameRegs u [PHY_PEER_LO p, PHY_PEER_HI p]) ∧
  (∀ (s : State) (p : Port), s.phyState p = phExchange → (s.phyOf p).training = true → (s.phyOf p).elecIdle = false →
      8 ≤ (s.phyOf p).sentSeen → 2 ≤ (s.phyOf p).recvSeen →
      Yields (.flitSend p) s fun u =>
        ((s.phyOf p).codewords + 1 = 64 → u.phyState p = phActive ∧ (u.phyOf p).training = false ∧
          u.lnkState p = lnInit ∧ u.reg (LNK_SEQ p) = 0 ∧ (u.lnkOf p).initSent = false) ∧
        ((s.phyOf p).codewords + 1 ≠ 64 → u.phyState p = phExchange ∧ (u.phyOf p).training = true ∧ u.lnk = s.lnk)) ∧
  (∀ (s : State) (p : Port) (n : Nat), s.phyState p = phActive → (s.phyOf p).training = true →
      (s.phyOf p).elecIdle = false → (s.phyOf p).idleMarks = some n → (s.phyOf p).codewords + 1 = 64 →
      Yields (.flitSend p) s fun u => (n = 1 → u.phyState p = phIdle ∧ (u.phyOf p).elecIdle = true) ∧
        (n ≠ 1 → u.phyState p = phActive ∧ (u.phyOf p).idleMarks = some (n - 1)) ∧ u.lnk = s.lnk ∧
        s.sameRegs u [PHY_STAT p]) ∧
  (∀ (s : State) (p : Port) (bytes : List Byte), s.phyState p = phExchange → trainingValid bytes = true →
      s.faultClass (50 + p) ≤ 3 →
      recField bytes 5 1 ≠ s.portLanes p ∨ recField bytes 6 1 ≠ s.portRate p ∨ recField bytes 4 1 ≠ kindExpected p →
      Yields (.trainingRecord p bytes false) s fun u => u.phyState p = phFail ∧
        u.fld (PHY_STAT p) 12 4 = (if recField bytes 5 1 = s.portLanes p ∧ recField bytes 6 1 = s.portRate p then 4 else 3) ∧
        u.fld (PHY_TRAIN p) 16 16 = min (s.fld (PHY_TRAIN p) 16 16 + 1) 0xFFFF ∧ s.reports u (50 + p)) ∧
  (∀ (s : State) (p : Port) (bytes : List Byte), trainingValid bytes = false →
      Yields (.trainingRecord p bytes false) s fun u => s.sameRegs u [] ∧ s.onlyRegs u) ∧
  (∀ (s : State) (p : Port) (lane : Option (Fin 4)) (skew : Bool), 1 ≤ s.phyState p → s.phyState p ≤ 4 →
      s.faultClass (50 + p) ≤ 3 →
      Yields (.attemptTimeout p lane skew) s fun u => u.phyState p = phFail ∧
        u.fld (PHY_STAT p) 12 4 = (if lane.isSome then 1 else if skew then 2 else 5) ∧
        (∀ l, lane = some l → u.fld (PHY_STAT p) 16 2 = l.val) ∧
        u.fld (PHY_TRAIN p) 16 16 = min (s.fld (PHY_TRAIN p) 16 16 + 1) 0xFFFF ∧ s.reports u (50 + p) ∧
        s.sameRegs u (PHY_STAT p :: PHY_TRAIN p :: faultRegs)) ∧
  (∀ (s : State) (p : Port), s.phyState p = phFail → s.portEnabled p = true →
      Yields (.trainingRetry p) s fun u => u.phyState p = phCdr ∧ (u.phyOf p).training = true ∧
        u.fld (PHY_TRAIN p) 0 16 = min (s.fld (PHY_TRAIN p) 0 16 + 1) 0xFFFF ∧ s.sameRegs u [PHY_STAT p, PHY_TRAIN p]) ∧
  (∀ (s : State) (t : Requester) (p : Port) (w : Word), s.takes t (PHY_CTRL p) → w.getLsbD 0 = true →
      bits w.toNat 8 4 = s.fld (PHY_CTRL p) 8 4 → w.getLsbD 12 = s.flag (PHY_CTRL p) 12 → s.portEnabled p = true →
      Yields (.retrain t p w) s fun u => u.lastStatus = stOk ∧
        (s.phyState p = phActive → u.phyState p = phCdr ∧ (u.phyOf p).training = true) ∧
        (s.phyState p ≠ phActive → u.phyState p = s.phyState p) ∧ s.sameRegs u [PHY_STAT p, PHY_TRAIN p])

/-- Flits received. Drawn from R291, R292, R293, R294, R297, R299, R303, R309, Tables 14-4, 14-5, 14-7. Clauses about
points that the spec leaves open or that are read by inference follow the model: log entries 138, 139, 140. -/
def Obligations.FlitsReceived : Prop :=
  (∀ (s : State) (p : HostPort) (f : Flit), s.receives p = true → s.lnkState p = lnUp → quietAck f.ack →
      (s.lnkOf p).initSent = true → f.seq.toNat = s.rxExp p → (s.lnkOf p).held = [] → s.poolFull p f.vc = false →
      s.ctl.phase = .run → s.ladder = 0 → s.pwr.entry = none → s.away = true →
      requestShape f.type { vc := f.vc, tenant := f.tenant, payload := f.payload } = true →
      Yields (.flitReceived (p.castLE (by decide)) f false) s fun u => u.rxExp p = (s.rxExp p + 1) % 1024 ∧
        (u.lnkOf p).ackTimer = true ∧
        u.txn.held = s.txn.held ++ [.packet p f.type { vc := f.vc, tenant := f.tenant, payload := f.payload }] ∧
        s.sameRegs u [LNK_SEQ p, LNK_WIN p]) ∧
  (∀ (s : State) (p : Port) (f : Flit), s.receives p = true → s.lnkState p = lnUp → quietAck f.ack →
      (s.lnkOf p).initSent = true → 1 ≤ seqDist f.seq.toNat (s.rxExp p) → seqDist f.seq.toNat (s.rxExp p) ≤ 511 →
      s.goBack p = false → (∀ g ∈ (s.lnkOf p).held, g.seq ≠ f.seq) → s.poolFull p f.vc = false → s.headedFor = 0 →
      Yields (.flitReceived p f false) s fun u => u.rxExp p = s.rxExp p ∧ (u.lnkOf p).held = (s.lnkOf p).held ++ [f] ∧
        (u.lnkOf p).naks = ((s.lnkOf p).naks.filter fun q => q ≠ f.seq.toNat) ++
          (s.missing p (seqDist f.seq.toNat (s.rxExp p))).filter (fun q => !(s.lnkOf p).marked.contains q) ∧
        u.txn.held = s.txn.held ∧ s.sameRegs u [LNK_WIN p]) ∧
  (∀ (s : State) (p : Port) (f : Flit), s.receives p = true → s.lnkState p = lnUp → quietAck f.ack →
      (s.lnkOf p).initSent = true → 1 ≤ seqDist f.seq.toNat (s.rxExp p) → seqDist f.seq.toNat (s.rxExp p) ≤ 511 →
      s.goBack p = true → s.headedFor = 0 →
      Yields (.flitReceived p f false) s fun u => u.rxExp p = s.rxExp p ∧ (u.lnkOf p).held = (s.lnkOf p).held ∧
        (u.lnkOf p).naks = (s.lnkOf p).naks ++ (if (s.lnkOf p).marked.contains (s.rxExp p) then [] else [s.rxExp p]) ∧
        (s.rxExp p ∈ (u.lnkOf p).marked) ∧ u.txn.held = s.txn.held ∧ s.sameRegs u [LNK_WIN p]) ∧
  (∀ (s : State) (p : Port) (f : Flit) (fill : ElasticFill), s.receives p = true → s.lnkState p = lnUp →
      quietAck f.ack → fill ≠ .aboveHalf → 1 ≤ seqDist f.seq.toNat (s.rxExp p) →
      seqDist f.seq.toNat (s.rxExp p) ≤ 512 → s.goBack p = true →
      Yields (.nullFlitReceived p f false fill) s fun u => u.rxExp p = s.rxExp p ∧
        (u.lnkOf p).naks = (s.lnkOf p).naks ++ (if (s.lnkOf p).marked.contains (s.rxExp p) then [] else [s.rxExp p]) ∧
        (s.rxExp p ∈ (u.lnkOf p).marked) ∧ s.sameRegs u [LNK_WIN p]) ∧
  (∀ (s : State) (p : Port) (f : Flit), s.receives p = true → s.lnkState p = lnUp → quietAck f.ack →
      (s.lnkOf p).initSent = true → seqDist f.seq.toNat (s.rxExp p) ≤ 511 → s.poolFull p f.vc = true →
      (seqDist f.seq.toNat (s.rxExp p) = 0 ∨ (s.goBack p = false ∧ ∀ g ∈ (s.lnkOf p).held, g.seq ≠ f.seq)) →
      s.faultClass (54 + p) ≤ 3 →
      Yields (.flitReceived p f false) s fun u => u.lnkState p = lnDown ∧ u.fld (LNK_STAT p) 8 4 = 6 ∧
        u.flag (LNK_STAT p) 6 = true ∧ s.reports u (54 + p) ∧ (u.lnkOf p).replay = [] ∧ (u.lnkOf p).held = []) ∧
  (∀ (s : State) (p : Port) (f : Flit), s.receives p = true → quietAck f.ack → (s.lnkOf p).initSent = false →
      s.faultClass (54 + p) ≤ 3 →
      Yields (.flitReceived p f false) s fun u => u.lnkState p = lnDown ∧ u.fld (LNK_STAT p) 8 4 = 7 ∧
        u.flag (LNK_STAT p) 6 = true ∧ s.reports u (54 + p)) ∧
  (∀ (s : State) (p : Port) (f : Flit) (fill : ElasticFill), s.receives p = true → fill ≠ .aboveHalf →
      s.faultClass (54 + p) ≤ 3 →
      (f.ack.ackV = true ∧ (seqDist f.ack.ackSeq.toNat (s.txNext p) < 512 ∨ (s.lnkOf p).replay.length <
          seqDist (f.ack.ackSeq.toNat + 1) (seqDist (s.txNext p) (s.lnkOf p).replay.length))) ∨
        (f.ack.ackV = false ∧ f.ack.nakV = true ∧ seqDist f.ack.nakSeq.toNat (s.txNext p) < 512) ∨
        (f.ack.ackV = false ∧ f.ack.nakV = false ∧ f.ack.snap = false ∧
          (1024 < f.ack.credReq.toNat ∨ 1024 < f.ack.credRsp.toNat)) ∨
        (quietAck f.ack ∧ 513 ≤ seqDist f.seq.toNat (s.rxExp p)) →
      Yields (.nullFlitReceived p f false fill) s fun u => u.lnkState p = lnDown ∧ u.fld (LNK_STAT p) 8 4 = 7 ∧
        u.flag (LNK_STAT p) 6 = true ∧ s.reports u (54 + p) ∧
        u.fld (LNK_DOWNS p) 0 16 = min (s.fld (LNK_DOWNS p) 0 16 + 1) 0xFFFF) ∧
  (∀ (s : State) (p : Port) (f : Flit) (fill : ElasticFill), s.receives p = true → s.lnkState p = lnUp →
      fill ≠ .aboveHalf → f.seq.toNat = s.rxExp p → f.ack.ackV = true → f.ack.nakV = false → f.ack.snap = false →
      f.ack.credReq.toNat ≤ 1024 → f.ack.credRsp.toNat ≤ 1024 → 512 ≤ seqDist f.ack.ackSeq.toNat (s.txNext p) →
      let n := seqDist (f.ack.ackSeq.toNat + 1) (seqDist (s.txNext p) (s.lnkOf p).replay.length);
      n ≤ (s.lnkOf p).replay.length →
      Yields (.nullFlitReceived p f false fill) s fun u => (u.lnkOf p).replay = (s.lnkOf p).replay.drop n ∧
        (u.lnkOf p).retx = ((s.lnkOf p).retx.filter fun q => !(((s.lnkOf p).replay.take n).map (·.seq)).contains q) ∧
        (u.lnkOf p).expiries = (if n = 0 then (s.lnkOf p).expiries else 0) ∧
        (u.lnkOf p).relReq = ((s.lnkOf p).relReq + f.ack.credReq.toNat) % 4096 ∧
        (u.lnkOf p).relRsp = ((s.lnkOf p).relRsp + f.ack.credRsp.toNat) % 4096 ∧ s.sameRegs u [LNK_WIN p]) ∧
  (∀ (s : State) (p : Port) (f : Flit) (fill : ElasticFill), s.receives p = true → s.lnkState p = lnUp →
      fill ≠ .aboveHalf → f.seq.toNat = s.rxExp p → f.ack.ackV = false → f.ack.nakV = true → f.ack.snap = false →
      f.ack.credReq = 0 → f.ack.credRsp = 0 → s.goBack p = true → 512 ≤ seqDist f.ack.nakSeq.toNat (s.txNext p) →
      let un := (s.lnkOf p).replay.map (·.seq)
      let want := un.dropWhile (· ≠ f.ack.nakSeq.toNat)
      Yields (.nullFlitReceived p f false fill) s fun u =>
        (want ≠ [] → (u.lnkOf p).retx = (un.filter fun q => (s.lnkOf p).retx.contains q || want.contains q) ∧
          u.fld (LNK_NAK p) 16 16 = min (s.fld (LNK_NAK p) 16 16 + 1) 0xFFFF) ∧
        (want = [] → (u.lnkOf p).retx = (s.lnkOf p).retx ∧ u.reg (LNK_NAK p) = s.reg (LNK_NAK p)) ∧
        s.sameRegs u [LNK_WIN p, LNK_NAK p]) ∧
  (∀ (s : State) (p : Port) (f : Flit) (fill : ElasticFill), s.receives p = true → s.lnkState p = lnUp →
      fill ≠ .aboveHalf → f.seq.toNat = s.rxExp p → f.ack.ackV = false → f.ack.nakV = false → f.ack.snap = true →
      f.ack.init = false → s.faultClass (54 + p) ≤ 3 →
      let l := s.lnkOf p;
      let d := fun (v : Bool) => ((if v then f.ack.credRsp.toNat else f.ack.credReq.toNat) + 4096 - l.rel v % 4096 + l.leak v) % 4096;
      (s.tolerant p = true → l.leakReq + l.leakRsp + (if 1024 < d false then 4096 - d false else 0) +
        (if 1024 < d true then 4096 - d true else 0) ≤ 1024) →
      Yields (.nullFlitReceived p f false fill) s fun u =>
        (s.tolerant p = false → 1024 < d false ∨ 1024 < d true →
          u.lnkState p = lnDown ∧ u.fld (LNK_STAT p) 8 4 = 5 ∧ s.reports u (54 + p)) ∧
        (s.tolerant p = false → d false ≤ 1024 → d true ≤ 1024 → ∀ v, (u.lnkOf p).rel v = (if d v = 0 then l.rel v
            else (l.rel v + d v) % 4096) ∧ (u.lnkOf p).leak v = l.leak v) ∧
        (s.tolerant p = true → ∀ v,
          (1 ≤ d v → d v ≤ 1024 → (u.lnkOf p).leak v = l.leak v - min (d v) (l.leak v) ∧
            (u.lnkOf p).rel v = (l.rel v + (d v - min (d v) (l.leak v))) % 4096) ∧
          (1024 < d v → (u.lnkOf p).leak v = l.leak v + (4096 - d v) ∧ (u.lnkOf p).rel v = l.rel v)) ∧
        (s.tolerant p = true ∨ (d false ≤ 1024 ∧ d true ≤ 1024) → u.lnkState p = lnUp ∧
          u.fld (LNK_SNAP p) 0 16 = min (s.fld (LNK_SNAP p) 0 16 + (b2n (decide (1 ≤ d false ∧ d false ≤ 1024)) +
            b2n (decide (1 ≤ d true ∧ d true ≤ 1024)))) 0xFFFF ∧
          u.fld (LNK_SNAP p) 16 16 = min (s.fld (LNK_SNAP p) 16 16 + (b2n (decide (1024 < d false)) +
            b2n (decide (1024 < d true)))) 0xFFFF ∧
          ((1 ≤ d false ∧ d false ≤ 1024) ∨ (1 ≤ d true ∧ d true ≤ 1024) → (u.lnkOf p).alive = false) ∧
          (d false = 0 → d true = 0 → l.outV false + l.outV true ≠ 0 → (u.lnkOf p).alive = true))) ∧
  (∀ (s : State) (p : Port) (f : Flit) (fill : ElasticFill), s.receives p = true → s.lnkState p = lnUp →
      fill ≠ .aboveHalf → f.seq.toNat = s.rxExp p → f.ack.ackV = false → f.ack.nakV = false → f.ack.snap = false →
      f.ack.credReq.toNat ≤ 1024 → f.ack.credRsp.toNat ≤ 1024 → (s.lnkOf p).relReq < 4096 → (s.lnkOf p).relRsp < 4096 →
      Yields (.nullFlitReceived p f false fill) s fun u =>
        (u.lnkOf p).relReq = ((s.lnkOf p).relReq + f.ack.credReq.toNat) % 4096 ∧
        (u.lnkOf p).relRsp = ((s.lnkOf p).relRsp + f.ack.credRsp.toNat) % 4096 ∧
        (f.ack.credReq ≠ 0 ∨ f.ack.credRsp ≠ 0 → (u.lnkOf p).alive = false) ∧
        (f.ack.credReq = 0 → f.ack.credRsp = 0 → (s.lnkOf p).outV false + (s.lnkOf p).outV true ≠ 0 →
          (u.lnkOf p).alive = true) ∧ s.sameRegs u [LNK_WIN p]) ∧
  (∀ (s : State) (p : Port) (f : Flit), s.receives p = true → s.lnkState p = lnUp → quietAck f.ack →
      (s.lnkOf p).initSent = true → 512 ≤ seqDist f.seq.toNat (s.rxExp p) → s.headedFor = 0 →
      Yields (.flitReceived p f false) s fun u => (u.lnkOf p).ackDue = true ∧ (u.lnkOf p).held = (s.lnkOf p).held ∧
        u.txn.held = s.txn.held ∧ s.sameRegs u [LNK_WIN p]) ∧
  (∀ (s : State) (p : Port) (f : Flit) (fill : ElasticFill), s.receives p = true → s.lnkState p = lnUp →
      quietAck f.ack → f.seq.toNat = s.rxExp p → fill ≠ .aboveHalf →
      Yields (.nullFlitReceived p f false fill) s fun u => (u.lnkOf p).naks = (s.lnkOf p).naks ∧
        (u.lnkOf p).held = (s.lnkOf p).held ∧ (u.lnkOf p).replay = (s.lnkOf p).replay ∧ s.sameRegs u [LNK_WIN p]) ∧
  (∀ (s : State) (p : Port) (f : Flit), s.receives p = true →
      Yields (.nullFlitReceived p f false .aboveHalf) s fun u => (u.phyOf p).fill = .aboveHalf ∧ u.lnk = s.lnk ∧
        s.sameRegs u [] ∧ s.onlyRegs { u with phy := s.phy }) ∧
  (∀ (s : State) (p : Port) (f : Flit) (fill : ElasticFill), s.receives p = true → s.lnkState p = lnUp →
      f.ack.ackV = false → f.ack.nakV = true → f.ack.snap = false → f.ack.credReq = 0 → f.ack.credRsp = 0 →
      f.seq.toNat = s.rxExp p → fill ≠ .aboveHalf → s.goBack p = false →
      512 ≤ seqDist f.ack.nakSeq.toNat (s.txNext p) →
      let un := (s.lnkOf p).replay.map (·.seq)
      Yields (.nullFlitReceived p f false fill) s fun u =>
        (f.ack.nakSeq.toNat ∈ un → (u.lnkOf p).retx =
            un.filter (fun q => (s.lnkOf p).retx.contains q || q = f.ack.nakSeq.toNat) ∧
          u.fld (LNK_NAK p) 16 16 = min (s.fld (LNK_NAK p) 16 16 + 1) 0xFFFF) ∧
        (f.ack.nakSeq.toNat ∉ un → (u.lnkOf p).retx = (s.lnkOf p).retx ∧ u.reg (LNK_NAK p) = s.reg (LNK_NAK p)) ∧
        s.sameRegs u [LNK_WIN p, LNK_NAK p]) ∧
  (∀ (s : State) (p : Port) (f : Flit) (fill : ElasticFill), s.receives p = true → s.lnkState p = lnUp →
      quietAck f.ack → fill ≠ .aboveHalf → 1 ≤ seqDist f.seq.toNat (s.rxExp p) →
      seqDist f.seq.toNat (s.rxExp p) ≤ 512 → s.goBack p = false → (s.lnkOf p).marked = [] →
      Yields (.nullFlitReceived p f false fill) s fun u =>
        (u.lnkOf p).naks = (s.lnkOf p).naks ++ s.missing p (seqDist f.seq.toNat (s.rxExp p)) ∧
        s.sameRegs u [LNK_WIN p]) ∧
  (∀ (s : State) (p : Port), s.receives p = true → (s.lnkOf p).badCrc.length < 8 →
      Yields (.badFlitReceived p true false) s fun u => u.lnkState p = s.lnkState p ∧
        (u.lnkOf p).flits = (s.lnkOf p).flits + 1 ∧ s.sameRegs u [LNK_WIN p]) ∧
  (∀ (s : State) (p : Port), s.receives p = true → (s.lnkOf p).badUnc.length < 15 →
      Yields (.badFlitReceived p false false) s fun u => u.lnkState p = s.lnkState p ∧
        u.fld (PHY_UNCORR p) 0 32 = min (s.fld (PHY_UNCORR p) 0 32 + 1) 0xFFFFFFFF ∧
        s.sameRegs u [PHY_UNCORR p, LNK_WIN p]) ∧
  (∀ (s : State) (p : Port), s.locked p = true → s.lnkState p = lnDown →
      Yields (.badFlitReceived p false false) s fun u =>
        u.fld (PHY_UNCORR p) 0 32 = min (s.fld (PHY_UNCORR p) 0 32 + 1) 0xFFFFFFFF ∧
        s.sameRegs u [PHY_UNCORR p] ∧ s.onlyRegs u) ∧
  (∀ (s : State) (p : Port), s.receives p = true → s.faultClass (54 + p) ≤ 3 →
      8 ≤ ((s.lnkOf p).badCrc.filter fun i => (s.lnkOf p).flits < i + 0x100000).length →
      Yields (.badFlitReceived p true false) s fun u => u.lnkState p = lnDown ∧ u.fld (LNK_STAT p) 8 4 = 1 ∧
        u.flag (LNK_STAT p) 6 = true ∧ s.reports u (54 + p) ∧ (u.lnkOf p).replay = [])

/-- Flits sent, the timers of a link and a scheduled retrain. Drawn from R288, R292, R293, R294, R295, R297, R299,
R302, R304, R306, R308. Clauses about points that the spec leaves open or that are read by inference follow the model:
log entries 141, 142, 143, 144, 145. -/
def Obligations.LinkSending : Prop :=
  (∀ (s : State) (p : Port) (k : Packet) (rest : List Packet), s.lnkState p = lnUp → (s.phyOf p).training = false →
      (s.phyOf p).elecIdle = false → s.phyState p ≠ phDisabled → (s.lnkOf p).retx = [] → (s.lnkOf p).qRsp = k :: rest →
      (s.lnkOf p).replay.length < 512 → (s.lnkOf p).maySend (s.poolMin p) true = true → k.vc = true →
      (s.lnkOf p).peerInit = true → (s.lnkOf p).sinceNull < 1023 →
      Yields (.flitSend p) s fun u => u.txNext p = (s.txNext p + 1) % 1024 ∧ (u.lnkOf p).qRsp = rest ∧
        (u.lnkOf p).replay = (s.lnkOf p).replay ++ [{ seq := s.txNext p, pkt := { k with tag := none } }] ∧
        (∃ f, (u.lnkOf p).tx = some f ∧ f.type = k.type ∧ f.seq = BitVec.ofNat 10 (s.txNext p) ∧ f.payload = k.payload ∧
          f.tenant = k.tenant) ∧
        (∀ tag, k.tag = some tag → k.last = true → tfind u.txn.tags tag = none)) ∧
  (∀ (s : State) (p : Port), s.lnkState p = lnUp → (s.phyOf p).training = false → (s.phyOf p).elecIdle = false →
      s.phyState p ≠ phDisabled → (s.lnkOf p).retx = [] → (s.lnkOf p).qRsp = [] → (s.lnkOf p).qReq = [] →
      s.txn.msgWait = [] → (s.lnkOf p).naks = [] →
      Yields (.flitSend p) s fun u => u.txNext p = s.txNext p ∧ (u.lnkOf p).replay = (s.lnkOf p).replay ∧
        (∃ f, (u.lnkOf p).tx = some f ∧ f.type = 0 ∧ f.payload = [] ∧ f.ack.ackV = (s.lnkOf p).ackDue) ∧
        (u.lnkOf p).ackDue = false ∧ s.sameRegs u []) ∧
  (∀ (s : State) (p : Port), s.lnkState p = lnUp → (s.phyOf p).training = false → (s.phyOf p).elecIdle = false →
      s.phyState p ≠ phDisabled → 1023 ≤ (s.lnkOf p).sinceNull →
      Yields (.flitSend p) s fun u => u.txNext p = s.txNext p ∧ (u.lnkOf p).replay = (s.lnkOf p).replay ∧
        (u.lnkOf p).retx = (s.lnkOf p).retx ∧ (u.lnkOf p).qRsp = (s.lnkOf p).qRsp ∧ (u.lnkOf p).qReq = (s.lnkOf p).qReq ∧
        (u.lnkOf p).sinceNull = 0 ∧ (∃ f, (u.lnkOf p).tx = some f ∧ f.type = 0 ∧ f.payload = [])) ∧
  (∀ (s : State) (p : Port) (e : Sent), s.lnkState p = lnUp → (s.phyOf p).training = false →
      (s.phyOf p).elecIdle = false → s.phyState p ≠ phDisabled → (s.lnkOf p).retx = [e.seq] →
      (s.lnkOf p).replay.find? (fun x => x.seq = e.seq) = some e → (s.lnkOf p).sinceNull < 1023 →
      Yields (.flitSend p) s fun u => (u.lnkOf p).retx = [] ∧ u.txNext p = s.txNext p ∧
        u.fld (LNK_RETX p) 0 32 = min (s.fld (LNK_RETX p) 0 32 + 1) 0xFFFFFFFF ∧
        (∃ f, (u.lnkOf p).tx = some f ∧ f.seq = BitVec.ofNat 10 e.seq ∧ f.payload = e.pkt.payload)) ∧
  (∀ (s : State) (p : Port), s.lnkState p = lnUp → (s.phyOf p).training = false → (s.phyOf p).elecIdle = false →
      s.phyState p ≠ phDisabled →
      let l := s.lnkOf p
      let snap := decide (l.sinceSnap = 255)
      Yields (.flitSend p) s fun u =>
        (∀ f, (u.lnkOf p).tx = some f → f.ack.ackV = l.ackDue ∧
          (l.ackDue = true → f.ack.ackSeq = BitVec.ofNat 10 (seqDist (s.rxExp p) 1)) ∧ f.ack.nakV = !l.naks.isEmpty ∧
          f.ack.snap = snap ∧ f.ack.init = false ∧
          f.ack.credReq = BitVec.ofNat 12 (if snap then l.rcntReq else l.newReq) ∧
          f.ack.credRsp = BitVec.ofNat 12 (if snap then l.rcntRsp else l.newRsp)) ∧ (u.lnkOf p).tx.isSome = true ∧
        (l.naks ≠ [] → ∃ q ∈ l.naks, (∀ x ∈ l.naks, seqDist q (s.rxExp p) ≤ seqDist x (s.rxExp p)) ∧
          ((u.lnkOf p).tx.map fun f => f.ack.nakSeq) = some (BitVec.ofNat 10 q) ∧ (u.lnkOf p).naks = l.naks.filter (· ≠ q) ∧
          u.fld (LNK_NAK p) 0 16 = min (s.fld (LNK_NAK p) 0 16 + 1) 0xFFFF) ∧
        (l.naks = [] → u.reg (LNK_NAK p) = s.reg (LNK_NAK p)) ∧
        (u.lnkOf p).ackDue = false ∧ (u.lnkOf p).newReq = 0 ∧ (u.lnkOf p).newRsp = 0 ∧
        (u.lnkOf p).rcntReq = l.rcntReq ∧ (u.lnkOf p).rcntRsp = l.rcntRsp ∧
        (u.lnkOf p).sinceSnap = if snap then 0 else l.sinceSnap + 1) ∧
  (∀ (s : State) (p : Port), (s.lnkOf p).ackTimer = true →
      Yields (.ackTimerExpiry p) s fun u => (u.lnkOf p).ackDue = true ∧ s.sameRegs u [] ∧
        s.onlyRegs { u with lnk := s.lnk }) ∧
  (∀ (s : State) (p : Port), (s.lnkOf p).replay ≠ [] → (s.lnkOf p).expiries < 7 →
      Yields (.replayTimerExpiry p) s fun u => (u.lnkOf p).retx = (s.lnkOf p).replay.map (·.seq) ∧
        u.fld (LNK_REPLAY p) 16 16 = min (s.fld (LNK_REPLAY p) 16 16 + 1) 0xFFFF ∧ s.sameRegs u [LNK_REPLAY p] ∧
        s.onlyRegs { u with lnk := s.lnk }) ∧
  (∀ (s : State) (p : Port), (s.lnkOf p).replay ≠ [] → (s.lnkOf p).expiries = 7 → s.locked p = true →
      s.lnkState p ≠ lnDown → s.faultClass (54 + p) ≤ 3 →
      Yields (.replayTimerExpiry p) s fun u => u.lnkState p = lnDown ∧ u.fld (LNK_STAT p) 8 4 = 3 ∧
        u.flag (LNK_STAT p) 6 = true ∧ s.reports u (54 + p) ∧
        u.fld (LNK_DOWNS p) 0 16 = min (s.fld (LNK_DOWNS p) 0 16 + 1) 0xFFFF) ∧
  (∀ (s : State) (p : Port), s.lnkState p ≠ lnDown → s.locked p = true →
      (s.lnkOf p).outV false + (s.lnkOf p).outV true ≠ 0 → (s.lnkOf p).alive = true → s.tolerant p = true →
      Yields (.creditTimeout p) s fun u => u.flag (LNK_STAT p) 5 = true ∧ u.lnkState p = s.lnkState p ∧
        s.sameRegs u [LNK_STAT p] ∧ s.onlyRegs u) ∧
  (∀ (s : State) (p : Port), s.lnkState p ≠ lnDown → s.locked p = true →
      (s.lnkOf p).outV false + (s.lnkOf p).outV true ≠ 0 → (s.lnkOf p).alive = true → s.tolerant p = false →
      s.faultClass (54 + p) ≤ 3 →
      Yields (.creditTimeout p) s fun u => u.lnkState p = lnDown ∧ u.fld (LNK_STAT p) 8 4 = 4 ∧
        u.flag (LNK_STAT p) 6 = true ∧ s.reports u (54 + p)) ∧
  (∀ (s : State) (p : Port), s.phyState p = phActive → (s.lnkOf p).replay = [] → (s.lnkOf p).held = [] →
      (s.lnkOf p).ackedTo = seqDist (s.rxExp p) 1 → s.pwr.entry = some (2, .last) → (s.phyOf p).idleMarks = none →
      Yields (.idlePoint p) s fun u => (u.phyOf p).idleMarks.isSome = true ∧ (u.phyOf p).training = true ∧
        (u.lnkOf p).quiet = true ∧ s.sameRegs u []) ∧
  (∀ (s : State) (p : Port), (s.lnkOf p).replay ≠ [] ∨ (s.lnkOf p).held ≠ [] ∨ (s.lnkOf p).ackedTo ≠ seqDist (s.rxExp p) 1 →
      Yields (.idlePoint p) s fun u => (u.lnkOf p).quiet = true ∧ u.phy = s.phy ∧ s.sameRegs u []) ∧
  (∀ (s : State) (p : Port), s.flag (LNK_STAT p) 4 = true → s.phyState p = phActive → (s.lnkOf p).replay = [] →
      (s.lnkOf p).held = [] → (s.lnkOf p).ackedTo = seqDist (s.rxExp p) 1 → s.portEnabled p = true →
      s.pwr.entry ≠ some (2, .last) →
      Yields (.idlePoint p) s fun u => u.flag (LNK_STAT p) 4 = false ∧ u.phyState p = phCdr ∧
        (u.phyOf p).training = true ∧ s.sameRegs u [LNK_STAT p, PHY_STAT p, PHY_TRAIN p]) ∧
  (∀ (s : State) (t : Requester) (p : Port) (w : Word), s.takes t (LNK_CTRL p) → w.getLsbD 0 = true →
      w.getLsbD 1 = false →
      Yields (.scheduleRetrain t p w) s fun u => u.flag (LNK_STAT p) 4 = true ∧
        (∀ i, i < 32 → i ≠ 4 → u.flag (LNK_STAT p) i = s.flag (LNK_STAT p) i) ∧ s.sameRegs u [LNK_STAT p] ∧ s.onlyRegs u)

/-- Frames, lines and the states of a channel. Drawn from R343, R345, R352, R353, R354, R355, R356, R357, R468, Table
16-3. Clauses about points that the spec leaves open or that are read by inference follow the model: log entries 33,
158, 159, 160, 161, 162, 163. -/
def Obligations.ChannelFrames : Prop :=
  (∀ (s : State) (n : Fin 4) (pd : List (List PdRun)), s.chState n ≠ chOff → s.chState n ≠ chStarting →
      (s.chanOf n).pixFault = false → s.tts = [] ∨ (∀ k, k < 128 → k ≠ 81 → s.faultClass k ≤ 3) →
      let off := if s.flag (CH_CTRL n) 0 = true ∧ (s.chanRec n).isSome = true then chStarting else chOff
      Yields (.frameStart n pd) s fun u => u.fld (CH_POS n) 0 16 = 0 ∧
        u.fld (CH_POS n) 16 16 = (s.fld (CH_POS n) 16 16 + 1) % 65536 ∧ u.flag (CH_ISTAT n) 0 = true ∧
        (s.chState n = chSettle ∨ s.chState n = chRun → u.chState n = chRun) ∧
        (s.chState n = chBlack → u.chState n = if (s.chanOf n).resume then chRun else chBlack) ∧
        (s.chState n = chBlanking → u.chState n =
          if 1 < (s.chanOf n).blackLeft then chBlanking else if (s.chanOf n).stopAfter then off
          else if (s.chanOf n).resume then chRun else chBlack) ∧
        (s.chState n = chStopping → u.chState n = if 1 < (s.chanOf n).blackLeft then chStopping else off)) ∧
  (∀ (s : State) (n : Fin 4) (pd : List (List PdRun)), s.chState n = chRun → (s.chanOf n).pixFault = false →
      s.tts = [] ∨ (∀ k, k < 128 → k ≠ 81 → s.faultClass k ≤ 3) → s.flag (CH_STAT n) 8 = true → s.flag FLT_SAFE 0 = false →
      s.flag FLT_SAFE (4 + n) = false →
      Yields (.frameStart n pd) s fun u => u.flag (CH_STAT n) 8 = false ∧ (u.chanOf n).safe = false ∧
        (s.commitFails n = none → u.flag (CH_ISTAT n) 2 = true ∧ (u.chanOf n).palWork = (s.chanOf n).palShadow ∧
          ∀ e ∈ layerRegs n, tget 0 (u.chanOf n).work e.1 = s.reg e.2) ∧
        (∀ m, s.commitFails n = some m → u.flag (CH_STAT n) 9 = true ∧ u.fld (CH_STAT n) 12 3 = m % 8 ∧
          u.flag (CH_ISTAT n) 3 = true ∧ (u.chanOf n).work = (s.chanOf n).work ∧
          (u.chanOf n).palWork = (s.chanOf n).palWork)) ∧
  (∀ (s : State) (n : Fin 4) (pd : List (List PdRun)), s.chState n = chRun ∨ s.chState n = chSettle ∨ s.chState n = chBlack →
      (s.chanOf n).pixFault = false → s.tts = [] ∨ (∀ k, k < 128 → k ≠ 81 → s.faultClass k ≤ 3) →
      Yields (.frameStart n pd) s fun u =>
        (s.flag FLT_SAFE 0 = true ∨ s.flag FLT_SAFE (4 + n) = true → (u.chanOf n).safe = true ∧
          u.flag (CH_STAT n) 8 = s.flag (CH_STAT n) 8 ∧ (u.chanOf n).work = (s.chanOf n).work ∧
          (u.chanOf n).palWork = (s.chanOf n).palWork ∧
          ∀ m, m < 6 → u.flag (CH_STAT n) (16 + m) = bit ((s.chanOf n).layer m 0) 0) ∧
        (s.flag FLT_SAFE 0 = false → s.flag FLT_SAFE (4 + n) = false → (u.chanOf n).safe = false ∧
          ∀ m, m < 6 → u.flag (CH_STAT n) (16 + m) = ((u.workLayer n m).counts && s.layerHeld (u.workLayer n m)))) ∧
  (∀ (s : State) (n : Fin 4) (missing : List Nat) (r : ChannelRec), s.chanRec n = some r → s.chState n ≠ chOff →
      s.chState n ≠ chStarting → (s.chanOf n).resync = false → s.mem.fill = [] → s.mem.poison = [] → s.mem.weak = [] →
      s.faultClass (62 + n) ≤ 3 →
      Yields (.lineEnd n missing) s fun u =>
        u.fld (CH_POS n) 0 16 = (s.fld (CH_POS n) 0 16 + 1) % vTotal r % 65536 ∧
        u.fld (CH_POS n) 16 16 = s.fld (CH_POS n) 16 16 ∧ u.chState n = s.chState n ∧ u.mem = s.mem) ∧
  (∀ (s : State) (n : Fin 4) (missing : List Nat) (r : ChannelRec), s.chanRec n = some r → s.chState n = chRun →
      (s.chanOf n).resync = false → s.mem.fill = [] → s.mem.weak = [] → (∀ k, k < 128 → k ≠ 81 → s.faultClass k ≤ 3) →
      s.fld (CH_POS n) 0 16 < r.vactive →
      let y := s.fld (CH_POS n) 0 16
      let ls := s.shownLayers n
      let bad := fun x => s.pixelBad ls x y r.hactive || (missing.contains x && columnFetched ls x y r.hactive)
      let subst := (List.range r.hactive).any bad
      let value := fun x => if bad x then
          (match (s.chanOf n).lastGood with
           | some l => if bit r.flags 2 then s.fillPixel n else l.getD x (s.fillPixel n)
           | none => s.fillPixel n)
        else s.composed n ls x y r.hactive
      Yields (.lineEnd n missing) s fun u =>
        (subst = true → u.fld (CH_UNDERRUN n) 0 16 = min (s.fld (CH_UNDERRUN n) 0 16 + 1) 0xFFFF ∧
          u.flag (CH_ISTAT n) 1 = true ∧ (u.chanOf n).frameSubst = true ∧ (u.chanOf n).lastGood = (s.chanOf n).lastGood ∧
          u.fld (CH_UNDERRUN n) 16 16 = (if (s.chanOf n).frameSubst then s.fld (CH_UNDERRUN n) 16 16
            else min (s.fld (CH_UNDERRUN n) 16 16 + 1) 0xFFFF) ∧
          ((s.chanOf n).frameSubst = false → u.flag (FLT_SEEN ((62 + n) / 32)) ((62 + n) % 32) = true ∧
            tget 0 u.flt.counts (62 + n) = min (tget 0 s.flt.counts (62 + n) + 1) 0xFFFF)) ∧
        (subst = false → u.reg (CH_UNDERRUN n) = s.reg (CH_UNDERRUN n) ∧ u.reg (CH_ISTAT n) = s.reg (CH_ISTAT n) ∧
          (u.chanOf n).lastGood = some ((List.range r.hactive).map value) ∧
          (u.chanOf n).frameSubst = (s.chanOf n).frameSubst) ∧
        (s.sinkCrcOn n = true → (u.chanOf n).egress = (s.chanOf n).egress ++
          [(List.range r.hactive).map fun x => s.outPixel n x y (value x)])) ∧
  (∀ (s : State) (n : Fin 4) (pd : List (List PdRun)),
      s.chState n = chOff ∨ s.chState n = chStarting ∨ (s.chanOf n).pixFault = true →
      Yields (.frameStart n pd) s fun u => s.sameRegs u [] ∧ s.onlyRegs u) ∧
  (∀ (s : State) (n : Fin 4) (missing : List Nat),
      s.chState n = chOff ∨ s.chState n = chStarting ∨ (s.chanOf n).resync = true →
      Yields (.lineEnd n missing) s fun u => s.sameRegs u [] ∧ s.onlyRegs u) ∧
  (∀ (s : State) (n : Fin 4), s.chState n = chStarting →
      let latch := s.flag FLT_SAFE 0 || s.flag FLT_SAFE (4 + n)
      Yields (.channelLoadDone n) s fun u => u.chState n = chSettle ∧ u.fld (CH_POS n) 0 16 = 0 ∧
        u.fld (CH_POS n) 16 16 = (s.fld (CH_POS n) 16 16 + 1) % 65536 ∧ u.flag (CH_ISTAT n) 0 = true ∧
        (u.chanOf n).safe = latch ∧
        (s.flag (CH_STAT n) 8 = false ∨ latch = true → (u.chanOf n).work = (s.chanOf n).work ∧
          u.flag (CH_STAT n) 8 = s.flag (CH_STAT n) 8) ∧
        (s.flag (CH_STAT n) 8 = true → latch = false → u.flag (CH_STAT n) 8 = false ∧
          (s.commitFails n = none → u.flag (CH_ISTAT n) 2 = true ∧
            ∀ e ∈ layerRegs n, tget 0 (u.chanOf n).work e.1 = s.reg e.2)) ∧
        (∀ m, m < 6 → u.flag (CH_STAT n) (16 + m) = if latch then bit ((u.chanOf n).layer m 0) 0
          else (u.workLayer n m).counts && s.layerHeld (u.workLayer n m)) ∧ u.mem = s.mem ∧ u.nv = s.nv) ∧
  (∀ (s : State) (n : Fin 4), s.chState n ≠ chStarting →
      Yields (.channelLoadDone n) s fun u => s.sameRegs u [] ∧ s.onlyRegs u)

/-- Commands to a channel. Drawn from R343, R344, R353, R357. Clauses about points that the spec leaves open or that
are read by inference follow the model: log entries 9, 160. -/
def Obligations.ChannelCommands : Prop :=
  (∀ (s : State) (t : Requester) (n : Fin 4) (w : Word), s.takes t (CH_CTRL n) → w.getLsbD 0 = true →
      rbReject s.bounds (some (whoOf t)) (CH_CTRL n) (s.reg (CH_CTRL n)) w = none → s.chState n = chOff →
      (s.chanRec n).isSome = true →
      Yields (.channelActivate t n w) s fun u => u.lastStatus = stOk ∧ u.flag (CH_CTRL n) 0 = true ∧
        u.chState n = chStarting ∧ (u.chanOf n).palShadow = s.imagePalette n ∧
        (u.chanOf n).safe = (s.flag FLT_SAFE 0 || s.flag FLT_SAFE (4 + n)) ∧
        (∀ m, m < 6 → u.flag (CH_STAT n) (16 + m) =
          ((s.flag FLT_SAFE 0 || s.flag FLT_SAFE (4 + n)) && bit (s.reg (CH_L_CTRL n m)).toNat 0)) ∧
        ∀ e ∈ layerRegs n, tget 0 (u.chanOf n).work e.1 = s.reg e.2) ∧
  (∀ (s : State) (t : Requester) (n : Fin 4) (w : Word), s.takes t (CH_CTRL n) → w.getLsbD 0 = false →
      rbReject s.bounds (some (whoOf t)) (CH_CTRL n) (s.reg (CH_CTRL n)) w = none → s.flag (CH_CTRL n) 0 = true →
      s.ttsWf → s.chState n = chRun →
      Yields (.channelDeactivate t n w) s fun u => u.lastStatus = stOk ∧ u.flag (CH_CTRL n) 0 = false ∧
        u.chState n = chStopping ∧ (u.chanOf n).blackLeft = 2 ∧ (u.chanOf n).live = false ∧
        ∀ r ∈ s.tts, r.channel = n → 2 ≤ s.ttState r.index → u.ttState r.index = ttWait) ∧
  (∀ (s : State) (t : Requester) (n : Fin 4) (w : Word), s.takes t (CH_CTRL n) → w.getLsbD 1 = true →
      w.getLsbD 0 = s.flag (CH_CTRL n) 0 → bits w.toNat 4 2 = s.fld (CH_CTRL n) 4 2 →
      (s.flag (CH_CTRL n) 0 = true → s.chState n ≠ chOff) →
      Yields (.commit t n w) s fun u => u.lastStatus = stOk ∧ u.flag (CH_STAT n) 8 = true ∧ u.chState n = s.chState n ∧
        s.sameRegs u [CH_STAT n] ∧ s.onlyRegs u) ∧
  (∀ (s : State) (t : Requester) (n : Fin 4) (w : Word), s.takes t (CH_PAL_A n) →
      rbReject s.bounds (some (whoOf t)) (CH_PAL_A n) (s.reg (CH_PAL_A n)) w = none →
      Yields (.paletteEntryWrite t n w) s fun u =>
        tget 0 (u.chanOf n).palShadow (s.fld (CH_PAL_IDX n) 16 3 * 1024 + s.fld (CH_PAL_IDX n) 0 10) =
          BitVec.ofNat 40 (s.fld (CH_PAL_RGB n) 0 30 + bits w.toNat 0 10 * 2 ^ 30) ∧
        u.fld (CH_PAL_IDX n) 0 10 = (s.fld (CH_PAL_IDX n) 0 10 + 1) % 1024 ∧
        (∀ m, m ≠ n.val → u.chanOf m = s.chanOf m) ∧ (u.chanOf n).palWork = (s.chanOf n).palWork ∧
        s.sameRegs u [CH_PAL_A n, CH_PAL_IDX n])

/-- Hot plug and the training of an eDP output. Drawn from R360, R361, R362, R371, R372, R375. Clauses about points
that the spec leaves open or that are read by inference follow the model: log entries 164, 165, 166. -/
def Obligations.OutputTraining : Prop :=
  (∀ (s : State) (n : Fin 4), s.outMode n = 0 →
      Yields (.hpdRise n) s fun u => u.flag (OUT_STAT n) 9 = true ∧
        (s.outState n = outWaitHpd → (s.outOf n).aux = none → (s.outOf n).fw = none → u.outState n = outTraining ∧
          (u.outOf n).step = .caps ∧ (u.outOf n).aux = some (devOp false 0 16 []) ∧ u.reg (OUT_VS n) = 0 ∧
          u.fld (OUT_TRAIN n) 0 16 = min (s.fld (OUT_TRAIN n) 0 16 + 1) 0xFFFF) ∧
        (s.outState n ≠ outWaitHpd → s.sameRegs u [OUT_STAT n] ∧ s.onlyRegs u)) ∧
  (∀ (s : State) (n : Fin 4), s.outMode n = 0 →
      Yields (.hpdIrq n) s fun u => u.fld (OUT_HPD_CNT n) 0 16 = min (s.fld (OUT_HPD_CNT n) 0 16 + 1) 0xFFFF ∧
        (s.outState n = outVideo → (s.outOf n).aux = none → (u.outOf n).step = .linkCheck ∧
          (u.outOf n).aux = some (devOp false 0x200 6 [])) ∧
        (s.outState n = outVideo → (s.outOf n).aux.isSome = true → (u.outOf n).aux = (s.outOf n).aux ∧
          .linkCheck ∈ (u.outOf n).want) ∧ s.sameRegs u [OUT_HPD_CNT n]) ∧
  (∀ (s : State) (n : Fin 4), s.outMode n = 0 → s.faultClass (66 + n) ≤ 3 →
      Yields (.hpdLoss n) s fun u => u.flag (OUT_STAT n) 9 = false ∧
        u.fld (OUT_HPD_CNT n) 16 16 = min (s.fld (OUT_HPD_CNT n) 16 16 + 1) 0xFFFF ∧
        u.flag (OUT_ISTAT n) 2 = true ∧ s.reports u (66 + n) ∧
        (2 ≤ s.outState n → u.outState n = outWaitHpd ∧ u.flag (OUT_STAT n) 8 = false) ∧
        (s.outState n < 2 → u.outState n = s.outState n ∧ u.outOf n = s.outOf n ∧
          s.sameRegs u (OUT_STAT n :: OUT_HPD_CNT n :: OUT_ISTAT n :: faultRegs))) ∧
  (∀ (s : State) (n : Fin 4), s.outMode n ≠ 0 → ∀ c ∈ [Instr.hpdRise n, .hpdIrq n, .hpdLoss n],
      Yields c s fun u => s.sameRegs u [] ∧ s.onlyRegs u) ∧
  (∀ (s : State) (n : Fin 4), s.outState n = outRetry → s.flag (OUT_STAT n) 9 = true → (s.outOf n).aux = none →
      (s.outOf n).fw = none →
      Yields (.panelTrainingRetry n) s fun u => u.outState n = outTraining ∧ (u.outOf n).step = .caps ∧
        (u.outOf n).aux = some (devOp false 0 16 []) ∧
        u.fld (OUT_TRAIN n) 0 16 = min (s.fld (OUT_TRAIN n) 0 16 + 1) 0xFFFF) ∧
  (∀ (s : State) (t : Requester) (n : Fin 4) (w : Word), s.takes t (OUT_CTRL n) → w.getLsbD 0 = true →
      s.outState n = outVideo → (s.outOf n).aux = none → (s.outOf n).fw = none →
      Yields (.outputRetrain t n w) s fun u => u.lastStatus = stOk ∧ u.outState n = outTraining ∧
        u.flag (OUT_STAT n) 8 = false ∧ (u.outOf n).step = .caps) ∧
  (∀ (s : State) (n : Fin 4) (k l : Nat), (s.outOf n).step = .crWait k l → (s.outOf n).aux = none →
      Yields (.trainingReadInterval n) s fun u => (u.outOf n).step = .crRead k l ∧
        (u.outOf n).aux = some (devOp false 0x202 6 []) ∧ s.sameRegs u [] ∧ s.onlyRegs { u with out := s.out }) ∧
  (∀ (s : State) (n : Fin 4) (k : Nat), (s.outOf n).step = .eqWait k → (s.outOf n).aux = none →
      Yields (.trainingReadInterval n) s fun u => (u.outOf n).step = .eqRead k ∧
        (u.outOf n).aux = some (devOp false 0x202 6 []) ∧ s.sameRegs u [] ∧ s.onlyRegs { u with out := s.out })

/-- The AUX wire. Drawn from R364, R365, R367, R374. Clauses about points that the spec leaves open or that are read
by inference follow the model: log entries 164, 167, 168, 170. -/
def Obligations.AuxTransactions : Prop :=
  (∀ (s : State) (n : Fin 4) (op : AuxOp), (s.outOf n).aux = some op → op.waiting = false →
      Yields (.auxTransactionDone n .defer) s fun u => (u.outOf n).aux = some { op with waiting := true } ∧
        s.sameRegs u [] ∧ s.onlyRegs { u with out := s.out }) ∧
  (∀ (s : State) (n : Fin 4) (op : AuxOp), (s.outOf n).aux = some op → op.waiting = false → op.firmware = true →
      (s.outOf n).want = [] → (s.outOf n).fw = none →
      Yields (.auxTransactionDone n .nack) s fun u => (u.outOf n).aux = none ∧ u.flag (OUT_AUX_STAT n) 0 = false ∧
        u.fld (OUT_AUX_STAT n) 4 4 = 1 ∧ u.flag (OUT_ISTAT n) 3 = true ∧
        s.sameRegs u [OUT_AUX_STAT n, OUT_ISTAT n]) ∧
  (∀ (s : State) (n : Fin 4) (op : AuxOp) (data : List Byte), (s.outOf n).aux = some op → op.waiting = false →
      op.firmware = true → op.write = false → op.len ≤ 16 → data.length = op.len → (s.outOf n).want = [] →
      (s.outOf n).fw = none →
      Yields (.auxTransactionDone n (.ack data)) s fun u => (u.outOf n).aux = none ∧
        u.flag (OUT_AUX_STAT n) 0 = false ∧ u.fld (OUT_AUX_STAT n) 4 4 = 0 ∧ u.fld (OUT_AUX_STAT n) 8 5 = op.len ∧
        (∀ i, i < op.len → u.fld (OUT_AUX_DATA n (i / 4)) (8 * (i % 4)) 8 = (data.getD i 0).toNat) ∧
        u.flag (OUT_ISTAT n) 3 = true) ∧
  (∀ (s : State) (n : Fin 4) (op : AuxOp) (data : List Byte), (s.outOf n).aux = some op → op.waiting = false →
      op.firmware = false → (s.outOf n).step = .caps → (s.outOf n).want = [] → (s.outOf n).fw = none →
      s.capsOk n data = true →
      Yields (.auxTransactionDone n (.ack data)) s fun u => (u.outOf n).step = .config 0 ∧ (u.outOf n).caps = data ∧
        (∃ x, (u.outOf n).aux = some x ∧ x.write = true ∧ x.addr = 0x100 ∧ x.len = 2) ∧ s.sameRegs u [OUT_STAT n]) ∧
  (∀ (s : State) (n : Fin 4) (op : AuxOp), (s.outOf n).aux = some op → op.waiting = false → op.retries < 2 →
      Yields (.auxTimeout n) s fun u => (u.outOf n).aux = some { op with retries := op.retries + 1 } ∧
        s.sameRegs u [] ∧ s.onlyRegs { u with out := s.out }) ∧
  (∀ (s : State) (n : Fin 4) (op : AuxOp), (s.outOf n).aux = some op → op.waiting = false → 2 ≤ op.retries →
      op.firmware = true → (s.outOf n).want = [] → (s.outOf n).fw = none →
      Yields (.auxTimeout n) s fun u => (u.outOf n).aux = none ∧ u.flag (OUT_AUX_STAT n) 0 = false ∧
        u.fld (OUT_AUX_STAT n) 4 4 = 3 ∧ s.sameRegs u [OUT_AUX_STAT n, OUT_ISTAT n]) ∧
  (∀ (s : State) (n : Fin 4) (op : AuxOp), (s.outOf n).aux = some op → op.waiting = true → op.defers < 7 →
      Yields (.auxDeferRetry n) s fun u => (u.outOf n).aux = some { op with defers := op.defers + 1, waiting := false } ∧
        s.sameRegs u [] ∧ s.onlyRegs { u with out := s.out }) ∧
  (∀ (s : State) (n : Fin 4) (op : AuxOp), (s.outOf n).aux = some op → op.waiting = true → 7 ≤ op.defers →
      op.firmware = true → (s.outOf n).want = [] → (s.outOf n).fw = none →
      Yields (.auxDeferRetry n) s fun u => (u.outOf n).aux = none ∧ u.fld (OUT_AUX_STAT n) 4 4 = 2 ∧
        s.sameRegs u [OUT_AUX_STAT n, OUT_ISTAT n]) ∧
  (∀ (s : State) (t : Requester) (n : Fin 4) (w : Word), s.takes t (OUT_AUX_CMD n) → w.getLsbD 31 = true →
      s.flag (OUT_AUX_STAT n) 0 = false → s.outMode n = 0 → s.outState n ≠ outIdle → bits w.toNat 20 5 ≠ 0 →
      (w.getLsbD 28 && auxDenied (bits w.toNat 0 20) (min 16 (bits w.toNat 20 5))) = false →
      (s.outOf n).aux = none → (s.outOf n).want = [] → (s.outOf n).step = .none →
      Yields (.auxCommand t n w) s fun u => u.flag (OUT_AUX_STAT n) 0 = true ∧
        (∃ op, (u.outOf n).aux = some op ∧ op.firmware = true ∧ op.write = w.getLsbD 28 ∧ op.addr = bits w.toNat 0 20 ∧
          op.len = min 16 (bits w.toNat 20 5)) ∧ s.sameRegs u [OUT_AUX_CMD n, OUT_AUX_STAT n]) ∧
  (∀ (s : State) (t : Requester) (n : Fin 4) (w : Word), s.takes t (OUT_AUX_CMD n) → w.getLsbD 31 = true →
      s.flag (OUT_AUX_STAT n) 0 = false → s.outMode n = 0 → s.outState n ≠ outIdle → w.getLsbD 28 = true →
      bits w.toNat 20 5 ≠ 0 → auxDenied (bits w.toNat 0 20) (min 16 (bits w.toNat 20 5)) = true →
      Yields (.auxCommand t n w) s fun u => u.flag (OUT_AUX_STAT n) 0 = false ∧ u.fld (OUT_AUX_STAT n) 4 4 = 4 ∧
        s.sameRegs u [OUT_AUX_CMD n, OUT_AUX_STAT n, OUT_ISTAT n] ∧ s.onlyRegs u) ∧
  (∀ (s : State) (n : Fin 4), s.outState n = outVideo → s.flag (OUT_STAT n) 10 = true →
      Yields (.sinkCrcRead n) s fun u =>
        ((s.outOf n).aux = none → (u.outOf n).step = .crcRead ∧ (u.outOf n).aux = some (devOp false 0x240 7 [])) ∧
        ((s.outOf n).aux.isSome = true → (u.outOf n).aux = (s.outOf n).aux ∧ (u.outOf n).step = (s.outOf n).step ∧
          .crcRead ∈ (u.outOf n).want) ∧ s.sameRegs u [] ∧ s.onlyRegs { u with out := s.out }) ∧
  (∀ (s : State) (n : Fin 4), s.outState n ≠ outVideo ∨ s.flag (OUT_STAT n) 10 = false →
      Yields (.sinkCrcRead n) s fun u => s.sameRegs u [] ∧ s.onlyRegs u)

/-- The windows of E, S, O and L, the deadline of proof, and faults of LED sinks. Drawn from R383, R384, R385, R387,
R388, R389, R391, R400, Tables 18-4, 18-6. Clauses about points that the spec leaves open or that are read by
inference follow the model: log entries 171, 172, 173, 174, 177, 178. -/
def Obligations.ProofWindows : Prop :=
  (∀ (s : State) (j : Fin 64) (r : TelltaleRec) (samples : List Code), s.ttRec j = some r → (s.ttOf j).lWin = true →
      2 ≤ s.ttState j → bit r.methods 3 = true → s.methodRuns r 3 = true → (s.ttOf j).lBad = false →
      s.flag (LED_CUR r.led) 31 = true →
      (∀ c ∈ samples, c.toNat ≤ s.fld (LED_CUR r.led) 0 10 + s.fld LED_CFG 0 10 ∧
        s.fld (LED_CUR r.led) 0 10 ≤ c.toNat + s.fld LED_CFG 0 10) →
      Yields (.lWindowEnd j samples) s fun u => u.verdict j 3 = 2 ∧ u.unavail j 3 = false ∧ (u.ttOf j).lWin = true ∧
        (u.ttOf j).lInc = 0 ∧
        (∀ c, samples.getLast? = some c → u.fld (LED_CUR r.led) 16 10 = c.toNat) ∧
        (r.methods = 8 → (∀ m, m < 3 → s.verdict j m ≠ 3) → u.ttState j = ttProven)) ∧
  (∀ (s : State) (j : Fin 64) (r : TelltaleRec) (samples : List Code), s.ttRec j = some r → (s.ttOf j).lWin = true →
      2 ≤ s.ttState j → bit r.methods 3 = true → s.methodRuns r 3 = true →
      s.faultClass (if bit r.flags 0 then 70 else 71) ≤ 3 →
      ((s.ttOf j).lBad = true ∨ ∃ c ∈ samples, s.fld (LED_CUR r.led) 0 10 + s.fld LED_CFG 0 10 < c.toNat ∨
        c.toNat + s.fld LED_CFG 0 10 < s.fld (LED_CUR r.led) 0 10) →
      Yields (.lWindowEnd j samples) s fun u => u.verdict j 3 = 3 ∧ u.ttState j = ttFailed ∧
        u.flag (TT_FAIL (j / 32)) (j % 32) = true ∧ u.flag TT_ISTAT 0 = true ∧
        u.fld (TT_S j) 24 8 = min (s.fld (TT_S j) 24 8 + 1) 255 ∧ s.reports u (if bit r.flags 0 then 70 else 71)) ∧
  (∀ (s : State) (j : Fin 64) (r : TelltaleRec), s.ttRec j = some r → bit r.flags 0 = true →
      s.fld TT_DEADLINE 0 16 ≠ 0 → s.ttState j ≠ ttOff → (s.ttOf j).dlDone = false → ¬(2 ≤ s.ttState j ∧ s.elecProven r = true) →
      s.faultClass 72 ≤ 3 →
      Yields (.proofDeadline j) s fun u => u.flag TT_ISTAT 1 = true ∧ (u.ttOf j).dlDone = true ∧ s.reports u 72 ∧
        s.sameRegs u (TT_ISTAT :: faultRegs)) ∧
  (∀ (s : State) (j : Fin 64), (∀ r, s.ttRec j = some r → bit r.flags 0 = false ∨ s.fld TT_DEADLINE 0 16 = 0 ∨
        s.ttState j = ttOff ∨ (s.ttOf j).dlDone = true ∨ (2 ≤ s.ttState j ∧ s.elecProven r = true)) →
      Yields (.proofDeadline j) s fun u => s.sameRegs u [] ∧ s.onlyRegs u) ∧
  (∀ (s : State) (n : Fin 32) (short : Bool) (r : TelltaleRec), (s.tts.find? fun r => r.led = n.val) = some r →
      s.flag (LED_CUR n) 31 = true → (s.ttOf r.index).lWin = false →
      Yields (.ledFaultFlag n short) s fun u => u.flag (if short then LED_SHORT else LED_OPEN) n = true ∧
        u.flag (LED_CUR n) (if short then 29 else 28) = true ∧ u.flag (LED_CUR n) 31 = false ∧
        u.proof.ledRetry.getLsbD n = true ∧ s.sameRegs u [if short then LED_SHORT else LED_OPEN, LED_CUR n] ∧
        s.onlyRegs { u with proof := s.proof }) ∧
  (∀ (s : State) (n : Fin 32) (short : Bool) (r : TelltaleRec), (s.tts.find? fun r => r.led = n.val) = some r →
      s.flag (LED_CUR n) 31 = true → (s.ttOf r.index).lWin = true → 2 ≤ s.ttState r.index →
      r.index < 64 → s.faultClass (if bit r.flags 0 then 70 else 71) ≤ 3 →
      Yields (.ledFaultFlag n short) s fun u => u.flag (if short then LED_SHORT else LED_OPEN) n = true ∧
        u.flag (LED_CUR n) 31 = false ∧ u.verdict r.index 3 = 3 ∧ u.ttState r.index = ttFailed ∧
        (u.ttOf r.index).lWin = false ∧ s.reports u (if bit r.flags 0 then 70 else 71)) ∧
  (∀ (s : State) (n : Fin 32) (r : TelltaleRec), s.proof.ledRetry.getLsbD n = true →
      (s.tts.find? fun r => r.led = n.val) = some r → r.index < 64 → 2 ≤ s.ttState r.index → bit r.methods 3 = false →
      s.fld (LED_CUR n) 0 10 ≠ 0 →
      Yields (.ledRetry n) s fun u => u.flag (LED_CUR n) 31 = true ∧ u.fld (LED_CUR n) 28 2 = 0 ∧
        u.proof.ledRetry.getLsbD n = false ∧
        ∀ a, a ≠ LED_CUR n → blockOf a ≠ 64 → blockOf a ≠ 65 → u.reg a = s.reg a) ∧
  (∀ (s : State) (n : Fin 32), s.proof.ledRetry.getLsbD n = false →
      Yields (.ledRetry n) s fun u => s.sameRegs u [] ∧ s.onlyRegs u) ∧
  (∀ (s : State) (n : Fin 4) (pd : List (List PdRun)) (r : TelltaleRec) (k : Nat), s.chState n = chRun →
      (s.chanOf n).pixFault = false → (s.chanOf n).live = true → (∀ k, k < 128 → k ≠ 81 → s.faultClass k ≤ 3) →
      s.ttsWf → r ∈ s.tts → r.channel = n → 2 ≤ s.ttState r.index →
      bit r.methods 0 = true → (s.ttOf r.index).eWin = some k → s.fld TT_CFG 0 4 ≠ 0 →
      let v := s.fld (TT_S r.index) 20 2;
      let whole := (glyphReads s.glyphStore r.glyph).all fun w => !s.proof.glyphPoison.contains w;
      let crc := crc32c (glyphWords s.glyphStore r.glyph v (s.depth8 n));
      let bad := (s.ttOf r.index).eBad || !(whole && crc == r.expCrc.getD v 0);
      Yields (.frameStart n pd) s fun u =>
        (whole = true → u.fld (TT_ECRC r.index) 0 32 = crc % 2 ^ 32) ∧
        (k + 1 < s.fld TT_CFG 0 4 → (u.ttOf r.index).eWin = some (k + 1) ∧ (u.ttOf r.index).eBad = bad ∧
          u.verdict r.index 0 = s.verdict r.index 0) ∧
        (s.fld TT_CFG 0 4 ≤ k + 1 → (u.ttOf r.index).eWin = some 0 ∧ (u.ttOf r.index).eBad = false ∧
          u.verdict r.index 0 = (if bad then 3 else 2) ∧ u.unavail r.index 0 = false ∧
          (bad = true → u.ttState r.index = ttFailed ∧ u.flag (TT_FAIL (r.index / 32)) (r.index % 32) = true ∧
            u.flag TT_ISTAT 0 = true ∧
            u.flag (FLT_SEEN ((if bit r.flags 0 then 70 else 71) / 32)) ((if bit r.flags 0 then 70 else 71) % 32) = true))) ∧
  (∀ (s : State) (n : Fin 4) (pd : List (List PdRun)) (r : TelltaleRec) (k : Nat), s.chState n = chRun →
      (s.chanOf n).pixFault = false → (s.chanOf n).live = true → (∀ k, k < 128 → k ≠ 81 → s.faultClass k ≤ 3) →
      s.ttsWf → r ∈ s.tts → r.channel = n → 2 ≤ s.ttState r.index →
      bit r.methods 1 = true → (s.ttOf r.index).sWin = some k → s.fld TT_CFG 4 4 ≠ 0 → s.flag (OUT_STAT n) 10 = true →
      let c := s.chanOf n;
      let kept := if s.sinkCrcOn n = true ∧ c.resync = false then
        ((s.fld (CH_POS n) 16 16, Config.testCrc c.egress) :: c.testCrc).take 4 else c.testCrc;
      let frame := c.sinkCrc.bind fun e => (kept.find? fun x => x.1 = e.1).map fun x => x.2 == e.2;
      let fail := (s.ttOf r.index).sFail || frame == some false;
      let unread := (s.ttOf r.index).sUnread || frame == none;
      Yields (.frameStart n pd) s fun u =>
        (k + 1 < s.fld TT_CFG 4 4 → (u.ttOf r.index).sWin = some (k + 1) ∧ (u.ttOf r.index).sFail = fail ∧
          (u.ttOf r.index).sUnread = unread ∧ u.verdict r.index 1 = s.verdict r.index 1) ∧
        (s.fld TT_CFG 4 4 ≤ k + 1 → (u.ttOf r.index).sWin = some 0 ∧ (u.ttOf r.index).sFail = false ∧
          (u.ttOf r.index).sUnread = false ∧
          (fail = true → u.verdict r.index 1 = 3 ∧ u.unavail r.index 1 = false ∧ u.ttState r.index = ttFailed ∧
            u.flag (TT_FAIL (r.index / 32)) (r.index % 32) = true ∧ u.flag TT_ISTAT 0 = true) ∧
          (fail = false → unread = false → u.verdict r.index 1 = 2 ∧ u.unavail r.index 1 = false ∧
            (u.ttOf r.index).sInc = 0) ∧
          (fail = false → unread = true → (u.ttOf r.index).sInc = min 15 ((s.ttOf r.index).sInc + 1) ∧
            ((s.ttOf r.index).sInc < 7 ∨ s.unavail r.index 1 = true → u.verdict r.index 1 = s.verdict r.index 1 ∧
              u.unavail r.index 1 = s.unavail r.index 1) ∧
            (7 ≤ (s.ttOf r.index).sInc → s.unavail r.index 1 = false → u.verdict r.index 1 = 1 ∧
              u.unavail r.index 1 = true ∧ u.flag TT_ISTAT 3 = true)))) ∧
  (∀ (s : State) (n : Fin 4) (pd : List (List PdRun)) (r : TelltaleRec) (fs : List PdFrame), s.chState n = chRun →
      (s.chanOf n).pixFault = false → (s.chanOf n).live = true → (∀ k, k < 128 → k ≠ 81 → s.faultClass k ≤ 3) →
      s.ttsWf → r ∈ s.tts → r.channel = n → 2 ≤ s.ttState r.index →
      bit r.methods 2 = true → r.pd < 8 → s.fld OPT_CFG 0 4 ≠ 0 →
      s.pdCount n ≠ 0 → 64 * pdSum (s.pdCount n) (pd.getD r.pd []) % s.pdCount n = 0 →
      let f : PdFrame := { f := 64 * pdSum (s.pdCount n) (pd.getD r.pd []) / s.pdCount n,
                           saturated := pdRail (s.pdCount n) (pd.getD r.pd []) };
      let w := (fs ++ [f]).drop (s.fld OPT_CFG 4 2);
      let a := (w.map fun x => x.f).sum;
      let rr := (w.zipIdx.map fun e => heronChip e.2 * (e.1.f : Int)).sum;
      let q14 := 14 * (w.zipIdx.map fun e => heronChip (e.2 + 7) * (e.1.f : Int)).sum + 3 * rr;
      let cause := if w.any (fun x => x.saturated) then 1
        else if a < 960 * s.fld (OPT_AMB r.pd) 0 10 ∨ 960 * s.fld (OPT_AMB r.pd) 16 10 < a then 2
        else if 14 * s.fld (OPT_NOISE r.pd) 0 16 < q14.natAbs then 3
        else if (s.fld (OPT_THR r.pd) 0 16 : Int) ≤ rr ∨ rr < (s.fld (OPT_THR r.pd) 16 16 : Int) then 0 else 4;
      (s.fld OPT_CFG 4 2 = 0 ∧ (s.ttOf r.index).oWin = some fs ∧ (s.ttOf r.index).oTail = [] ∧ fs.length = 14) ∨
        ((s.ttOf r.index).oWin = none ∧ (s.ttOf r.index).oTail = fs ∧ fs.length = 14 + s.fld OPT_CFG 4 2) →
      Yields (.frameStart n pd) s fun u => (u.ttOf r.index).oTail = [] ∧
        u.fld (OPT_LAST r.pd) 0 10 = a / 960 % 1024 ∧ u.fld (OPT_LAST r.pd) 20 4 = cause ∧
        (-32768 ≤ rr → rr ≤ 32767 → u.fld (OPT_RES r.pd) 0 16 = (rr % 65536).toNat) ∧
        u.fld (OPT_CNT r.pd) 0 16 = min (s.fld (OPT_CNT r.pd) 0 16 + 1) 0xFFFF ∧
        (cause = 0 → (s.fld (OPT_THR r.pd) 0 16 : Int) ≤ rr → u.verdict r.index 2 = 2 ∧ u.unavail r.index 2 = false ∧
          u.fld (OPT_LAST r.pd) 12 2 = 1 ∧ (u.ttOf r.index).oInc = 0) ∧
        (cause = 0 → rr < (s.fld (OPT_THR r.pd) 0 16 : Int) → u.verdict r.index 2 = 3 ∧ u.ttState r.index = ttFailed ∧
          u.flag OPT_ISTAT 0 = true ∧ u.flag (TT_FAIL (r.index / 32)) (r.index % 32) = true ∧
          u.fld (OPT_LAST r.pd) 12 2 = 2) ∧
        (cause ≠ 0 → u.fld (OPT_LAST r.pd) 12 2 = 3 ∧ (u.ttOf r.index).oInc = min 15 ((s.ttOf r.index).oInc + 1) ∧
          u.fld (OPT_CNT r.pd) 16 16 = min (s.fld (OPT_CNT r.pd) 16 16 + 1) 0xFFFF ∧
          ((s.ttOf r.index).oInc < 7 ∨ s.unavail r.index 2 = true → u.verdict r.index 2 = s.verdict r.index 2) ∧
          (7 ≤ (s.ttOf r.index).oInc → s.unavail r.index 2 = false → u.verdict r.index 2 = 1 ∧
            u.unavail r.index 2 = true ∧ u.flag (OPT_STAT) r.pd = true))) ∧
  (∀ (s : State) (n : Fin 4) (pd : List (List PdRun)) (r : TelltaleRec) (fs : List PdFrame), s.chState n = chRun →
      (s.chanOf n).pixFault = false → (s.chanOf n).live = true → (∀ k, k < 128 → k ≠ 81 → s.faultClass k ≤ 3) →
      s.ttsWf → r ∈ s.tts → r.channel = n → 2 ≤ s.ttState r.index →
      bit r.methods 2 = true → s.fld OPT_CFG 0 4 ≠ 0 → s.fld (TT_S r.index) 20 2 = 0 → s.fld TT_VAR (2 * n) 2 = 0 →
      s.pdCount n ≠ 0 → 64 * pdSum (s.pdCount n) (pd.getD r.pd []) % s.pdCount n = 0 →
      (s.ttOf r.index).oWin = some fs → (s.ttOf r.index).oTail = [] → fs.length < 14 →
      Yields (.frameStart n pd) s fun u => (u.ttOf r.index).oTail = [] ∧ u.verdict r.index 2 = s.verdict r.index 2 ∧
        (u.ttOf r.index).oWin = some (fs ++
          [{ f := 64 * pdSum (s.pdCount n) (pd.getD r.pd []) / s.pdCount n,
             saturated := pdRail (s.pdCount n) (pd.getD r.pd []) }]))

/-- T1's requests and liveness, the end of bulb-check, the timers of the presence frame. Drawn from R381, R382, R392,
R409, Table 18-3. Clauses about points that the spec leaves open or that are read by inference follow the model: log
entries 9, 179, 180. -/
def Obligations.RequestsAndPresence : Prop :=
  (∀ (s : State) (t : Requester) (w : Word), s.takes t TT_T1_ALIVE → w.getLsbD 0 = true → whoOf t = 1 → s.ttsWf →
      (∀ k, k < 128 → k ≠ 81 → s.faultClass k ≤ 3) →
      let live := { s with proof := { s.proof with t1Alive := true } }
      Yields (.t1AliveKick t w) s fun u => u.lastStatus = stOk ∧ u.proof.t1Alive = true ∧
        ∀ r ∈ s.tts, u.fld (TT_S r.index) 4 3 = live.request r ∧
          (u.ttState r.index = ttOff ↔ live.request r = 0)) ∧
  (∀ (s : State) (t : Requester) (w : Word), s.takes t TT_T1_ALIVE → w.getLsbD 0 = false ∨ whoOf t ≠ 1 →
      Yields (.t1AliveKick t w) s fun u => u.lastStatus = stOk ∧ s.sameRegs u [] ∧ s.onlyRegs u) ∧
  (∀ s : State, s.fld TT_T1_TMO 0 16 ≠ 0 → s.proof.t1Alive = true → s.ttsWf → (∀ k, k < 128 → k ≠ 81 → s.faultClass k ≤ 3) →
      let dead := { s with proof := { s.proof with t1Alive := false } }
      Yields .t1AliveTimeout s fun u => u.proof.t1Alive = false ∧
        ∀ r ∈ s.tts, u.fld (TT_S r.index) 4 3 = dead.request r ∧
          (u.ttState r.index = ttOff ↔ dead.request r = 0)) ∧
  (∀ s : State, s.fld TT_T1_TMO 0 16 = 0 ∨ s.proof.t1Alive = false → Yields .t1AliveTimeout s fun u => s.sameRegs u [] ∧ s.onlyRegs u) ∧
  (∀ (s : State) (t : Requester) (k : Fin 4) (w : Word) (r : TelltaleRec) (i : Nat), s.takes t (TT_T1_REQ k) →
      s.ttsWf → (∀ k, k < 128 → k ≠ 81 → s.faultClass k ≤ 3) → r ∈ s.tts → i < 16 → r.index = 16 * k.val + i → r.channel < 4 → s.ttSrcs r.index = [] →
      (s.ttOf r.index).bulb = false → s.joined = false → s.t1Live = true → s.ttState r.index = ttOff →
      Yields (.t1Request t k w) s fun u => u.lastStatus = stOk ∧ u.reg (TT_T1_REQ k) = w ∧
        (bits w.toNat (2 * i) 2 = 2 → u.ttState r.index = ttWait ∧ u.fld (TT_S r.index) 4 3 = 3) ∧
        (bits w.toNat (2 * i) 2 ≠ 2 → u.ttState r.index = ttOff ∧ u.fld (TT_S r.index) 4 3 = 0)) ∧
  (∀ (s : State) (n : Option (Fin 4)) (r : TelltaleRec), s.ttsWf → (∀ k, k < 128 → k ≠ 81 → s.faultClass k ≤ 3) → r ∈ s.tts →
      r.channel = (n.map (·.val)).getD 0xFF → s.ttSrcs r.index = [] → s.t1Reqs r.index = [] →
      s.ttState r.index ≠ ttOff →
      Yields (.bulbCheckEnd n) s fun u => (u.ttOf r.index).bulb = false ∧ u.ttState r.index = ttOff ∧
        u.fld (TT_S r.index) 4 3 = 0 ∧ (∀ m, m < 4 → u.verdict r.index m = if bit r.methods m then 1 else 0) ∧
        (r.led < 32 → u.flag (LED_CUR r.led) 31 = false)) ∧
  (∀ s : State, s.cfg.isSome = true → s.fld TT_CAN_PERIOD 0 16 ≠ 0 → s.proof.holdoff = true →
      Yields .presencePeriod s fun u => u.proof = { s.proof with change := true } ∧ s.sameRegs u [] ∧
        s.onlyRegs { u with proof := s.proof }) ∧
  (∀ s : State, s.cfg.isSome = true → s.fld TT_CAN_PERIOD 0 16 ≠ 0 → s.proof.holdoff = false →
      s.sendsPresence = true →
      Yields .presencePeriod s fun u => u.proof.holdoff = true ∧ u.proof.change = false ∧
        (∀ (c : Fin 2) (r : CanctlRec), s.canRec c = some r → s.canState c ≠ canOff → (s.canOf c).suspended = false →
          u.flag (CAN_MB_CTRL c 0) 4 = true ∧ u.fld (CAN_MB c 0 0) 0 29 = r.presenceId % 2 ^ 29 ∧
          u.fld (CAN_MB c 0 1) 0 4 = if bit r.flags 0 then 12 else 8) ∧
        ∀ a, blockOf a ≠ 64 → blockOf a ≠ 65 → u.reg a = s.reg a) ∧
  (∀ s : State, s.cfg.isSome = true → s.fld TT_CAN_PERIOD 0 16 ≠ 0 → s.proof.holdoff = false →
      s.sendsPresence = false →
      Yields .presencePeriod s fun u => u.proof.holdoff = false ∧ s.sameRegs u [] ∧
        s.onlyRegs { u with proof := s.proof }) ∧
  (∀ s : State, s.proof.change = false →
      Yields .presenceHoldoffExpiry s fun u => u.proof = { s.proof with holdoff := false } ∧ s.sameRegs u [] ∧
        s.onlyRegs { u with proof := s.proof }) ∧
  (∀ s : State, s.proof.change = true → s.sendsPresence = true →
      Yields .presenceHoldoffExpiry s fun u => u.proof.holdoff = true ∧ u.proof.change = false ∧
        ∀ (c : Fin 2) (r : CanctlRec), s.canRec c = some r → s.canState c ≠ canOff → (s.canOf c).suspended = false →
          u.flag (CAN_MB_CTRL c 0) 4 = true)

/-- A frame received. Drawn from R405, R406, R407, R417, R491, Table 19-4. Clauses about points that the spec leaves
open or that are read by inference follow the model: log entries 181, 183, 184. -/
def Obligations.CanReception : Prop :=
  (∀ (s : State) (c : Fin 2) (f : CanFrame) (time : Word), s.canOnline c = false ∨ s.canHears c = false →
      Yields (.canFrameReceived c f time [] none) s fun u => s.sameRegs u [] ∧ s.onlyRegs u) ∧
  (∀ (s : State) (c : Fin 2) (f : CanFrame) (time : Word), s.canOnline c = true → s.canHears c = true → f.fdf = true →
      s.canFlag c 0 = false → (s.canOf c).leaving = false →
      Yields (.canFrameReceived c f time [] none) s fun u => u.fld (CAN_LEC c) 0 3 = 2 ∧
        u.fld (CAN_ECNT c) 0 16 = min (s.fld (CAN_ECNT c) 0 16 + 1) 0xFFFF ∧
        u.recCount c = min 255 (s.recCount c + 1) ∧ u.fld (CAN_CNT c) 0 16 = s.fld (CAN_CNT c) 0 16 ∧
        s.sameRegs u [CAN_LEC c, CAN_ECNT c, CAN_ERRC c, CAN_STAT c, CAN_ISTAT c] ∧ s.onlyRegs u) ∧
  (∀ (s : State) (c : Fin 2) (f : CanFrame) (time : Word), s.canOnline c = true → s.canHears c = true → s.ladder ≠ 1 →
      f.fdf = false ∨ s.canFlag c 0 = true → f.remote = true → s.recCount c ≤ 127 → (s.canOf c).leaving = false →
      Yields (.canFrameReceived c f time [] none) s fun u =>
        u.fld (CAN_CNT c) 0 16 = min (s.fld (CAN_CNT c) 0 16 + 1) 0xFFFF ∧ u.recCount c = s.recCount c - 1 ∧
        u.flag (CAN_STAT c) 2 = false ∧ (u.canOf c).ackErrors = (if s.flag (CAN_STAT c) 2 then 0 else (s.canOf c).ackErrors) ∧
        u.reg (CAN_TIME c) = time ∧ u.srcs = s.srcs ∧ s.sameRegs u [CAN_TIME c, CAN_CNT c, CAN_ERRC c, CAN_STAT c, CAN_ISTAT c, CAN_ECNT c] ∧ s.onlyRegs { u with can := s.can }) ∧
  (∀ (s : State) (c : Fin 2) (f : CanFrame) (time : Word), s.canOnline c = true → s.canHears c = true → s.ladder ≠ 1 → s.ttsWf →
      (∀ k, k < 128 → k ≠ 81 → s.faultClass k ≤ 3) → f.fdf = false ∨ s.canFlag c 0 = true → f.remote = false → s.joined = false →
      s.cfg.isSome = true → (s.canOf c).leaving = false →
      let still := s.tts = [] ∧ s.shownNow = s.proof.lastCodes
      Yields (.canFrameReceived c f time [] none) s fun u =>
        u.fld (CAN_CNT c) 0 16 = min (s.fld (CAN_CNT c) 0 16 + 1) 0xFFFF ∧
        (∀ e ∈ s.canmaps, mapMatches e.1 c f = true → f.data.length ≤ e.1.byte →
          tget 0 u.srcs e.2 = tget 0 s.srcs e.2) ∧
        (∀ e ∈ s.canmaps, ∀ b, mapMatches e.1 c f = true → f.data[e.1.byte]? = some b →
          tget 0 u.srcs e.2 = if bits b.toNat e.1.bit e.1.width = e.1.onValue then 2 else 1) ∧
        (∀ e ∈ s.canmaps, mapMatches e.1 c f = false → tget 0 u.srcs e.2 = tget 0 s.srcs e.2) ∧
        (∀ x ∈ s.tts, u.fld (TT_S x.index) 4 3 = u.request x ∧ (u.ttState x.index = ttOff ↔ u.request x = 0)) ∧
        (∀ k, still → ((List.range 128).find? fun k => s.filterMatches c k f) = some k →
          let n := s.fld (CAN_FLT_BUF c k) 0 6;
          (s.flag (CAN_MB_CTRL c n) 8 = false → u.flag (CAN_MB_CTRL c n) 8 = true ∧ u.flag (CAN_ISTAT c) 0 = true ∧
            u.fld (CAN_MB c n 0) 0 29 = f.id.toNat ∧ u.flag (CAN_MB c n 0) 29 = f.ide ∧
            u.fld (CAN_MB c n 1) 0 4 = f.dlc.toNat ∧ u.reg (CAN_MB c n 2) = time) ∧
          (s.flag (CAN_MB_CTRL c n) 8 = true → u.flag (CAN_MB_CTRL c n) 9 = true ∧ u.flag (CAN_ISTAT c) 5 = true ∧
            ∀ i, i < 19 → u.reg (CAN_MB c n i) = s.reg (CAN_MB c n i))) ∧
        (still → ((List.range 128).find? fun k => s.filterMatches c k f) = none → ∀ n, n < 64 →
          u.reg (CAN_MB_CTRL c n) = s.reg (CAN_MB_CTRL c n) ∧ ∀ i, i < 19 → u.reg (CAN_MB c n i) = s.reg (CAN_MB c n i))) ∧
  (∀ (s : State) (c : Fin 2) (f : CanFrame) (time : Word) (r : Fin 256) (e : CanmapRec × Nat) (b : Byte),
      s.canOnline c = true → s.canHears c = true → s.ladder ≠ 1 → s.ttsWf →
      (∀ k, k < 128 → k ≠ 81 → s.faultClass k ≤ 3) → f.fdf = false ∨ s.canFlag c 0 = true → f.remote = false → s.joined = false →
      s.cfg.isSome = true → (s.canOf c).leaving = false →
      (s.canmaps.find? fun e => e.2 = r.val) = some e → tget 0 s.srcs r ≠ 3 →
      mapMatches e.1 c f = true → f.data[e.1.byte]? = some b →
      Yields (.canFrameReceived c f time [r] none) s fun u =>
        tget 0 u.srcs r = (if bits b.toNat e.1.bit e.1.width = e.1.onValue then 2 else 1) ∧
        u.flag (CAN_ISTAT c) 6 = true ∧ u.fld (CAN_CNT c) 0 16 = min (s.fld (CAN_CNT c) 0 16 + 1) 0xFFFF)

/-- Transmission, errors and the timers of a controller. Drawn from R408, R409, R411, R413, R417, R418, R419, R491.
Clauses about points that the spec leaves open or that are read by inference follow the model: log entries 181, 182,
183, 184. -/
def Obligations.CanTransmission : Prop :=
  (∀ (s : State) (t : Requester) (c : Fin 2) (n : Fin 64) (w : Word), s.takes t (CAN_MB_CTRL c n) → n ≠ 0 →
      rbReject s.bounds (some (whoOf t)) (CAN_MB_CTRL c n) (s.reg (CAN_MB_CTRL c n)) w = none →
      bits w.toNat 0 2 = 2 → w.getLsbD 4 = true → w.getLsbD 5 = false →
      Yields (.canTxRequest t c n w) s fun u => u.lastStatus = stOk ∧ u.fld (CAN_MB_CTRL c n) 0 2 = 2 ∧
        (s.badBuffer c n = true → u.flag (CAN_MB_CTRL c n) 12 = true ∧ u.flag (CAN_MB_CTRL c n) 4 = false) ∧
        (s.badBuffer c n = false → u.flag (CAN_MB_CTRL c n) 4 = true) ∧
        s.sameRegs u [CAN_MB_CTRL c n] ∧ s.onlyRegs u) ∧
  (∀ (s : State) (t : Requester) (c : Fin 2) (n : Fin 64) (w : Word), s.takes t (CAN_MB_CTRL c n) → n ≠ 0 →
      rbReject s.bounds (some (whoOf t)) (CAN_MB_CTRL c n) (s.reg (CAN_MB_CTRL c n)) w = none →
      w.getLsbD 4 = false → w.getLsbD 5 = true → s.flag (CAN_MB_CTRL c n) 4 = true →
      (s.canOf c).onBus ≠ some n.val →
      Yields (.canTxAbort t c n w false) s fun u => u.lastStatus = stOk ∧ u.flag (CAN_MB_CTRL c n) 4 = false ∧
        u.flag (CAN_MB_CTRL c n) 11 = true ∧ s.sameRegs u [CAN_MB_CTRL c n] ∧ s.onlyRegs u) ∧
  (∀ (s : State) (t : Requester) (c : Fin 2) (n : Fin 64) (w : Word), s.takes t (CAN_MB_CTRL c n) → n ≠ 0 →
      rbReject s.bounds (some (whoOf t)) (CAN_MB_CTRL c n) (s.reg (CAN_MB_CTRL c n)) w = none →
      w.getLsbD 4 = false → w.getLsbD 5 = true → s.flag (CAN_MB_CTRL c n) 4 = true → s.mayBeSent c n = false →
      ∀ i ∈ [Instr.canTxAbort t c n w false, .canTxAbort t c n w true],
      Yields i s fun u => u.lastStatus = stOk ∧ u.flag (CAN_MB_CTRL c n) 4 = false ∧
        u.flag (CAN_MB_CTRL c n) 11 = true ∧ s.sameRegs u [CAN_MB_CTRL c n] ∧ s.onlyRegs u) ∧
  (∀ (s : State) (t : Requester) (c : Fin 2) (n : Fin 64) (w : Word), s.takes t (CAN_MB_CTRL c n) → n ≠ 0 →
      rbReject s.bounds (some (whoOf t)) (CAN_MB_CTRL c n) (s.reg (CAN_MB_CTRL c n)) w = none →
      w.getLsbD 4 = false → w.getLsbD 5 = true → s.flag (CAN_MB_CTRL c n) 4 = true → s.mayBeSent c n = true →
      Yields (.canTxAbort t c n w true) s fun u => u.lastStatus = stOk ∧ u.flag (CAN_MB_CTRL c n) 4 = true ∧
        u.flag (CAN_MB_CTRL c n) 5 = true ∧ u.offered c = some n.val ∧ s.sameRegs u [CAN_MB_CTRL c n] ∧
        s.onlyRegs { u with can := s.can }) ∧
  (∀ (s : State) (t : Requester) (c : Fin 2) (w : Word), s.takes t (CAN_MB_CTRL c 0) →
      ∀ i ∈ [Instr.canTxRequest t c 0 w, .canTxAbort t c 0 w true],
      Yields i s fun u => u.lastStatus = stOk ∧ s.sameRegs u [] ∧ s.onlyRegs u) ∧
  (∀ (s : State) (c : Fin 2) (n : Nat) (time : Word) (delay : Nat), s.canOnline c = true → s.canHears c = true →
      s.offered c = some n → (s.canOf c).leaving = false →
      Yields (.canTxDone c time delay) s fun u => u.flag (CAN_MB_CTRL c n) 4 = false ∧
        u.flag (CAN_MB_CTRL c n) 10 = true ∧ u.flag (CAN_ISTAT c) 1 = true ∧ u.reg (CAN_MB c n 2) = time ∧
        u.fld (CAN_CNT c) 16 16 = min (s.fld (CAN_CNT c) 16 16 + 1) 0xFFFF ∧ u.tec c = s.tec c - 1 ∧
        u.flag (CAN_STAT c) 2 = false ∧ (u.canOf c).ackErrors = 0 ∧
        (s.flag (CAN_MB c n 0) 30 = true → s.flag (CAN_MB c n 0) 31 = true → s.canFlag c 1 = true →
          u.fld (CAN_TDC c) 0 7 = min delay 127 ∧ (127 < delay → u.flag (CAN_TDC c) 7 = true)) ∧
        s.sameRegs u [CAN_MB_CTRL c n, CAN_ISTAT c, CAN_STAT c, CAN_MB c n 2, CAN_CNT c, CAN_ERRC c, CAN_TDC c,
          CAN_ECNT c, CAN_TIME c] ∧ s.onlyRegs { u with can := s.can, proof := s.proof }) ∧
  (∀ (s : State) (c : Fin 2) (e : CanError) (delay : Option Nat) (n : Nat), s.canOnline c = true →
      s.offered c = some n → s.faultClass (74 + c) ≤ 3 → (s.canOf c).leaving = false →
      Yields (.canTxError c e delay) s fun u => u.flag (CAN_MB_CTRL c n) 4 = ((s.canOf c).onBus != some n) ∧
        ((s.canOf c).onBus = some n → u.flag (CAN_MB_CTRL c n) 11 = true) ∧ (u.canOf c).onBus = none ∧ u.fld (CAN_LEC c) 0 3 = lecCode e ∧
        (e = .ack → s.canState c = canPassive → u.tec c = s.tec c) ∧
        (e ≠ .ack ∨ s.canState c = canActive → u.tec c = min 511 (s.tec c + 8)) ∧
        (e ≠ .ack → (u.canOf c).ackErrors = 0) ∧ (e = .ack → (u.canOf c).ackErrors = (s.canOf c).ackErrors + 1) ∧
        (e = .ack → 15 ≤ (s.canOf c).ackErrors → s.flag (CAN_STAT c) 2 = false →
          u.flag (CAN_STAT c) 2 = true ∧ u.flag (CAN_ISTAT c) 4 = true) ∧
        (255 < u.tec c → u.canState c = canBusOff ∧ u.flag (CAN_ISTAT c) 3 = true ∧
          u.fld (CAN_ECNT c) 16 16 = min (s.fld (CAN_ECNT c) 16 16 + 1) 0xFFFF ∧ s.reports u (74 + c)) ∧
        (u.tec c ≤ 255 → 128 ≤ u.tec c → u.canState c = canPassive) ∧
        (u.tec c < 128 → s.recCount c < 128 → u.canState c = canActive)) ∧
  (∀ (s : State) (c : Fin 2) (e : CanError) (heavy : Bool), s.canOnline c = true → (s.canOf c).leaving = false →
      Yields (.canRxError c e heavy) s fun u => u.fld (CAN_LEC c) 0 3 = lecCode e ∧
        u.recCount c = min 255 (s.recCount c + if heavy then 8 else 1) ∧ u.tec c = s.tec c ∧
        u.fld (CAN_ECNT c) 0 16 = min (s.fld (CAN_ECNT c) 0 16 + 1) 0xFFFF ∧
        s.sameRegs u [CAN_LEC c, CAN_ECNT c, CAN_ERRC c, CAN_STAT c, CAN_ISTAT c] ∧ s.onlyRegs u) ∧
  (∀ (s : State) (c : Fin 2) (e : CanError) (heavy : Bool), s.canOnline c = true → (s.canOf c).leaving = true →
      Yields (.canRxError c e heavy) s fun u => (u.canOf c).suspended = true ∧ (u.canOf c).leaving = false ∧
        u.flag (CAN_STAT c) 3 = false ∧ (∀ n, n < 64 → u.flag (CAN_MB_CTRL c n) 4 = false) ∧
        (∀ n, n < 64 → n ≠ 0 → s.flag (CAN_MB_CTRL c n) 4 = true → u.flag (CAN_MB_CTRL c n) 11 = true) ∧
        u.srcs = s.srcs) ∧
  (∀ (s : State) (c : Fin 2), s.canState c = canBusOff → s.canHears c = true →
      Yields (.busOffRecovery c) s fun u => u.canState c = canActive ∧ u.tec c = 0 ∧ u.recCount c = 0 ∧
        u.flag (CAN_ISTAT c) 2 = true ∧ s.sameRegs u [CAN_ERRC c, CAN_STAT c, CAN_ISTAT c] ∧ s.onlyRegs u) ∧
  (∀ (s : State) (c : Fin 2), s.canState c ≠ canBusOff ∨ s.canHears c = false →
      Yields (.busOffRecovery c) s fun u => s.sameRegs u [] ∧ s.onlyRegs u) ∧
  (∀ (s : State) (c : Fin 2), s.canState c ≠ canOff → (s.canOf c).suspended = false → s.canHears c = true →
      Yields (.canSync c) s fun u => u.flag (CAN_STAT c) 3 = true ∧ s.sameRegs u [CAN_STAT c] ∧ s.onlyRegs u) ∧
  (∀ (s : State) (c : Fin 2), s.canHears c = false → ∀ i ∈ [Instr.canSync c, .canTxDone c 0 0, .busOffRecovery c],
      Yields i s fun u => s.sameRegs u [] ∧ s.onlyRegs u) ∧
  (∀ (s : State) (r : Fin 256) (e : CanmapRec × Nat), (s.canmaps.find? fun e => e.2 = r.val) = some e → e.1.ctrl < 2 →
      tget 0 s.srcs r ≠ 3 → s.ttsWf → (∀ k, k < 128 → k ≠ 81 → s.faultClass k ≤ 3) →
      Yields (.sourceTimeout r) s fun u => tget 0 u.srcs r = 3 ∧ (∀ k, k ≠ r.val → tget 0 u.srcs k = tget 0 s.srcs k) ∧
        u.flag (CAN_ISTAT e.1.ctrl) 6 = true ∧ (∀ x ∈ s.tts, u.fld (TT_S x.index) 4 3 = u.request x ∧ (u.ttState x.index = ttOff ↔ u.request x = 0)) ∧
        (s.tts = [] → ∀ a, a ≠ CAN_ISTAT e.1.ctrl → blockOf a ≠ 64 → blockOf a ≠ 65 → u.reg a = s.reg a))

/-- Flock messages dropped, and HELLO. Drawn from R438, R440, R441, R442, R444, R461. Clauses about points that the
spec leaves open or that are read by inference follow the model: log entries 191, 192, 193, 194, 197. -/
def Obligations.FlockJoining : Prop :=
  (∀ (s : State) (p : Fin 2) (b : List Byte), ∀ e ∈ [(1, Instr.flkHello p b), (2, Instr.flkState p b none), (3, .flkTt p b),
      (4, .flkTime p b), (5, .flkRoleReq p b), (6, .flkRoleAck p b)],
      s.lnkState (2 + p) ≠ lnUp ∨ msgField b 0 1 ≠ e.1 → Yields e.2 s fun u => s.sameRegs u [] ∧ s.onlyRegs u) ∧
  (∀ (s : State) (p : Fin 2) (b : List Byte), ∀ e ∈ [(1, Instr.flkHello p b), (2, Instr.flkState p b none), (3, .flkTt p b),
      (4, .flkTime p b), (5, .flkRoleReq p b), (6, .flkRoleAck p b)],
      s.lnkState (2 + p) = lnUp → msgField b 0 1 = e.1 →
      s.fkState = fkOff ∨ msgFits b = false ∨ (e.1 ≠ 1 ∧ msgField b 2 1 ≠ s.fld FLK_STAT 8 4) ∨
        msgDevid b = s.otp.force.devid ∨ s.flkNewer (msgDevid b) (msgField b 4 4) = false → s.headedFor = 0 →
      Yields e.2 s fun u => u.fld FLK_CNT 16 16 = min (s.fld FLK_CNT 16 16 + 1) 0xFFFF ∧
        u.fld FLK_CNT 0 16 = s.fld FLK_CNT 0 16 ∧ s.sameRegs u [FLK_CNT] ∧ s.onlyRegs u) ∧
  (∀ (s : State) (p : Fin 2) (b : List Byte), ∀ e ∈ [(1, Instr.flkHello p b), (2, Instr.flkState p b none), (3, .flkTt p b),
      (4, .flkTime p b), (5, .flkRoleReq p b), (6, .flkRoleAck p b)],
      s.lnkState (2 + p) = lnUp → msgField b 0 1 = e.1 → s.ladder = 1 → s.pwr.entry = none → s.pwr.exiting = none →
      s.ctl.phase = .run → s.pwr.upAtEntry.getLsbD (2 + p) = true → s.faultClass 78 ≤ 3 →
      Yields e.2 s fun u => u.fld PWR_WAKE_SRC 0 4 = 10 + p ∧ u.fld PWR_WAKE_SRC 4 3 = 1 ∧ u.pwr.exiting = some 1 ∧
        u.flag PWR_STAT 9 = true) ∧
  (∀ (s : State) (p : Fin 2) (b : List Byte), s.hears p b → msgField b 0 1 = 1 → s.helloCause b ≠ 0 →
      s.fkState = fkSeeking → s.faultClass 78 ≤ 3 →
      Yields (.flkHello p b) s fun u => u.fkState = fkSplit ∧ u.fld FLK_STAT 16 4 = s.helloCause b ∧
        u.flag FLK_STAT 15 = true ∧ u.flag FLK_ISTAT 0 = true ∧ u.flag FLK_ISTAT 1 = true ∧ s.reports u 78 ∧
        msgDevid b ∈ u.flk.disagree ∧ (msgDevid b, msgField b 4 4) ∈ u.flk.mseqs ∧
        (msgField b 0x38 1 < 4 → u.flag FLK_MEMBERS (8 + msgField b 0x38 1) = true)) ∧
  (∀ (s : State) (p : Fin 2) (b : List Byte), s.hears p b → msgField b 0 1 = 1 → s.helloCause b = 0 →
      s.fkState = fkSeeking ∨ s.fkState = fkSplit → s.fld FLK_MEMBERS 0 4 = 0 → s.rank < 4 → msgField b 0x38 1 < 4 →
      s.staysAwake → s.ttsWf → (∀ k, k < 128 → k ≠ 81 → s.faultClass k ≤ 3) →
      let r := msgField b 0x38 1
      let flags := msgField b 0x40 1
      let leader := if bit flags 2 then r else min r s.rank
      Yields (.flkHello p b) s fun u => u.fkState = fkJoined ∧ u.flag FLK_MEMBERS r = true ∧
        u.flag FLK_MEMBERS s.rank = true ∧ u.flag FLK_ISTAT 0 = true ∧ u.fld FLK_STAT 4 2 = leader ∧
        u.leads = decide (leader = s.rank) ∧ (u.member r).devid = msgDevid b ∧
        (u.member r).local_ = msgField b 0x41 1 ∧ (u.reg (FLK_PEER r)).toNat = msgDevid b % 2 ^ 32 ∧
        u.fld FLK_STAT 8 4 = min (min 1 ((s.flock.map (·.maxRev)).getD 1)) (msgField b 0x3A 2) ∧ u.peers = [r] ∧
        u.flk.adopting = (bit flags 2 && !bit flags 1) ∧
        (s.tts = [] → ∀ a, a ∉ [FLK_STAT, FLK_MEMBERS, FLK_PEER r, FLK_PEER r + 4, FLK_ISTAT, FLK_FLOOR, FLK_CNT, PWR_STAT] →
          blockOf a ≠ 64 → blockOf a ≠ 65 → u.reg a = s.reg a)) ∧
  (∀ (s : State) (r : Fin 4), s.peers.contains r.val = false →
      Yields (.memberLoss r) s fun u => s.sameRegs u [] ∧ s.onlyRegs u) ∧
  (∀ (s : State) (r : Fin 4), s.peers = [r.val] → s.flk.disagree = [] → s.staysAwake → s.ttsWf →
      (∀ k, k < 128 → k ≠ 81 → s.faultClass k ≤ 3) →
      Yields (.memberLoss r) s fun u => u.fkState = fkSeeking ∧ u.flag FLK_MEMBERS r = false ∧
        u.flag FLK_MEMBERS (4 + r) = true ∧ u.leads = false ∧ u.flag FLK_ISTAT 0 = true ∧ u.flag FLK_ISTAT 2 = true ∧
        u.flk.members = [] ∧ u.flag (FLT_SEEN 2) 15 = true ∧
        tget 0 u.flt.counts 79 = min (tget 0 s.flt.counts 79 + 1) 0xFFFF) ∧
  (∀ (s : State) (r : Fin 4), s.peers.contains r.val = true → s.peers ≠ [r.val] → s.rank < 4 → s.staysAwake → s.ttsWf →
      (∀ k, k < 128 → k ≠ 81 → s.faultClass k ≤ 3) →
      Yields (.memberLoss r) s fun u => u.fkState = fkJoined ∧ u.flag FLK_MEMBERS r = false ∧
        u.flag FLK_MEMBERS (4 + r) = true ∧ u.peers = s.peers.filter (· ≠ r.val) ∧ u.flag FLK_ISTAT 2 = true ∧
        u.member r = Member.reset ∧ (∀ k, k ≠ r.val → u.member k = s.member k) ∧
        (s.fld FLK_STAT 4 2 = r → u.fld FLK_STAT 4 2 = (s.peers.filter (· ≠ r.val)).foldl min s.rank ∧
          u.leads = decide ((s.peers.filter (· ≠ r.val)).foldl min s.rank = s.rank)) ∧
        (s.fld FLK_STAT 4 2 ≠ r → u.fld FLK_STAT 4 2 = s.fld FLK_STAT 4 2 ∧ u.leads = s.leads) ∧
        u.flag (FLT_SEEN 2) 15 = true ∧ tget 0 u.flt.counts 79 = min (tget 0 s.flt.counts 79 + 1) 0xFFFF)

/-- What the messages of a member do. Drawn from R443, R445, R447, R448. Clauses about points that the spec leaves
open or that are read by inference follow the model: log entries 191, 195. -/
def Obligations.FlockReports : Prop :=
  (∀ (s : State) (p : Fin 2) (b : List Byte) (r : Nat), s.hears p b → msgField b 0 1 = 2 → s.msgMember b = some r →
      s.staysAwake → s.ttsWf → (∀ k, k < 128 → k ≠ 81 → s.faultClass k ≤ 3) →
      Yields (.flkState p b none) s fun u => (u.member r).leader = msgField b 0x10 1 ∧
        (u.member r).local_ = msgField b 0x11 1 ∧ (u.member r).osf = bit (msgField b 0x12 1) 0 ∧
        (u.member r).fstate = msgField b 0x13 1 ∧ (u.member r).runtime = msgField b 0x14 4 ∧
        (u.member r).codes = (b.drop 0x18).take 16 ∧
        u.flag FLK_MEMBERS (12 + r) = bit (msgField b 0x12 1) 1 ∧ u.fkState = fkJoined ∧ u.peers = s.peers ∧
        u.fld FLK_STAT 4 2 = (if s.flk.adopting = true ∧ msgField b 0x13 1 = 2 ∧
          (msgField b 0x10 1 = s.rank ∨ s.peers.contains (msgField b 0x10 1) = true) then msgField b 0x10 1
          else s.fld FLK_STAT 4 2) ∧ (∀ k, k ≠ r → u.member k = s.member k)) ∧
  (∀ (s : State) (p : Fin 2) (b : List Byte) (r : Nat), s.hears p b → msgField b 0 1 = 3 → s.msgMember b = some r →
      s.headedFor = 0 → s.ttsWf →
      (∀ k, k < 128 → k ≠ 81 → s.faultClass k ≤ 3) →
      Yields (.flkTt p b) s fun u => (u.member r).t1Req = (b.drop 0x10).take 16 ∧
        (u.member r).t1Alive = bit (msgField b 0x20 1) 0 ∧
        (∀ i, i < msgField b 0x21 1 → (∀ k, i < k → k < msgField b 0x21 1 →
            msgField b (0x24 + 4 * k) 2 ≠ msgField b (0x24 + 4 * i) 2) →
          tfind (u.member r).srcs (msgField b (0x24 + 4 * i) 2) = some (msgField b (0x26 + 4 * i) 1)) ∧
        (∀ k, k ≠ r → u.member k = s.member k) ∧
        (∀ x ∈ s.tts, u.fld (TT_S x.index) 4 3 = u.request x ∧ (u.ttState x.index = ttOff ↔ u.request x = 0)) ∧
        (s.tts = [] → ∀ a, a ≠ FLK_CNT → blockOf a ≠ 64 → blockOf a ≠ 65 → u.reg a = s.reg a)) ∧
  (∀ (s : State) (p : Fin 2) (b : List Byte) (r : Nat), s.hears p b → msgField b 0 1 = 4 → s.msgMember b = some r →
      s.flag RTC_STAT 7 = false → s.rtc.pendTime = none → s.headedFor = 0 →
      let sub := msgField b 0x14 2
      let t := (sub / 32768 * 2 ^ 32 + msgField b 0x10 4) * 32768 + sub % 32768 + 2 * (msgField b 1 1 + 1)
      let off : Int := Int.ofNat t - Int.ofNat s.rtc.units
      Yields (.flkTime p b) s fun u =>
        (off.natAbs < 2 → u.rtc = s.rtc ∧ s.sameRegs u [FLK_CNT]) ∧
        (2 ≤ off.natAbs → off.natAbs ≤ 32767 →
          u.rtc = { s.rtc with
            flkTimed := true, pendShift := some (s.rtc.raw, decide (off < 0), off.natAbs) } ∧
          u.flag RTC_STAT 7 = true) ∧
        (32767 < off.natAbs → t < rtcEnd * 32768 →
          u.rtc = { s.rtc with
            flkTimed := true, pendTime := some (s.rtc.raw, t / 32768, t % 32768) } ∧
          u.flag RTC_STAT 7 = true) ∧
        (2 ≤ off.natAbs → u.fld FLK_TIME 0 16 = ofSigned 16 (clampInt (-32768) 32767 off) ∧
          u.fld FLK_TIME 16 16 = min (s.fld FLK_TIME 16 16 + 1) 0xFFFF) ∧
        s.sameRegs u [FLK_CNT, FLK_TIME, RTC_STAT]) ∧
  (∀ (s : State) (p : Fin 2) (b : List Byte) (r : Nat), s.hears p b → msgField b 0 1 = 4 → s.msgMember b = some r →
      s.flag RTC_STAT 7 = true → s.headedFor = 0 →
      let sub := msgField b 0x14 2
      let t := (sub / 32768 * 2 ^ 32 + msgField b 0x10 4) * 32768 + sub % 32768 + 2 * (msgField b 1 1 + 1)
      let off : Int := Int.ofNat t - Int.ofNat s.rtc.units
      let beside := s.rtc.pendTime.any (fun x => x.1 = s.rtc.raw) = true ∧ s.rtc.pendShift = none ∧ 2 ≤ off.natAbs ∧
        off.natAbs ≤ 32767
      Yields (.flkTime p b) s fun u =>
        (¬ beside → u.rtc = s.rtc ∧ s.sameRegs u [FLK_CNT]) ∧
        (beside →
          u.rtc = { s.rtc with
            flkTimed := false, pendShift := some (s.rtc.raw, decide (off < 0), off.natAbs) } ∧ s.sameRegs u [FLK_CNT, FLK_TIME, RTC_STAT])) ∧
  (∀ s : State, s.fkState = fkSeeking ∨ s.fkState = fkSplit →
      Yields .helloTimer s fun u => s.sends u 1 s.helloBody ∧ s.sameRegs u [] ∧
        s.onlyRegs { u with flk := s.flk, lnk := s.lnk }) ∧
  (∀ s : State, s.fkState ≠ fkSeeking → s.fkState ≠ fkSplit →
      Yields .helloTimer s fun u => s.sameRegs u [] ∧ s.onlyRegs u) ∧
  (∀ s : State, s.joined = true →
      Yields .stateTimer s fun u => (∀ p ∈ [2, 3], s.lnkState p = lnUp → ∃ x ∈ (u.lnkOf p).qReq,
          x.payload.take 1 = [2] ∧ x.payload.drop 16 = s.stateBody false) ∧ s.sameRegs u [FLK_STAT, FLK_ISTAT] ∧
        s.onlyRegs { u with flk := s.flk, lnk := s.lnk }) ∧
  (∀ s : State, s.joined = false → Yields .stateTimer s fun u => s.sameRegs u [] ∧ s.onlyRegs u) ∧
  (∀ s : State, s.joined = true → s.flag FLK_STAT 14 = false → s.fld FLK_STAT 12 2 = s.rank →
      Yields .timeTimer s fun u => s.sends u 4 s.timeBody ∧ s.sameRegs u [] ∧
        s.onlyRegs { u with flk := s.flk, lnk := s.lnk }) ∧
  (∀ s : State, s.joined = false ∨ s.flag FLK_STAT 14 = true ∨ s.fld FLK_STAT 12 2 ≠ s.rank →
      Yields .timeTimer s fun u => s.sameRegs u [] ∧ s.onlyRegs u)

/-- The swap of roles. Drawn from R446, R451, R454, R456, R457. Clauses about points that the spec leaves open or that
are read by inference follow the model: log entries 196, 197. -/
def Obligations.RoleSwap : Prop :=
  (∀ (s : State) (t : Requester) (w : Word), s.takes t FLK_CTRL → w.getLsbD 0 = true → s.flag FLK_STAT 24 = false →
      s.joined = true → s.peers.contains (bits w.toNat 8 2) = true →
      s.leads = true ∨ bits w.toNat 8 2 = s.fld FLK_STAT 4 2 →
      let d := (s.member (bits w.toNat 8 2)).devid
      Yields (.swap t w) s fun u => u.lastStatus = stOk ∧ u.flk.pending = some d ∧ u.flag FLK_STAT 24 = true ∧
        u.fld FLK_CTRL 8 2 = bits w.toNat 8 2 ∧ s.sends u 5 (leBytes 8 d) ∧ s.sameRegs u [FLK_CTRL, FLK_STAT] ∧
        s.onlyRegs { u with flk := s.flk, lnk := s.lnk }) ∧
  (∀ (s : State) (t : Requester) (w : Word), s.takes t FLK_CTRL → w.getLsbD 0 = true → s.flag FLK_STAT 24 = false →
      s.joined = false ∨ s.peers.contains (bits w.toNat 8 2) = false ∨
        (s.leads = false ∧ bits w.toNat 8 2 ≠ s.fld FLK_STAT 4 2) →
      Yields (.swap t w) s fun u => u.lastStatus = stOk ∧ u.flk.pending = none ∧ u.flag FLK_STAT 24 = false ∧
        u.fld FLK_STAT 20 4 = 5 ∧ u.flag FLK_ISTAT 3 = true ∧ s.sameRegs u [FLK_CTRL, FLK_STAT, FLK_ISTAT] ∧
        s.onlyRegs { u with flk := s.flk }) ∧
  (∀ (s : State) (t : Requester) (w : Word), s.takes t FLK_CTRL → w.getLsbD 0 = true → s.flag FLK_STAT 24 = true →
      Yields (.swap t w) s fun u => u.lastStatus = stOk ∧ s.sameRegs u [] ∧ s.onlyRegs u) ∧
  (∀ s : State, s.flag FLK_STAT 24 = true →
      Yields .roleTimeout s fun u => u.flag FLK_STAT 24 = false ∧ u.fld FLK_STAT 20 4 = 6 ∧ u.flk.pending = none ∧
        u.flag FLK_ISTAT 3 = true ∧ u.fld FLK_STAT 4 2 = s.fld FLK_STAT 4 2 ∧ u.leads = s.leads ∧
        s.sameRegs u [FLK_STAT, FLK_ISTAT] ∧ s.onlyRegs { u with flk := s.flk }) ∧
  (∀ s : State, s.flag FLK_STAT 24 = false → Yields .roleTimeout s fun u => s.sameRegs u [] ∧ s.onlyRegs u) ∧
  (∀ (s : State) (p : Fin 2) (b : List Byte) (r : Nat), s.hears p b → msgField b 0 1 = 5 → s.msgMember b = some r →
      msgField b 0x10 8 = s.otp.force.devid → s.flk.pending ≠ some (msgDevid b) →
      ((s.leads = false ∧ s.flag FLK_CFG 16 = true) ∨ s.flk.pending.isSome = true) →
      Yields (.flkRoleReq p b) s fun u =>
        (∀ k ∈ [2, 3], s.lnkState k = lnUp → ∃ x ∈ (u.lnkOf k).qReq, x.payload.take 1 = [6] ∧ x.payload.drop 16 =
          leBytes 8 (msgDevid b) ++ leBytes 1 (if s.leads = false ∧ s.flag FLK_CFG 16 = true then 4 else 3) ++
            leBytes 1 (s.fld FLK_STAT 4 2) ++ [0, 0]) ∧ u.flk.pending = s.flk.pending ∧ s.sameRegs u [FLK_CNT]) ∧
  (∀ (s : State) (p : Fin 2) (b : List Byte) (r : Nat), s.hears p b → msgField b 0 1 = 5 → s.msgMember b = some r →
      msgField b 0x10 8 = s.otp.force.devid → s.flk.pending = none → s.leads = true →
      s.staysAwake → s.ttsWf → (∀ k, k < 128 → k ≠ 81 → s.faultClass k ≤ 3) →
      Yields (.flkRoleReq p b) s fun u => u.leads = false ∧ u.fld FLK_STAT 4 2 = r ∧
        u.flag (CAN_MB_CTRL 0 0) 4 = false ∧ u.flag (CAN_MB_CTRL 1 0) 4 = false ∧
        (∀ k ∈ [2, 3], s.lnkState k = lnUp → ∃ x ∈ (u.lnkOf k).qReq, x.payload.take 1 = [6] ∧
          x.payload.drop 16 = leBytes 8 (msgDevid b) ++ leBytes 1 1 ++ leBytes 1 r ++ [0, 0])) ∧
  (∀ (s : State) (p : Fin 2) (b : List Byte) (r : Nat), s.hears p b → msgField b 0 1 = 5 → s.msgMember b = some r →
      msgField b 0x10 8 = s.otp.force.devid → s.flk.pending = some (msgDevid b) → s.staysAwake → s.ttsWf → (∀ k, k < 128 → k ≠ 81 → s.faultClass k ≤ 3) →
      s.rank < 4 →
      Yields (.flkRoleReq p b) s fun u => u.flag FLK_STAT 24 = false ∧ u.flk.pending = none ∧
        u.flag FLK_ISTAT 3 = true ∧
        (s.otp.force.devid < msgDevid b → u.fld FLK_STAT 20 4 = 1 ∧ u.leads = true ∧ u.fld FLK_STAT 4 2 = s.rank) ∧
        (msgDevid b < s.otp.force.devid → u.fld FLK_STAT 20 4 = 2 ∧ u.leads = false ∧ u.fld FLK_STAT 4 2 = r)) ∧
  (∀ (s : State) (p : Fin 2) (b : List Byte) (r : Nat), s.hears p b → msgField b 0 1 = 6 → s.msgMember b = some r →
      msgField b 0x10 8 = s.otp.force.devid → s.flk.pending = some (msgDevid b) → msgField b 0x18 1 = 1 →
      msgField b 0x19 1 = s.rank → s.rank < 4 → s.staysAwake → s.ttsWf → (∀ k, k < 128 → k ≠ 81 → s.faultClass k ≤ 3) →
      Yields (.flkRoleAck p b) s fun u => u.flk.pending = none ∧ u.flag FLK_STAT 24 = false ∧
        u.fld FLK_STAT 20 4 = 1 ∧ u.flag FLK_ISTAT 3 = true ∧ u.leads = true ∧ u.fld FLK_STAT 4 2 = s.rank) ∧
  (∀ (s : State) (p : Fin 2) (b : List Byte) (r : Nat), s.hears p b → msgField b 0 1 = 6 → s.msgMember b = some r →
      msgField b 0x10 8 = s.otp.force.devid → s.flk.pending = some (msgDevid b) →
      msgField b 0x18 1 = 3 ∨ msgField b 0x18 1 = 4 →
      Yields (.flkRoleAck p b) s fun u => u.flk.pending = none ∧ u.flag FLK_STAT 24 = false ∧
        u.fld FLK_STAT 20 4 = msgField b 0x18 1 ∧ u.flag FLK_ISTAT 3 = true ∧ u.leads = s.leads ∧
        u.fld FLK_STAT 4 2 = s.fld FLK_STAT 4 2 ∧ s.sameRegs u [FLK_CNT, FLK_STAT, FLK_ISTAT]) ∧
  (∀ (s : State) (p : Fin 2) (b : List Byte) (r : Nat), s.hears p b → msgField b 0 1 = 6 → s.msgMember b = some r →
      msgField b 0x10 8 = s.otp.force.devid → s.flk.pending ≠ some (msgDevid b) →
      Yields (.flkRoleAck p b) s fun u => s.sameRegs u [FLK_CNT] ∧ u.flk.pending = s.flk.pending) ∧
  (∀ (s : State) (p : Fin 2) (b : List Byte) (r : Nat), s.hears p b → msgField b 0 1 = 5 → s.msgMember b = some r →
      msgField b 0x10 8 = s.otp.force.devid → s.flk.pending = none → s.leads = false → s.flag FLK_CFG 16 = false →
      s.rank < 4 → s.staysAwake → s.ttsWf → (∀ k, k < 128 → k ≠ 81 → s.faultClass k ≤ 3) →
      Yields (.flkRoleReq p b) s fun u => u.leads = true ∧ u.fld FLK_STAT 4 2 = s.rank ∧ u.flk.pending = none ∧
        (∀ k ∈ [2, 3], s.lnkState k = lnUp → ∃ x ∈ (u.lnkOf k).qReq, x.payload.take 1 = [6] ∧
          x.payload.drop 16 = leBytes 8 (msgDevid b) ++ leBytes 1 1 ++ leBytes 1 s.rank ++ [0, 0])) ∧
  (∀ (s : State) (p : Fin 2) (b : List Byte) (r : Nat), s.hears p b → msgField b 0 1 = 5 → s.msgMember b = some r →
      msgField b 0x10 8 ≠ s.otp.force.devid →
      Yields (.flkRoleReq p b) s fun u => u.leads = s.leads ∧ u.flk.pending = s.flk.pending ∧ s.sameRegs u [FLK_CNT]) ∧
  (∀ (s : State) (p : Fin 2) (b : List Byte) (r : Nat), s.hears p b → msgField b 0 1 = 6 → s.msgMember b = some r →
      msgField b 0x10 8 ≠ s.otp.force.devid → msgField b 0x18 1 = 1 ∨ msgField b 0x18 1 = 2 →
      msgField b 0x19 1 = s.rank ∨ s.peers.contains (msgField b 0x19 1) = true → s.rank < 4 → s.staysAwake → s.ttsWf →
      (∀ k, k < 128 → k ≠ 81 → s.faultClass k ≤ 3) →
      Yields (.flkRoleAck p b) s fun u => u.fld FLK_STAT 4 2 = msgField b 0x19 1 ∧
        u.leads = decide (msgField b 0x19 1 = s.rank) ∧ u.flk.pending = s.flk.pending ∧
        u.flag FLK_STAT 24 = s.flag FLK_STAT 24 ∧ u.fld FLK_STAT 20 4 = s.fld FLK_STAT 20 4 ∧
        (msgField b 0x19 1 ≠ s.rank → u.flag (CAN_MB_CTRL 0 0) 4 = false ∧ u.flag (CAN_MB_CTRL 1 0) 4 = false)) ∧
  (∀ (s : State) (p : Fin 2) (b : List Byte) (r : Nat), s.hears p b → msgField b 0 1 = 6 → s.msgMember b = some r →
      msgField b 0x10 8 ≠ s.otp.force.devid → msgField b 0x18 1 ≠ 1 → msgField b 0x18 1 ≠ 2 →
      Yields (.flkRoleAck p b) s fun u => u.leads = s.leads ∧ u.fld FLK_STAT 4 2 = s.fld FLK_STAT 4 2 ∧
        u.flk.pending = s.flk.pending ∧ s.sameRegs u [FLK_CNT])

/-- The queue: a step of the block runs the command at its front on the state with the queue's rest. Clauses about
points that the spec leaves open or that are read by inference follow the model: log entry 5. -/
def Obligations.StepRunsFront : Prop :=
  ∀ (c : Instr) (rest : List Instr) (s : State), step { s with pending := c :: rest } = exec c { s with pending := rest }

/-- R228, R241, and DESIGN CHOICE (log entry 3): with no command waiting one BK32 tick passes. The backup domain's
time and the door times move; a time write takes effect in the tick that begins a full BK32 period after it. -/
def Obligations.IdleTick : Prop :=
  (∀ s : State, s.pending = [] → s.rtc.stopped = true ∨ s.rtc.por = true →
      ∃ t, step s = .next t ∧ t.ctl.smo = (if s.ctl.pmicOn && s.ladder ≤ 2 then s.ctl.smo + 1 else s.ctl.smo) ∧
        s.sameRegs t [] ∧ s.onlyRegs { t with ctl := { t.ctl with smo := s.ctl.smo } }) ∧
  (∀ s : State, s.pending = [] → s.rtc.stopped = false → s.rtc.por = false → s.rtc.winDue = false →
      s.rtc.pendTime = none → s.rtc.pendShift = none → s.pwr.lateWake = none → s.seq.adopt = none →
      ∃ t, step s = .next t ∧ t.rtc.raw = s.rtc.raw + 1 ∧
        (s.rtc.units + s.rtc.advance < rtcEnd * 32768 → t.rtc.units = s.rtc.units + s.rtc.advance ∧
          s.sameRegs t [RTC_RUNTIME]) ∧
        (rtcEnd * 32768 ≤ s.rtc.units + s.rtc.advance →
          t.rtc.units = s.rtc.units + s.rtc.advance - rtcEnd * 32768 ∧ t.flag RTC_STAT 6 = true) ∧
        (s.door.counting = true → t.door.ticks = s.door.ticks + 1) ∧ s.sameRegs t [RTC_RUNTIME, RTC_STAT] ∧
        t.ctl.smo = (if s.ctl.pmicOn && s.ladder ≤ 2 then s.ctl.smo + 1 else s.ctl.smo) ∧
        s.onlyRegs { t with rtc := s.rtc, door := s.door, ctl := { t.ctl with smo := s.ctl.smo } }) ∧
  (∀ (s : State) (k sec sub : Nat), s.pending = [] → s.rtc.stopped = false → s.rtc.por = false → s.rtc.winDue = false →
      s.rtc.pendTime = some (k, sec, sub) → k + 2 ≤ s.rtc.raw + 1 → s.pwr.lateWake = none → s.seq.adopt = none →
      ∃ t, step s = .next t ∧ t.rtc.sec = sec ∧ t.rtc.sub = sub ∧ t.rtc.pendTime = none ∧ t.flag RTC_STAT 0 = false ∧
        t.flag RTC_STAT 7 = false ∧ s.sameRegs t [RTC_RUNTIME, RTC_STAT])

/-- From every state the block answers a next state, in which every tenant's interrupt summary has been evaluated: no
rise of a summary is lost between two commands. Drawn from R325, R326, R334. Clauses about points that the spec leaves
open or that are read by inference follow the model: log entries 3, 6. -/
def Obligations.EveryStepSettles : Prop :=
∀ s : State, ∃ t, step s = .next t ∧ t.settled

/-- The state after reset meets what the steps keep: its summaries are evaluated, its queue is empty, and its tables
are in their canonical form. Clauses about points that the spec leaves open or that are read by inference follow the
model: log entries 2, 16, 61. -/
def Obligations.ResetIsSettled : Prop :=
  State.reset.settled ∧ State.reset.pending = [] ∧ State.reset.regsWf ∧ State.reset.memWf ∧ State.reset.nvWf ∧
    State.reset.railsWf ∧ State.reset.ttsWf

/-- From every state in which the register file, working memory and the NV array are in their canonical form, every
step, whichever command stands in front and the idle tick too, leads to such a state, and likewise for the well-formed
RAIL and TELLTALE records; an accepted request of a host completes and keeps the form. Clauses about points that the
spec leaves open or that are read by inference follow the model: log entries 62, 146. -/
def Obligations.EveryStepKeepsForm : Prop :=
  (∀ s : State, s.regsWf → s.memWf → s.nvWf → ∃ t, step s = .next t ∧ t.regsWf ∧ t.memWf ∧ t.nvWf) ∧
  (∀ s : State, s.railsWf → s.ttsWf → ∃ t, step s = .next t ∧ t.railsWf ∧ t.ttsWf) ∧
  (∀ (s : State) (p : HostPort) (q : ReqPacket), s.memWf → s.nvWf →
    ∀ c ∈ [(tyRd, Instr.readRequest p q), (tyWr, .writeRequest p q), (tyAt, .atomicRequest p q)], s.accepts p c.1 q →
    spaceOf (reqOf q.payload).addr ((reqOf q.payload).bytes c.1) = .memory → Yields c.2 s fun u => u.memWf ∧ u.nvWf)

/-- R14: only T0 may write SYS_RST_CTRL. -/
def Obligations.ResetControlRights : Prop :=
  ∀ (s : State) (t : Requester) (d : ResetDomain) (w same : Word), s.holdsFor t = false → s.servesFor t = true →
    whoOf t ≠ 0 → ∀ c ∈ [Instr.warm t, .domainReset t d, .registerWrite t (BitVec.ofNat 32 SYS_RST_CTRL) w same],
    Yields c s fun u => u.lastStatus = stPermission ∧ s.sameRegs u [] ∧ s.onlyRegs u

/-- R203: SEQ_CTRL accepts writes only from T0 and T1 that REG_WR grants for SEQ (block 8). -/
def Obligations.SequencerRights : Prop :=
  (∀ (s : State) (t : Requester) (w same : Word), s.holdsFor t = false → s.servesFor t = true →
      1 < whoOf t ∨ (s.tenantRec (whoOf t)).any (fun r => bit r.regWr (blockOf SEQ_CTRL)) = false →
      ∀ c ∈ [Instr.seqUp t w, .seqDown t w, .registerWrite t (BitVec.ofNat 32 SEQ_CTRL) w same],
      Yields c s fun u => u.lastStatus = stPermission ∧ s.sameRegs u [] ∧ s.onlyRegs u) ∧
  (∀ (s : State) (t : Requester), s.holdsFor t = false → s.servesFor t = true → t ≠ 16 → whoOf t ≤ 1 →
      (s.tenantRec (whoOf t)).any (fun r => bit r.regWr (blockOf SEQ_CTRL)) = true → s.takes t SEQ_CTRL)

/-- R471: who may write the FLT block. -/
def Obligations.FaultBlockRights : Prop :=
  (∀ (s : State) (t : Requester) (a w same : Word), s.holdsFor t = false → s.servesFor t = true →
      blockOf a.toNat = blockOf FLT_COUNT → regMapped a.toNat = true → a.toNat % 4 = 0 →
      1 < whoOf t ∨ (s.tenantRec (whoOf t)).any (fun r => bit r.regWr (blockOf FLT_COUNT)) = false ∨
        (a.toNat = FLT_WDG_KICK ∧ whoOf t ≠ 1) →
      Yields (.registerWrite t a w same) s fun u => u.lastStatus = stPermission ∧ s.sameRegs u [] ∧ s.onlyRegs u) ∧
  (∀ (s : State) (t : Requester) (w : Word), s.holdsFor t = false → s.servesFor t = true →
      1 < whoOf t ∨ (s.tenantRec (whoOf t)).any (fun r => bit r.regWr (blockOf FLT_COUNT)) = false →
      ∀ c ∈ [Instr.safeRelease t w, .faultQuery t w],
      Yields c s fun u => u.lastStatus = stPermission ∧ s.sameRegs u [] ∧ s.onlyRegs u) ∧
  (∀ (s : State) (t : Requester) (w : Word) (ms : Nat), s.holdsFor t = false → s.servesFor t = true →
      whoOf t ≠ 1 ∨ (s.tenantRec (whoOf t)).any (fun r => bit r.regWr (blockOf FLT_COUNT)) = false →
      Yields (.watchdogKick t w ms) s fun u => u.lastStatus = stPermission ∧ s.sameRegs u [] ∧ s.onlyRegs u) ∧
  (∀ (s : State) (t : Requester) (a : Nat), s.holdsFor t = false → s.servesFor t = true → t ≠ 16 → whoOf t ≤ 1 →
      blockOf a = blockOf FLT_COUNT → (a = FLT_WDG_KICK → whoOf t = 1) →
      (s.tenantRec (whoOf t)).any (fun r => bit r.regWr (blockOf FLT_COUNT)) = true → s.takes t a)

/-- A command that writes a register which its requester may not write completes with STATUS PERMISSION and changes
nothing: every command that carries a requester, in its core registers (one clause), in the registers of the backup
domain, and a write of any register by its address. Drawn from R105, R256, R328. Clauses about points that the spec
leaves open or that are read by inference follow the model: log entries 8, 9. -/
def Obligations.CommandsRefused : Prop :=
  (∀ (s : State) (t : Requester) (w : Word) (p : Fin 4) (x : Fin 16) (ch : Fin 32) (c : Fin 2) (n : Fin 64) (k : Fin 8)
      (ok b : Bool) (d : ResetDomain) (vhold : Code) (ms : Nat), s.holdsFor t = false → s.servesFor t = true →
    ∀ e ∈ [(STR_BQ_ADDR, Instr.boundQuery t false w), (STR_BQ_BIT, .boundQuery t true w), (SYS_RST_CTRL, .warm t),
      (SYS_RST_CTRL, .domainReset t d), (OTP_PROG_CTRL, .otpProgram t w ok), (UPD_CTRL, .updOpen t w),
      (UPD_CTRL, .updVerify t w), (UPD_CTRL, .updActivate t w), (UPD_CTRL, .updConfirm t w), (UPD_CTRL, .updRollback t w),
      (MEM_ECC_CTRL, .eccCountClear t w), (MEM_STALE k, .staleFlagClear t false k w),
      (MEM_LOST k, .staleFlagClear t true k w), (STO_CTRL, .manualStore t vhold), (PWR_REQ, .vote t w vhold b),
      (SEQ_CTRL, .seqUp t w), (SEQ_CTRL, .seqDown t w), (ADC_CH_CFG ch, .adcChannelConfig t ch w),
      (PHY_CTRL p, .retrain t p w), (PHY_CLR p, .phyCounterClear t p w), (LNK_CTRL p, .scheduleRetrain t p w),
      (LNK_CTRL p, .linkCounterClear t p w), (INT_CTL x, .eoi t x w), (INT_ROUTE p, .intRoute t p w),
      (INT_EN x, .intEnable t x w), (TXN_CLR, .txnCounterClear t w), (CH_CTRL p, .channelActivate t p w),
      (CH_CTRL p, .channelDeactivate t p w), (CH_CTRL p, .commit t p w), (CH_PAL_A p, .paletteEntryWrite t p w),
      (CH_CLR p, .channelCounterClear t p w), (OUT_CTRL p, .outputRetrain t p w), (OUT_AUX_CMD p, .auxCommand t p w),
      (OUT_CLR p, .outputCounterClear t p w), (TT_T1_ALIVE, .t1AliveKick t w), (TT_T1_REQ p, .t1Request t p w),
      (CAN_MB_CTRL c n, .canTxRequest t c n w), (CAN_MB_CTRL c n, .canTxAbort t c n w b),
      (CAN_CTRL c, .canCounterClear t c w), (FLK_CTRL, .swap t w), (FLT_SAFE_CTRL, .safeRelease t w),
      (FLT_WDG_KICK, .watchdogKick t w ms), (FLT_QSRC, .faultQuery t w), (ARB_CLR, .arbCounterClear t w)],
    (t = 16 ∧ s.sbpWrites = false) ∨ s.mayWrite (whoOf t) e.1 = false →
    Yields e.2 s fun u => u.lastStatus = stPermission ∧ s.sameRegs u [] ∧ s.onlyRegs u) ∧
  (∀ (s : State) (t : Requester) (w : Word) (b : Bool), s.holdsFor t = false → s.servesFor t = true → t ≠ 16 →
    ∀ e ∈ [(PWR_SBP_WAKE, Instr.sbpWake t w), (LOG_RD_CTRL, .logReadout t w), (RTC_SWFIRST_SUB, .swfirstClear t w),
      (RTC_SET_HI, .timeWrite t w), (RTC_SHIFT, .shift t w b), (EVT_STAT, .ovfClear t w),
      (EVT_RD_CTRL, .eventReadout t w), (RTC_CD_LOAD, .countdownLoad t w)],
    s.mayWrite (whoOf t) e.1 = false →
    Yields e.2 s fun u => u.lastStatus = stPermission ∧ s.sameRegs u [] ∧ s.onlyRegs u) ∧
  (∀ (s : State) (t : Requester) (a w same : Word), s.holdsFor t = false → s.servesFor t = true →
    regMapped a.toNat = true → a.toNat % 4 = 0 →
    (t = 16 ∧ s.sbpWrites = false) ∨ s.mayWrite (whoOf t) a.toNat = false →
    Yields (.registerWrite t a w same) s fun u => u.lastStatus = stPermission ∧ s.sameRegs u [] ∧ s.onlyRegs u)

/-- R103: accesses to no target complete with DECODE and change nothing. -/
def Obligations.NoTarget : Prop :=
  (∀ (s : State) (t : Requester) (a w same : Word), s.servesFor t = true →
      (0x04000000 ≤ a.toNat ∧ a.toNat < 0x40000000) ∨ (0x4C000000 ≤ a.toNat ∧ a.toNat < 0x80000000) ∨
        (0x80800000 ≤ a.toNat ∧ a.toNat < 0x90000000) ∨ 0x91000000 ≤ a.toNat →
      Yields (.registerWrite t a w same) s fun u => u.lastStatus = stDecode ∧ s.sameRegs u [] ∧ s.onlyRegs u) ∧
  (∀ (s : State) (p : HostPort) (q : ReqPacket), ∀ c ∈ [(tyRd, Instr.readRequest p q), (tyWr, .writeRequest p q),
      (tyAt, .atomicRequest p q)], s.judges p c.1 q → s.lnkState p = lnUp → s.declared q.tenant.val = true → s.tagInRange q.tenant.val (reqOf q.payload).tag = true →
      tfind s.txn.tags (reqOf q.payload).tag = none → s.portAllowed p q.tenant.val = true →
      formatOk c.1 q.payload = true → 0 < (reqOf q.payload).bytes c.1 →
      (0x04000000 ≤ (reqOf q.payload).addr ∧ (reqOf q.payload).addr < 0x40000000) ∨
        (0x4C000000 ≤ (reqOf q.payload).addr ∧ (reqOf q.payload).addr < 0x80000000) ∨
        (0x80800000 ≤ (reqOf q.payload).addr ∧ (reqOf q.payload).addr < 0x90000000) ∨
        0x91000000 ≤ (reqOf q.payload).addr →
      Yields c.2 s fun u => (u.lnkOf p).qRsp = (s.lnkOf p).qRsp ++
          [cplPacket q.tenant (reqOf q.payload).tag stDecode false] ∧ u.mem = s.mem ∧ u.nv = s.nv ∧
        u.txn.tags = s.txn.tags ∧ s.sameRegs u [TXN_CNT, TEN_ERR q.tenant, TXN_STAT, TXN_ERR_LAST, TXN_ERR_ADDR])

/-- R346, R377, R393, R410, R430, R452, R476, R325: INT_PEND as a tenant reads it shows the summaries of the blocks of
Table 15-4; the tenant's own summary and, while the core has power, its pin follow (R327, R239). -/
def Obligations.InterruptSources : Prop :=
  (∀ (s : State) (k : Nat) (t : Fin 16) (n : Fin 4), bit (s.view k (INT_PEND t)) (17 + n) =
      (decide (s.fld (INT_ROUTE ((17 + n) / 8)) (4 * ((17 + n) % 8)) 4 = t) &&
        (s.reg (CH_ISTAT n) &&& s.reg (CH_IEN n) != 0 || s.reg (OUT_ISTAT n) &&& s.reg (OUT_IEN n) != 0))) ∧
  (∀ (s : State) (k : Nat) (t : Fin 16), ∀ e ∈ [(21, TT_ISTAT, TT_IEN), (22, OPT_ISTAT, OPT_IEN),
      (24, CAN_ISTAT 0, CAN_IEN 0), (25, CAN_ISTAT 1, CAN_IEN 1), (26, ADC_ISTAT, ADC_IEN), (27, BKL_ISTAT, BKL_IEN),
      (28, FLK_ISTAT, FLK_IEN), (29, FLT_ISTAT, FLT_IEN), (30, ARB_ISTAT, ARB_IEN)],
      bit (s.view k (INT_PEND t)) e.1 = (decide (s.fld (INT_ROUTE (e.1 / 8)) (4 * (e.1 % 8)) 4 = t) &&
        (s.reg e.2.1 &&& s.reg e.2.2 != 0))) ∧
  (∀ (s : State) (k : Nat) (t : Fin 16), bit (s.view k (INT_PEND t)) 23 =
      (decide (s.fld (INT_ROUTE 2) 28 4 = t) && ((s.flag LED_IEN 0 && s.reg LED_OPEN != 0) ||
        (s.flag LED_IEN 1 && s.reg LED_SHORT != 0)))) ∧
  (∀ (s : State) (k : Nat) (t : Fin 16),
      s.summary t = decide (s.view k (INT_PEND t) &&& (s.reg (INT_EN t)).toNat ≠ 0)) ∧
  (∀ (s : State) (k : Nat) (n : Fin 4), s.signals = true → (bit (s.view k INT_PIN_STAT) n = true ↔
      ∃ t, t < 16 ∧ s.summary t = true ∧ ∃ r, s.tenantRec t = some r ∧ r.intPin = n))

/-- R418: each error that a controller detects records its kind and is counted. -/
def Obligations.CanErrorsRecorded : Prop :=
  (∀ (s : State) (c : Fin 2) (e : CanError) (heavy : Bool), s.canOnline c = true →
      Yields (.canRxError c e heavy) s fun u => u.fld (CAN_LEC c) 0 3 = lecCode e ∧
        u.fld (CAN_ECNT c) 0 16 = min (s.fld (CAN_ECNT c) 0 16 + 1) 0xFFFF) ∧
  (∀ (s : State) (c : Fin 2) (e : CanError) (delay : Option Nat), s.canOnline c = true →
      (s.offered c).isSome = true → s.faultClass (74 + c) ≤ 3 →
      Yields (.canTxError c e delay) s fun u => u.fld (CAN_LEC c) 0 3 = lecCode e ∧
        u.fld (CAN_ECNT c) 0 16 = min (s.fld (CAN_ECNT c) 0 16 + 1) 0xFFFF) ∧
  (∀ (s : State) (c : Fin 2) (f : CanFrame) (time : Word), s.canOnline c = true → s.canHears c = true →
      f.fdf = true →
      s.canFlag c 0 = false →
      Yields (.canFrameReceived c f time [] none) s fun u => u.fld (CAN_LEC c) 0 3 = lecCode .form ∧
        u.fld (CAN_ECNT c) 0 16 = min (s.fld (CAN_ECNT c) 0 16 + 1) 0xFFFF)

/-- R454: a request with no ROLE_ACK in time ends with TIMEOUT and the roles stay; a later ROLE_ACK is dropped. -/
def Obligations.RoleRequestTimeout : Prop :=
  (∀ s : State, s.flag FLK_STAT 24 = true →
      Yields .roleTimeout s fun u => u.flag FLK_STAT 24 = false ∧ u.fld FLK_STAT 20 4 = 6 ∧ u.flk.pending = none ∧
        u.fld FLK_STAT 4 2 = s.fld FLK_STAT 4 2 ∧ u.leads = s.leads) ∧
  (∀ (s : State) (p : Fin 2) (b : List Byte) (r : Nat), s.hears p b → msgField b 0 1 = 6 → s.msgMember b = some r →
      msgField b 0x10 8 = s.otp.force.devid → s.flk.pending = none →
      Yields (.flkRoleAck p b) s fun u => s.sameRegs u [FLK_CNT] ∧ u.flk.pending = none)
end

