-- ==== Sys2Proof/Laws/Table.lean ====
section
/-! SUPPORT. Laws of sparse tables: a read after a write, writes elsewhere, and the canonical form kept by every table
operation. -/

namespace Sys2Proof.Laws

open Sys2Proof.Machine

variable {α : Type}

theorem tget_tdel_same (d : α) (t : Tab α) (k : Nat) : tget d (tdel t k) k = d := by
  induction t with
  | nil => rfl
  | cons e t ih =>
    by_cases h : e.1 = k
    · simpa [tdel, h] using ih
    · simpa [tdel, h, tget] using ih

theorem tget_tdel_ne (d : α) (t : Tab α) {k j : Nat} (h : j ≠ k) : tget d (tdel t k) j = tget d t j := by
  induction t with
  | nil => rfl
  | cons e t ih =>
    by_cases hk : e.1 = k
    · have hj : ¬ e.1 = j := fun x => h (x.symm.trans hk)
      simp [tdel, hk, tget, ih, show ¬ k = j from fun x => h x.symm]
    · by_cases hj : e.1 = j
      · simp [tdel, hj, tget, h]
      · simp [tdel, hk, tget, hj, ih]

theorem tget_tput_same (d : α) (t : Tab α) (k : Nat) (v : α) : tget d (tput t k v) k = v := by
  induction t with
  | nil => simp [tput, tget]
  | cons e t ih =>
    by_cases h1 : k < e.1
    · simp [tput, h1, tget]
    · by_cases h2 : e.1 = k
      · simp [tput, h2, tget]
      · simp [tput, h1, h2, tget, ih]

theorem tget_tput_ne (d : α) (t : Tab α) {k j : Nat} (v : α) (h : j ≠ k) : tget d (tput t k v) j = tget d t j := by
  have hk : ¬ k = j := fun x => h x.symm
  induction t with
  | nil => simp [tput, tget, hk]
  | cons e t ih =>
    by_cases h1 : k < e.1
    · simp [tput, h1, tget, hk]
    · by_cases h2 : e.1 = k
      · simp [tput, h2, tget, hk]
      · simp only [tput, h1, h2, if_false, tget, ih]

/-- A read after a write to the same key gives the value written. -/
theorem tget_tset_same [DecidableEq α] (d : α) (t : Tab α) (k : Nat) (v : α) : tget d (tset d t k v) k = v := by
  by_cases h : v = d
  · simp [tset, h, tget_tdel_same]
  · simp [tset, h, tget_tput_same]

/-- A write leaves every other key alone, whatever default its reader uses. -/
theorem tget_tset_ne [DecidableEq α] (d d' : α) (t : Tab α) {k j : Nat} (v : α) (h : j ≠ k) :
    tget d' (tset d t k v) j = tget d' t j := by
  by_cases hv : v = d
  · simp [tset, hv, tget_tdel_ne d' t h]
  · simp [tset, hv, tget_tput_ne d' t v h]

theorem tget_tset [DecidableEq α] (d : α) (t : Tab α) (k j : Nat) (v : α) :
    tget d (tset d t k v) j = if j = k then v else tget d t j := by
  by_cases h : j = k
  · simp [h, tget_tset_same]
  · simp [h, tget_tset_ne d d t v h]

/-- Keys of a filtered table that the filter keeps read as before. -/
theorem tget_filter (d : α) (t : Tab α) (f : Nat → Bool) (k : Nat) :
    tget d (t.filter fun e => f e.1) k = if f k then tget d t k else d := by
  induction t with
  | nil => simp [tget]
  | cons e t ih =>
    by_cases hf : f e.1 = true
    · by_cases hk : e.1 = k
      · simp [tget, ← hk, hf]
      · simp [tget, hk, hf, ih]
    · by_cases hk : e.1 = k
      · subst hk; simp [hf, ih]
      · simp [tget, hk, hf, ih]

/-! ### The canonical form -/

theorem canon_nil [DecidableEq α] (d : Nat → α) : Canon d ([] : Tab α) := by simp [Canon]

theorem mem_tdel {t : Tab α} {k : Nat} {e : Nat × α} : e ∈ tdel t k ↔ e ∈ t ∧ e.1 ≠ k := by
  induction t with
  | nil => simp [tdel]
  | cons a t ih =>
    by_cases h : a.1 = k
    · simp only [tdel, h, if_true, ih, List.mem_cons]
      constructor
      · rintro ⟨h1, h2⟩; exact ⟨.inr h1, h2⟩
      · rintro ⟨h1 | h1, h2⟩
        · subst h1; exact absurd h h2
        · exact ⟨h1, h2⟩
    · simp only [tdel, h, if_false, List.mem_cons, ih]
      constructor
      · rintro (h1 | ⟨h1, h2⟩)
        · subst h1; exact ⟨.inl rfl, h⟩
        · exact ⟨.inr h1, h2⟩
      · rintro ⟨h1 | h1, h2⟩
        · exact .inl h1
        · exact .inr ⟨h1, h2⟩

theorem tdel_eq_filter (t : Tab α) (k : Nat) : tdel t k = t.filter fun e => e.1 != k := by
  induction t with
  | nil => rfl
  | cons a t ih => by_cases h : a.1 = k <;> simp [tdel, h, ih]

/-- Filtering keeps the canonical form. -/
theorem canon_filter [DecidableEq α] {d : Nat → α} {t : Tab α} (h : Canon d t) (f : Nat × α → Bool) :
    Canon d (t.filter f) := by
  refine ⟨?_, fun e he => h.2 e (List.mem_filter.mp he).1⟩
  exact List.Pairwise.sublist (List.Sublist.map _ List.filter_sublist) h.1

theorem canon_tdel [DecidableEq α] {d : Nat → α} {t : Tab α} (h : Canon d t) (k : Nat) : Canon d (tdel t k) := by
  rw [tdel_eq_filter]; exact canon_filter h _

theorem mem_tput {t : Tab α} {k : Nat} {v : α} {e : Nat × α} (h : e ∈ tput t k v) : e = (k, v) ∨ e ∈ t := by
  induction t with
  | nil => simpa [tput] using h
  | cons a t ih =>
    by_cases h1 : k < a.1
    · simp only [tput, h1, if_true, List.mem_cons] at h
      rcases h with h | h | h
      · exact .inl h
      · exact .inr (by simp [h])
      · exact .inr (by simp [h])
    · by_cases h2 : a.1 = k
      · have h3 : tput (a :: t) k v = (k, v) :: t := by simp [tput, h2]
        rw [h3, List.mem_cons] at h
        rcases h with h | h
        · exact .inl h
        · exact .inr (by simp [h])
      · simp only [tput, h1, h2, if_false, List.mem_cons] at h
        rcases h with h | h
        · exact .inr (by simp [h])
        · rcases ih h with h | h
          · exact .inl h
          · exact .inr (by simp [h])

theorem sorted_tput {t : Tab α} (h : (t.map Prod.fst).Pairwise (· < ·)) (k : Nat) (v : α) :
    ((tput t k v).map Prod.fst).Pairwise (· < ·) := by
  induction t with
  | nil => simp [tput]
  | cons a t ih =>
    simp only [List.map_cons, List.pairwise_cons] at h
    by_cases h1 : k < a.1
    · simp only [tput, h1, if_true, List.map_cons, List.pairwise_cons]
      refine ⟨?_, h.1, h.2⟩
      intro x hx
      simp only [List.mem_cons] at hx
      rcases hx with hx | hx
      · omega
      · have := h.1 x hx; omega
    · by_cases h2 : a.1 = k
      · have h3 : tput (a :: t) k v = (k, v) :: t := by simp [tput, h2]
        rw [h3, List.map_cons, List.pairwise_cons]
        exact ⟨fun x hx => by have := h.1 x hx; omega, h.2⟩
      · simp only [tput, h1, h2, if_false, List.map_cons, List.pairwise_cons]
        refine ⟨?_, ih h.2⟩
        intro x hx
        obtain ⟨e, he, rfl⟩ := List.mem_map.mp hx
        rcases mem_tput he with rfl | he
        · show a.1 < k; omega
        · exact h.1 _ (List.mem_map_of_mem he)

/-- Every write of one key keeps the canonical form. -/
theorem canon_tset [DecidableEq α] {d : Nat → α} {t : Tab α} (h : Canon d t) (k : Nat) (v : α) :
    Canon d (tset (d k) t k v) := by
  by_cases hv : v = d k
  · simpa [tset, hv] using canon_tdel h k
  · simp only [tset, hv, if_false]
    refine ⟨sorted_tput h.1 k v, ?_⟩
    intro e he
    rcases mem_tput he with rfl | he
    · exact hv
    · exact h.2 e he

theorem canon_tcut [DecidableEq α] {d : Nat → α} {t : Tab α} (h : Canon d t) (lo hi : Nat) : Canon d (tcut t lo hi) :=
  canon_filter h _

theorem canon_tsetAll [DecidableEq α] {c : α} (vs : List α) {t : Tab α} (h : Canon (fun _ => c) t) (k : Nat) :
    Canon (fun _ => c) (tsetAll c t k vs) := by
  induction vs generalizing t k with
  | nil => exact h
  | cons v vs ih => exact ih (canon_tset (d := fun _ => c) h k v) (k + 1)

/-- Copying a span of one canonical table into another keeps the canonical form; both read the same default. -/
theorem canon_tcopy [DecidableEq α] {c : α} {t src : Tab α} (h : Canon (fun _ => c) t) (hs : Canon (fun _ => c) src)
    (dst off n : Nat) : Canon (fun _ => c) (tcopy t dst src off n) := by
  have hsl : ((tslice src off (off + n)).map Prod.fst).Pairwise (· < ·) :=
    List.Pairwise.sublist (List.Sublist.map _ List.filter_sublist) hs.1
  constructor
  · simp only [tcopy, List.map_append, List.map_map, List.pairwise_append]
    refine ⟨⟨?_, ?_, ?_⟩, ?_, ?_⟩
    · exact List.Pairwise.sublist (List.Sublist.map _ List.filter_sublist) h.1
    · have : ∀ l : Tab α, (∀ e ∈ l, off ≤ e.1) → (l.map Prod.fst).Pairwise (· < ·) →
          (l.map (Prod.fst ∘ fun e : Nat × α => (e.1 - off + dst, e.2))).Pairwise (· < ·) := by
        intro l hl hp
        induction l with
        | nil => simp
        | cons a l ih =>
          simp only [List.map_cons, List.pairwise_cons] at hp ⊢
          refine ⟨?_, ih (fun e he => hl e (List.mem_cons_of_mem _ he)) hp.2⟩
          intro x hx
          obtain ⟨e, he, rfl⟩ := List.mem_map.mp hx
          have h1 := hl a List.mem_cons_self
          have h2 := hp.1 e.1 (List.mem_map_of_mem he)
          simp only [Function.comp]
          omega
      refine this _ ?_ hsl
      intro e he
      have := (List.mem_filter.mp he).2
      simp at this
      exact this.1
    · intro x hx y hy
      obtain ⟨e, he, rfl⟩ := List.mem_map.mp hx
      obtain ⟨g, hg, rfl⟩ := List.mem_map.mp hy
      have h1 := (List.mem_filter.mp he).2
      simp at h1
      simp only [Function.comp]
      omega
    · exact List.Pairwise.sublist (List.Sublist.map _ List.filter_sublist) h.1
    · intro x hx y hy
      obtain ⟨g, hg, rfl⟩ := List.mem_map.mp hy
      have h2 := (List.mem_filter.mp hg).2
      simp at h2
      rcases List.mem_append.mp hx with hx | hx
      · obtain ⟨e, he, rfl⟩ := List.mem_map.mp hx
        have h1 := (List.mem_filter.mp he).2
        simp at h1
        omega
      · obtain ⟨e, he, rfl⟩ := List.mem_map.mp hx
        have h1 := (List.mem_filter.mp he).2
        simp at h1
        simp only [Function.comp]
        omega
  · intro e he
    simp only [tcopy, List.mem_append, List.mem_map] at he
    rcases he with (he | ⟨g, hg, rfl⟩) | he
    · exact h.2 e (List.mem_filter.mp he).1
    · exact hs.2 g (List.mem_filter.mp hg).1
    · exact h.2 e (List.mem_filter.mp he).1

end Sys2Proof.Laws
end

