-- ==== Sys2Proof/Laws/Reg.lean ====
section
/-! SUPPORT. Laws of bit fields and of the register file: a field written is read back, every other field and register is
left alone. -/

namespace Sys2Proof.Laws

open Sys2Proof.Machine

/-! ### Fields of a number -/

theorem testBit_bits (v l w i : Nat) : (bits v l w).testBit i = (decide (i < w) && v.testBit (l + i)) := by
  simp [bits, Nat.testBit_mod_two_pow, Nat.testBit_div_two_pow, Nat.add_comm]

theorem putBits_eq (v l w x : Nat) :
    putBits v l w x = 2 ^ l * (2 ^ w * (v / 2 ^ l / 2 ^ w) + x % 2 ^ w) + v % 2 ^ l := by
  have h1 : 2 ^ l * (v / 2 ^ l) + v % 2 ^ l = v := Nat.div_add_mod v (2 ^ l)
  have h2 : 2 ^ w * (v / 2 ^ l / 2 ^ w) + v / 2 ^ l % 2 ^ w = v / 2 ^ l := Nat.div_add_mod _ _
  have h3 : v / 2 ^ l % 2 ^ w * 2 ^ l = 2 ^ l * (v / 2 ^ l) - 2 ^ l * (2 ^ w * (v / 2 ^ l / 2 ^ w)) := by
    rw [← Nat.mul_sub, Nat.mul_comm]; congr 1; omega
  have h4 : 2 ^ l * (2 ^ w * (v / 2 ^ l / 2 ^ w)) ≤ 2 ^ l * (v / 2 ^ l) := Nat.mul_le_mul_left _ (by omega)
  rw [putBits, h3, Nat.mul_add, Nat.mul_comm (x % 2 ^ w)]
  omega

theorem testBit_putBits (v l w x i : Nat) :
    (putBits v l w x).testBit i = if l ≤ i ∧ i < l + w then x.testBit (i - l) else v.testBit i := by
  rw [putBits_eq, Nat.testBit_two_pow_mul_add _ (Nat.mod_lt _ (Nat.two_pow_pos l)),
    Nat.testBit_two_pow_mul_add _ (Nat.mod_lt _ (Nat.two_pow_pos w))]
  by_cases h1 : i < l
  · have h : ¬ (l ≤ i ∧ i < l + w) := by omega
    simp [h1, h, Nat.testBit_mod_two_pow]
  · by_cases h2 : i - l < w
    · have h : l ≤ i ∧ i < l + w := by omega
      simp [h1, h2, h, Nat.testBit_mod_two_pow]
    · have h : ¬ (l ≤ i ∧ i < l + w) := by omega
      have e : w + (i - l - w) + l = i := by omega
      simp only [h1, h2, h, if_false, Nat.testBit_div_two_pow]
      congr 1; omega

theorem bits_putBits_same (v l w x : Nat) : bits (putBits v l w x) l w = x % 2 ^ w := by
  apply Nat.eq_of_testBit_eq
  intro i
  rw [testBit_bits, testBit_putBits, Nat.testBit_mod_two_pow]
  by_cases h : i < w <;> simp [h]

theorem bits_putBits_disjoint {v l w x l' w' : Nat} (h : l' + w' ≤ l ∨ l + w ≤ l') :
    bits (putBits v l w x) l' w' = bits v l' w' := by
  apply Nat.eq_of_testBit_eq
  intro i
  rw [testBit_bits, testBit_putBits, testBit_bits]
  by_cases hi : i < w'
  · have : ¬ (l ≤ l' + i ∧ l' + i < l + w) := by omega
    simp [hi, this]
  · simp [hi]

theorem bits_mod {v l w n : Nat} (h : l + w ≤ n) : bits (v % 2 ^ n) l w = bits v l w := by
  apply Nat.eq_of_testBit_eq
  intro i
  rw [testBit_bits, testBit_bits, Nat.testBit_mod_two_pow]
  by_cases hi : i < w
  · have : l + i < n := by omega
    simp [hi, this]
  · simp [hi]

theorem bits_lt (v l w : Nat) : bits v l w < 2 ^ w := Nat.mod_lt _ (Nat.two_pow_pos w)

theorem bit_toNat (w : Word) (i : Nat) : bit w.toNat i = w.getLsbD i := by
  rw [← BitVec.testBit_toNat]; simp [bit, Nat.testBit_eq_decide_div_mod_eq]

/-! ### Registers -/

@[simp] theorem reg_setReg_same (s : State) (a : Nat) (v : Word) : (s.setReg a v).reg a = v := by
  simp [State.reg, State.setReg, tget_tset_same]

theorem reg_setReg_ne (s : State) {a b : Nat} (v : Word) (h : b ≠ a) : (s.setReg a v).reg b = s.reg b := by
  simp [State.reg, State.setReg, tget_tset_ne _ _ _ _ h]

theorem reg_setReg (s : State) (a b : Nat) (v : Word) : (s.setReg a v).reg b = if b = a then v else s.reg b := by
  by_cases h : b = a
  · subst h; simp
  · simp [h, reg_setReg_ne s v h]

theorem fld_setReg_ne (s : State) {a b : Nat} (v : Word) (l w : Nat) (h : b ≠ a) :
    (s.setReg a v).fld b l w = s.fld b l w := by simp [State.fld, reg_setReg_ne s v h]

theorem reg_setFld_ne (s : State) {a b : Nat} (l w x : Nat) (h : b ≠ a) : (s.setFld a l w x).reg b = s.reg b := by
  simp [State.setFld, reg_setReg_ne _ _ h]

/-- A field written is read back. -/
theorem fld_setFld_same (s : State) {a l w : Nat} (x : Nat) (h : l + w ≤ 32) :
    (s.setFld a l w x).fld a l w = x % 2 ^ w := by
  simp only [State.fld, State.setFld, reg_setReg_same, BitVec.toNat_ofNat]
  rw [bits_mod h, bits_putBits_same]

/-- Fields of other registers stay. -/
theorem fld_setFld_ne (s : State) {a b : Nat} (l w x l' w' : Nat) (h : b ≠ a) :
    (s.setFld a l w x).fld b l' w' = s.fld b l' w' := by simp [State.fld, reg_setFld_ne s l w x h]

/-- Other fields of the same register stay. -/
theorem fld_setFld_disjoint (s : State) {a l w l' w' : Nat} (x : Nat) (h : l' + w' ≤ l ∨ l + w ≤ l') (h' : l' + w' ≤ 32) :
    (s.setFld a l w x).fld a l' w' = s.fld a l' w' := by
  simp only [State.fld, State.setFld, reg_setReg_same, BitVec.toNat_ofNat]
  rw [bits_mod h', bits_putBits_disjoint h]

theorem flag_raise_same (s : State) {a i : Nat} (h : i < 32) : (s.raise a i).flag a i = true := by
  simp [State.flag, State.raise, fld_setFld_same s 1 (show i + 1 ≤ 32 by omega)]

theorem flag_lower_same (s : State) {a i : Nat} (h : i < 32) : (s.lower a i).flag a i = false := by
  simp [State.flag, State.lower, fld_setFld_same s 0 (show i + 1 ≤ 32 by omega)]

theorem flag_setReg_ne (s : State) {a b : Nat} (v : Word) (i : Nat) (h : b ≠ a) : (s.setReg a v).flag b i = s.flag b i := by
  simp [State.flag, fld_setReg_ne s v i 1 h]

theorem flag_setFld_ne (s : State) {a b : Nat} (l w x i : Nat) (h : b ≠ a) : (s.setFld a l w x).flag b i = s.flag b i := by
  simp [State.flag, fld_setFld_ne s l w x i 1 h]

theorem flag_setFld_disjoint (s : State) {a l w i : Nat} (x : Nat) (h : i + 1 ≤ l ∨ l + w ≤ i) (h' : i + 1 ≤ 32) :
    (s.setFld a l w x).flag a i = s.flag a i := by simp [State.flag, fld_setFld_disjoint s x h h']

/-- A flag after another one is raised. -/
theorem flag_raise (s : State) {a b i j : Nat} (hi : i < 32) (hj : j < 32) :
    (s.raise a i).flag b j = (decide (b = a ∧ j = i) || s.flag b j) := by
  by_cases h : b = a
  · subst h
    by_cases e : j = i
    · subst e; simp [flag_raise_same s hj]
    · simp only [State.raise, e, and_false, decide_false, Bool.false_or]
      rw [flag_setFld_disjoint _ _ (by omega) (by omega)]
  · simp [State.raise, h, flag_setFld_ne]

/-- A flag after another one is lowered. -/
theorem flag_lower (s : State) {a b i j : Nat} (hi : i < 32) (hj : j < 32) :
    (s.lower a i).flag b j = (!decide (b = a ∧ j = i) && s.flag b j) := by
  by_cases h : b = a
  · subst h
    by_cases e : j = i
    · subst e; simp [flag_lower_same s hj]
    · simp only [State.lower, e, and_false, decide_false, Bool.not_false, Bool.true_and]
      rw [flag_setFld_disjoint _ _ (by omega) (by omega)]
  · simp [State.lower, h, flag_setFld_ne]

theorem fld_raise_ne (s : State) {a b : Nat} (i l w : Nat) (h : b ≠ a) : (s.raise a i).fld b l w = s.fld b l w :=
  fld_setFld_ne s i 1 1 l w h

theorem fld_lower_ne (s : State) {a b : Nat} (i l w : Nat) (h : b ≠ a) : (s.lower a i).fld b l w = s.fld b l w :=
  fld_setFld_ne s i 1 0 l w h

theorem reg_raise_ne (s : State) {a b : Nat} (i : Nat) (h : b ≠ a) : (s.raise a i).reg b = s.reg b := reg_setFld_ne s i 1 1 h

theorem reg_lower_ne (s : State) {a b : Nat} (i : Nat) (h : b ≠ a) : (s.lower a i).reg b = s.reg b := reg_setFld_ne s i 1 0 h

/-! ### The canonical form of the register file -/

theorem canon_setReg {s : State} (h : Canon regReset s.regs) (a : Nat) (v : Word) : Canon regReset (s.setReg a v).regs :=
  canon_tset h a v

theorem canon_setFld {s : State} (h : Canon regReset s.regs) (a l w x : Nat) : Canon regReset (s.setFld a l w x).regs :=
  canon_setReg h a _

theorem canon_setFlds {a : Nat} (l : List (Nat × Nat × Nat)) {s : State} (h : Canon regReset s.regs) :
    Canon regReset (s.setFlds a l).regs := by
  induction l generalizing s with
  | nil => exact h
  | cons e l ih => exact ih (canon_setFld h a e.1 e.2.1 e.2.2)

theorem canon_clear {s : State} (h : Canon regReset s.regs) (f : Nat → Bool) :
    Canon regReset (s.regs.filter fun e => f e.1) := canon_filter h _

end Sys2Proof.Laws
end

