-- ==== Sys2Proof/Laws/State.lean ====
section
/-! SUPPORT. One law per field of the state and named update: what an update leaves alone. -/

namespace Sys2Proof.Laws

open Sys2Proof.Machine

/-- The state on which an access that the block serves acts: STATUS OK, and the clock domain that the access reaches is
ungated (R10). -/
def served (g : BitVec 25) (s : State) : State := { s with lastStatus := stOk, ctl := { s.ctl with gated := g } }

/-- The state with the clock domains of `g` gated, which is all that the end of an access adds (R10). -/
def gatedAs (g : BitVec 25) (s : State) : State := { s with ctl := { s.ctl with gated := g } }


/-! ### A register written -/

@[simp] theorem setReg_ctl (s : State) (a : Nat) (v : Word) : (s.setReg a v).ctl = s.ctl := (rfl)
@[simp] theorem setReg_door (s : State) (a : Nat) (v : Word) : (s.setReg a v).door = s.door := (rfl)
@[simp] theorem setReg_otp (s : State) (a : Nat) (v : Word) : (s.setReg a v).otp = s.otp := (rfl)
@[simp] theorem setReg_upd (s : State) (a : Nat) (v : Word) : (s.setReg a v).upd = s.upd := (rfl)
@[simp] theorem setReg_cfg (s : State) (a : Nat) (v : Word) : (s.setReg a v).cfg = s.cfg := (rfl)
@[simp] theorem setReg_mem (s : State) (a : Nat) (v : Word) : (s.setReg a v).mem = s.mem := (rfl)
@[simp] theorem setReg_nv (s : State) (a : Nat) (v : Word) : (s.setReg a v).nv = s.nv := (rfl)
@[simp] theorem setReg_sto (s : State) (a : Nat) (v : Word) : (s.setReg a v).sto = s.sto := (rfl)
@[simp] theorem setReg_pwr (s : State) (a : Nat) (v : Word) : (s.setReg a v).pwr = s.pwr := (rfl)
@[simp] theorem setReg_seq (s : State) (a : Nat) (v : Word) : (s.setReg a v).seq = s.seq := (rfl)
@[simp] theorem setReg_log (s : State) (a : Nat) (v : Word) : (s.setReg a v).log = s.log := (rfl)
@[simp] theorem setReg_ctxs (s : State) (a : Nat) (v : Word) : (s.setReg a v).ctxs = s.ctxs := (rfl)
@[simp] theorem setReg_rtc (s : State) (a : Nat) (v : Word) : (s.setReg a v).rtc = s.rtc := (rfl)
@[simp] theorem setReg_evt (s : State) (a : Nat) (v : Word) : (s.setReg a v).evt = s.evt := (rfl)
@[simp] theorem setReg_sbp (s : State) (a : Nat) (v : Word) : (s.setReg a v).sbp = s.sbp := (rfl)
@[simp] theorem setReg_phy (s : State) (a : Nat) (v : Word) : (s.setReg a v).phy = s.phy := (rfl)
@[simp] theorem setReg_lnk (s : State) (a : Nat) (v : Word) : (s.setReg a v).lnk = s.lnk := (rfl)
@[simp] theorem setReg_txn (s : State) (a : Nat) (v : Word) : (s.setReg a v).txn = s.txn := (rfl)
@[simp] theorem setReg_chan (s : State) (a : Nat) (v : Word) : (s.setReg a v).chan = s.chan := (rfl)
@[simp] theorem setReg_out (s : State) (a : Nat) (v : Word) : (s.setReg a v).out = s.out := (rfl)
@[simp] theorem setReg_tt (s : State) (a : Nat) (v : Word) : (s.setReg a v).tt = s.tt := (rfl)
@[simp] theorem setReg_proof (s : State) (a : Nat) (v : Word) : (s.setReg a v).proof = s.proof := (rfl)
@[simp] theorem setReg_can (s : State) (a : Nat) (v : Word) : (s.setReg a v).can = s.can := (rfl)
@[simp] theorem setReg_srcs (s : State) (a : Nat) (v : Word) : (s.setReg a v).srcs = s.srcs := (rfl)
@[simp] theorem setReg_adc (s : State) (a : Nat) (v : Word) : (s.setReg a v).adc = s.adc := (rfl)
@[simp] theorem setReg_bkl (s : State) (a : Nat) (v : Word) : (s.setReg a v).bkl = s.bkl := (rfl)
@[simp] theorem setReg_flk (s : State) (a : Nat) (v : Word) : (s.setReg a v).flk = s.flk := (rfl)
@[simp] theorem setReg_flt (s : State) (a : Nat) (v : Word) : (s.setReg a v).flt = s.flt := (rfl)
@[simp] theorem setReg_lastStatus (s : State) (a : Nat) (v : Word) : (s.setReg a v).lastStatus = s.lastStatus := (rfl)
@[simp] theorem setReg_freeCount (s : State) (a : Nat) (v : Word) : (s.setReg a v).freeCount = s.freeCount := (rfl)
@[simp] theorem setReg_pending (s : State) (a : Nat) (v : Word) : (s.setReg a v).pending = s.pending := (rfl)

/-! ### A field written -/

@[simp] theorem setFld_ctl (s : State) (a l w x : Nat) : (s.setFld a l w x).ctl = s.ctl := (rfl)
@[simp] theorem setFld_door (s : State) (a l w x : Nat) : (s.setFld a l w x).door = s.door := (rfl)
@[simp] theorem setFld_otp (s : State) (a l w x : Nat) : (s.setFld a l w x).otp = s.otp := (rfl)
@[simp] theorem setFld_upd (s : State) (a l w x : Nat) : (s.setFld a l w x).upd = s.upd := (rfl)
@[simp] theorem setFld_cfg (s : State) (a l w x : Nat) : (s.setFld a l w x).cfg = s.cfg := (rfl)
@[simp] theorem setFld_mem (s : State) (a l w x : Nat) : (s.setFld a l w x).mem = s.mem := (rfl)
@[simp] theorem setFld_nv (s : State) (a l w x : Nat) : (s.setFld a l w x).nv = s.nv := (rfl)
@[simp] theorem setFld_sto (s : State) (a l w x : Nat) : (s.setFld a l w x).sto = s.sto := (rfl)
@[simp] theorem setFld_pwr (s : State) (a l w x : Nat) : (s.setFld a l w x).pwr = s.pwr := (rfl)
@[simp] theorem setFld_seq (s : State) (a l w x : Nat) : (s.setFld a l w x).seq = s.seq := (rfl)
@[simp] theorem setFld_log (s : State) (a l w x : Nat) : (s.setFld a l w x).log = s.log := (rfl)
@[simp] theorem setFld_ctxs (s : State) (a l w x : Nat) : (s.setFld a l w x).ctxs = s.ctxs := (rfl)
@[simp] theorem setFld_rtc (s : State) (a l w x : Nat) : (s.setFld a l w x).rtc = s.rtc := (rfl)
@[simp] theorem setFld_evt (s : State) (a l w x : Nat) : (s.setFld a l w x).evt = s.evt := (rfl)
@[simp] theorem setFld_sbp (s : State) (a l w x : Nat) : (s.setFld a l w x).sbp = s.sbp := (rfl)
@[simp] theorem setFld_phy (s : State) (a l w x : Nat) : (s.setFld a l w x).phy = s.phy := (rfl)
@[simp] theorem setFld_lnk (s : State) (a l w x : Nat) : (s.setFld a l w x).lnk = s.lnk := (rfl)
@[simp] theorem setFld_txn (s : State) (a l w x : Nat) : (s.setFld a l w x).txn = s.txn := (rfl)
@[simp] theorem setFld_chan (s : State) (a l w x : Nat) : (s.setFld a l w x).chan = s.chan := (rfl)
@[simp] theorem setFld_out (s : State) (a l w x : Nat) : (s.setFld a l w x).out = s.out := (rfl)
@[simp] theorem setFld_tt (s : State) (a l w x : Nat) : (s.setFld a l w x).tt = s.tt := (rfl)
@[simp] theorem setFld_proof (s : State) (a l w x : Nat) : (s.setFld a l w x).proof = s.proof := (rfl)
@[simp] theorem setFld_can (s : State) (a l w x : Nat) : (s.setFld a l w x).can = s.can := (rfl)
@[simp] theorem setFld_srcs (s : State) (a l w x : Nat) : (s.setFld a l w x).srcs = s.srcs := (rfl)
@[simp] theorem setFld_adc (s : State) (a l w x : Nat) : (s.setFld a l w x).adc = s.adc := (rfl)
@[simp] theorem setFld_bkl (s : State) (a l w x : Nat) : (s.setFld a l w x).bkl = s.bkl := (rfl)
@[simp] theorem setFld_flk (s : State) (a l w x : Nat) : (s.setFld a l w x).flk = s.flk := (rfl)
@[simp] theorem setFld_flt (s : State) (a l w x : Nat) : (s.setFld a l w x).flt = s.flt := (rfl)
@[simp] theorem setFld_lastStatus (s : State) (a l w x : Nat) : (s.setFld a l w x).lastStatus = s.lastStatus := (rfl)
@[simp] theorem setFld_freeCount (s : State) (a l w x : Nat) : (s.setFld a l w x).freeCount = s.freeCount := (rfl)
@[simp] theorem setFld_pending (s : State) (a l w x : Nat) : (s.setFld a l w x).pending = s.pending := (rfl)

/-! ### A flag raised -/

@[simp] theorem raise_ctl (s : State) (a i : Nat) : (s.raise a i).ctl = s.ctl := (rfl)
@[simp] theorem raise_door (s : State) (a i : Nat) : (s.raise a i).door = s.door := (rfl)
@[simp] theorem raise_otp (s : State) (a i : Nat) : (s.raise a i).otp = s.otp := (rfl)
@[simp] theorem raise_upd (s : State) (a i : Nat) : (s.raise a i).upd = s.upd := (rfl)
@[simp] theorem raise_cfg (s : State) (a i : Nat) : (s.raise a i).cfg = s.cfg := (rfl)
@[simp] theorem raise_mem (s : State) (a i : Nat) : (s.raise a i).mem = s.mem := (rfl)
@[simp] theorem raise_nv (s : State) (a i : Nat) : (s.raise a i).nv = s.nv := (rfl)
@[simp] theorem raise_sto (s : State) (a i : Nat) : (s.raise a i).sto = s.sto := (rfl)
@[simp] theorem raise_pwr (s : State) (a i : Nat) : (s.raise a i).pwr = s.pwr := (rfl)
@[simp] theorem raise_seq (s : State) (a i : Nat) : (s.raise a i).seq = s.seq := (rfl)
@[simp] theorem raise_log (s : State) (a i : Nat) : (s.raise a i).log = s.log := (rfl)
@[simp] theorem raise_ctxs (s : State) (a i : Nat) : (s.raise a i).ctxs = s.ctxs := (rfl)
@[simp] theorem raise_rtc (s : State) (a i : Nat) : (s.raise a i).rtc = s.rtc := (rfl)
@[simp] theorem raise_evt (s : State) (a i : Nat) : (s.raise a i).evt = s.evt := (rfl)
@[simp] theorem raise_sbp (s : State) (a i : Nat) : (s.raise a i).sbp = s.sbp := (rfl)
@[simp] theorem raise_phy (s : State) (a i : Nat) : (s.raise a i).phy = s.phy := (rfl)
@[simp] theorem raise_lnk (s : State) (a i : Nat) : (s.raise a i).lnk = s.lnk := (rfl)
@[simp] theorem raise_txn (s : State) (a i : Nat) : (s.raise a i).txn = s.txn := (rfl)
@[simp] theorem raise_chan (s : State) (a i : Nat) : (s.raise a i).chan = s.chan := (rfl)
@[simp] theorem raise_out (s : State) (a i : Nat) : (s.raise a i).out = s.out := (rfl)
@[simp] theorem raise_tt (s : State) (a i : Nat) : (s.raise a i).tt = s.tt := (rfl)
@[simp] theorem raise_proof (s : State) (a i : Nat) : (s.raise a i).proof = s.proof := (rfl)
@[simp] theorem raise_can (s : State) (a i : Nat) : (s.raise a i).can = s.can := (rfl)
@[simp] theorem raise_srcs (s : State) (a i : Nat) : (s.raise a i).srcs = s.srcs := (rfl)
@[simp] theorem raise_adc (s : State) (a i : Nat) : (s.raise a i).adc = s.adc := (rfl)
@[simp] theorem raise_bkl (s : State) (a i : Nat) : (s.raise a i).bkl = s.bkl := (rfl)
@[simp] theorem raise_flk (s : State) (a i : Nat) : (s.raise a i).flk = s.flk := (rfl)
@[simp] theorem raise_flt (s : State) (a i : Nat) : (s.raise a i).flt = s.flt := (rfl)
@[simp] theorem raise_lastStatus (s : State) (a i : Nat) : (s.raise a i).lastStatus = s.lastStatus := (rfl)
@[simp] theorem raise_freeCount (s : State) (a i : Nat) : (s.raise a i).freeCount = s.freeCount := (rfl)
@[simp] theorem raise_pending (s : State) (a i : Nat) : (s.raise a i).pending = s.pending := (rfl)

/-! ### A flag lowered -/

@[simp] theorem lower_ctl (s : State) (a i : Nat) : (s.lower a i).ctl = s.ctl := (rfl)
@[simp] theorem lower_door (s : State) (a i : Nat) : (s.lower a i).door = s.door := (rfl)
@[simp] theorem lower_otp (s : State) (a i : Nat) : (s.lower a i).otp = s.otp := (rfl)
@[simp] theorem lower_upd (s : State) (a i : Nat) : (s.lower a i).upd = s.upd := (rfl)
@[simp] theorem lower_cfg (s : State) (a i : Nat) : (s.lower a i).cfg = s.cfg := (rfl)
@[simp] theorem lower_mem (s : State) (a i : Nat) : (s.lower a i).mem = s.mem := (rfl)
@[simp] theorem lower_nv (s : State) (a i : Nat) : (s.lower a i).nv = s.nv := (rfl)
@[simp] theorem lower_sto (s : State) (a i : Nat) : (s.lower a i).sto = s.sto := (rfl)
@[simp] theorem lower_pwr (s : State) (a i : Nat) : (s.lower a i).pwr = s.pwr := (rfl)
@[simp] theorem lower_seq (s : State) (a i : Nat) : (s.lower a i).seq = s.seq := (rfl)
@[simp] theorem lower_log (s : State) (a i : Nat) : (s.lower a i).log = s.log := (rfl)
@[simp] theorem lower_ctxs (s : State) (a i : Nat) : (s.lower a i).ctxs = s.ctxs := (rfl)
@[simp] theorem lower_rtc (s : State) (a i : Nat) : (s.lower a i).rtc = s.rtc := (rfl)
@[simp] theorem lower_evt (s : State) (a i : Nat) : (s.lower a i).evt = s.evt := (rfl)
@[simp] theorem lower_sbp (s : State) (a i : Nat) : (s.lower a i).sbp = s.sbp := (rfl)
@[simp] theorem lower_phy (s : State) (a i : Nat) : (s.lower a i).phy = s.phy := (rfl)
@[simp] theorem lower_lnk (s : State) (a i : Nat) : (s.lower a i).lnk = s.lnk := (rfl)
@[simp] theorem lower_txn (s : State) (a i : Nat) : (s.lower a i).txn = s.txn := (rfl)
@[simp] theorem lower_chan (s : State) (a i : Nat) : (s.lower a i).chan = s.chan := (rfl)
@[simp] theorem lower_out (s : State) (a i : Nat) : (s.lower a i).out = s.out := (rfl)
@[simp] theorem lower_tt (s : State) (a i : Nat) : (s.lower a i).tt = s.tt := (rfl)
@[simp] theorem lower_proof (s : State) (a i : Nat) : (s.lower a i).proof = s.proof := (rfl)
@[simp] theorem lower_can (s : State) (a i : Nat) : (s.lower a i).can = s.can := (rfl)
@[simp] theorem lower_srcs (s : State) (a i : Nat) : (s.lower a i).srcs = s.srcs := (rfl)
@[simp] theorem lower_adc (s : State) (a i : Nat) : (s.lower a i).adc = s.adc := (rfl)
@[simp] theorem lower_bkl (s : State) (a i : Nat) : (s.lower a i).bkl = s.bkl := (rfl)
@[simp] theorem lower_flk (s : State) (a i : Nat) : (s.lower a i).flk = s.flk := (rfl)
@[simp] theorem lower_flt (s : State) (a i : Nat) : (s.lower a i).flt = s.flt := (rfl)
@[simp] theorem lower_lastStatus (s : State) (a i : Nat) : (s.lower a i).lastStatus = s.lastStatus := (rfl)
@[simp] theorem lower_freeCount (s : State) (a i : Nat) : (s.lower a i).freeCount = s.freeCount := (rfl)
@[simp] theorem lower_pending (s : State) (a i : Nat) : (s.lower a i).pending = s.pending := (rfl)

/-! ### A flag stored -/

@[simp] theorem putFlag_ctl (s : State) (a i : Nat) (b : Bool) : (s.putFlag a i b).ctl = s.ctl := (rfl)
@[simp] theorem putFlag_door (s : State) (a i : Nat) (b : Bool) : (s.putFlag a i b).door = s.door := (rfl)
@[simp] theorem putFlag_otp (s : State) (a i : Nat) (b : Bool) : (s.putFlag a i b).otp = s.otp := (rfl)
@[simp] theorem putFlag_upd (s : State) (a i : Nat) (b : Bool) : (s.putFlag a i b).upd = s.upd := (rfl)
@[simp] theorem putFlag_cfg (s : State) (a i : Nat) (b : Bool) : (s.putFlag a i b).cfg = s.cfg := (rfl)
@[simp] theorem putFlag_mem (s : State) (a i : Nat) (b : Bool) : (s.putFlag a i b).mem = s.mem := (rfl)
@[simp] theorem putFlag_nv (s : State) (a i : Nat) (b : Bool) : (s.putFlag a i b).nv = s.nv := (rfl)
@[simp] theorem putFlag_sto (s : State) (a i : Nat) (b : Bool) : (s.putFlag a i b).sto = s.sto := (rfl)
@[simp] theorem putFlag_pwr (s : State) (a i : Nat) (b : Bool) : (s.putFlag a i b).pwr = s.pwr := (rfl)
@[simp] theorem putFlag_seq (s : State) (a i : Nat) (b : Bool) : (s.putFlag a i b).seq = s.seq := (rfl)
@[simp] theorem putFlag_log (s : State) (a i : Nat) (b : Bool) : (s.putFlag a i b).log = s.log := (rfl)
@[simp] theorem putFlag_ctxs (s : State) (a i : Nat) (b : Bool) : (s.putFlag a i b).ctxs = s.ctxs := (rfl)
@[simp] theorem putFlag_rtc (s : State) (a i : Nat) (b : Bool) : (s.putFlag a i b).rtc = s.rtc := (rfl)
@[simp] theorem putFlag_evt (s : State) (a i : Nat) (b : Bool) : (s.putFlag a i b).evt = s.evt := (rfl)
@[simp] theorem putFlag_sbp (s : State) (a i : Nat) (b : Bool) : (s.putFlag a i b).sbp = s.sbp := (rfl)
@[simp] theorem putFlag_phy (s : State) (a i : Nat) (b : Bool) : (s.putFlag a i b).phy = s.phy := (rfl)
@[simp] theorem putFlag_lnk (s : State) (a i : Nat) (b : Bool) : (s.putFlag a i b).lnk = s.lnk := (rfl)
@[simp] theorem putFlag_txn (s : State) (a i : Nat) (b : Bool) : (s.putFlag a i b).txn = s.txn := (rfl)
@[simp] theorem putFlag_chan (s : State) (a i : Nat) (b : Bool) : (s.putFlag a i b).chan = s.chan := (rfl)
@[simp] theorem putFlag_out (s : State) (a i : Nat) (b : Bool) : (s.putFlag a i b).out = s.out := (rfl)
@[simp] theorem putFlag_tt (s : State) (a i : Nat) (b : Bool) : (s.putFlag a i b).tt = s.tt := (rfl)
@[simp] theorem putFlag_proof (s : State) (a i : Nat) (b : Bool) : (s.putFlag a i b).proof = s.proof := (rfl)
@[simp] theorem putFlag_can (s : State) (a i : Nat) (b : Bool) : (s.putFlag a i b).can = s.can := (rfl)
@[simp] theorem putFlag_srcs (s : State) (a i : Nat) (b : Bool) : (s.putFlag a i b).srcs = s.srcs := (rfl)
@[simp] theorem putFlag_adc (s : State) (a i : Nat) (b : Bool) : (s.putFlag a i b).adc = s.adc := (rfl)
@[simp] theorem putFlag_bkl (s : State) (a i : Nat) (b : Bool) : (s.putFlag a i b).bkl = s.bkl := (rfl)
@[simp] theorem putFlag_flk (s : State) (a i : Nat) (b : Bool) : (s.putFlag a i b).flk = s.flk := (rfl)
@[simp] theorem putFlag_flt (s : State) (a i : Nat) (b : Bool) : (s.putFlag a i b).flt = s.flt := (rfl)
@[simp] theorem putFlag_lastStatus (s : State) (a i : Nat) (b : Bool) : (s.putFlag a i b).lastStatus = s.lastStatus := (rfl)
@[simp] theorem putFlag_freeCount (s : State) (a i : Nat) (b : Bool) : (s.putFlag a i b).freeCount = s.freeCount := (rfl)
@[simp] theorem putFlag_pending (s : State) (a i : Nat) (b : Bool) : (s.putFlag a i b).pending = s.pending := (rfl)

/-! ### A counter advanced -/

@[simp] theorem bump_ctl (s : State) (a l w n : Nat) : (s.bump a l w n).ctl = s.ctl := (rfl)
@[simp] theorem bump_door (s : State) (a l w n : Nat) : (s.bump a l w n).door = s.door := (rfl)
@[simp] theorem bump_otp (s : State) (a l w n : Nat) : (s.bump a l w n).otp = s.otp := (rfl)
@[simp] theorem bump_upd (s : State) (a l w n : Nat) : (s.bump a l w n).upd = s.upd := (rfl)
@[simp] theorem bump_cfg (s : State) (a l w n : Nat) : (s.bump a l w n).cfg = s.cfg := (rfl)
@[simp] theorem bump_mem (s : State) (a l w n : Nat) : (s.bump a l w n).mem = s.mem := (rfl)
@[simp] theorem bump_nv (s : State) (a l w n : Nat) : (s.bump a l w n).nv = s.nv := (rfl)
@[simp] theorem bump_sto (s : State) (a l w n : Nat) : (s.bump a l w n).sto = s.sto := (rfl)
@[simp] theorem bump_pwr (s : State) (a l w n : Nat) : (s.bump a l w n).pwr = s.pwr := (rfl)
@[simp] theorem bump_seq (s : State) (a l w n : Nat) : (s.bump a l w n).seq = s.seq := (rfl)
@[simp] theorem bump_log (s : State) (a l w n : Nat) : (s.bump a l w n).log = s.log := (rfl)
@[simp] theorem bump_ctxs (s : State) (a l w n : Nat) : (s.bump a l w n).ctxs = s.ctxs := (rfl)
@[simp] theorem bump_rtc (s : State) (a l w n : Nat) : (s.bump a l w n).rtc = s.rtc := (rfl)
@[simp] theorem bump_evt (s : State) (a l w n : Nat) : (s.bump a l w n).evt = s.evt := (rfl)
@[simp] theorem bump_sbp (s : State) (a l w n : Nat) : (s.bump a l w n).sbp = s.sbp := (rfl)
@[simp] theorem bump_phy (s : State) (a l w n : Nat) : (s.bump a l w n).phy = s.phy := (rfl)
@[simp] theorem bump_lnk (s : State) (a l w n : Nat) : (s.bump a l w n).lnk = s.lnk := (rfl)
@[simp] theorem bump_txn (s : State) (a l w n : Nat) : (s.bump a l w n).txn = s.txn := (rfl)
@[simp] theorem bump_chan (s : State) (a l w n : Nat) : (s.bump a l w n).chan = s.chan := (rfl)
@[simp] theorem bump_out (s : State) (a l w n : Nat) : (s.bump a l w n).out = s.out := (rfl)
@[simp] theorem bump_tt (s : State) (a l w n : Nat) : (s.bump a l w n).tt = s.tt := (rfl)
@[simp] theorem bump_proof (s : State) (a l w n : Nat) : (s.bump a l w n).proof = s.proof := (rfl)
@[simp] theorem bump_can (s : State) (a l w n : Nat) : (s.bump a l w n).can = s.can := (rfl)
@[simp] theorem bump_srcs (s : State) (a l w n : Nat) : (s.bump a l w n).srcs = s.srcs := (rfl)
@[simp] theorem bump_adc (s : State) (a l w n : Nat) : (s.bump a l w n).adc = s.adc := (rfl)
@[simp] theorem bump_bkl (s : State) (a l w n : Nat) : (s.bump a l w n).bkl = s.bkl := (rfl)
@[simp] theorem bump_flk (s : State) (a l w n : Nat) : (s.bump a l w n).flk = s.flk := (rfl)
@[simp] theorem bump_flt (s : State) (a l w n : Nat) : (s.bump a l w n).flt = s.flt := (rfl)
@[simp] theorem bump_lastStatus (s : State) (a l w n : Nat) : (s.bump a l w n).lastStatus = s.lastStatus := (rfl)
@[simp] theorem bump_freeCount (s : State) (a l w n : Nat) : (s.bump a l w n).freeCount = s.freeCount := (rfl)
@[simp] theorem bump_pending (s : State) (a l w n : Nat) : (s.bump a l w n).pending = s.pending := (rfl)

/-! ### A register stored by its access codes -/

@[simp] theorem write_ctl (s : State) (a : Nat) (w : Word) : (s.write a w).ctl = s.ctl := (rfl)
@[simp] theorem write_door (s : State) (a : Nat) (w : Word) : (s.write a w).door = s.door := (rfl)
@[simp] theorem write_otp (s : State) (a : Nat) (w : Word) : (s.write a w).otp = s.otp := (rfl)
@[simp] theorem write_upd (s : State) (a : Nat) (w : Word) : (s.write a w).upd = s.upd := (rfl)
@[simp] theorem write_cfg (s : State) (a : Nat) (w : Word) : (s.write a w).cfg = s.cfg := (rfl)
@[simp] theorem write_mem (s : State) (a : Nat) (w : Word) : (s.write a w).mem = s.mem := (rfl)
@[simp] theorem write_nv (s : State) (a : Nat) (w : Word) : (s.write a w).nv = s.nv := (rfl)
@[simp] theorem write_sto (s : State) (a : Nat) (w : Word) : (s.write a w).sto = s.sto := (rfl)
@[simp] theorem write_pwr (s : State) (a : Nat) (w : Word) : (s.write a w).pwr = s.pwr := (rfl)
@[simp] theorem write_seq (s : State) (a : Nat) (w : Word) : (s.write a w).seq = s.seq := (rfl)
@[simp] theorem write_log (s : State) (a : Nat) (w : Word) : (s.write a w).log = s.log := (rfl)
@[simp] theorem write_ctxs (s : State) (a : Nat) (w : Word) : (s.write a w).ctxs = s.ctxs := (rfl)
@[simp] theorem write_rtc (s : State) (a : Nat) (w : Word) : (s.write a w).rtc = s.rtc := (rfl)
@[simp] theorem write_evt (s : State) (a : Nat) (w : Word) : (s.write a w).evt = s.evt := (rfl)
@[simp] theorem write_sbp (s : State) (a : Nat) (w : Word) : (s.write a w).sbp = s.sbp := (rfl)
@[simp] theorem write_phy (s : State) (a : Nat) (w : Word) : (s.write a w).phy = s.phy := (rfl)
@[simp] theorem write_lnk (s : State) (a : Nat) (w : Word) : (s.write a w).lnk = s.lnk := (rfl)
@[simp] theorem write_txn (s : State) (a : Nat) (w : Word) : (s.write a w).txn = s.txn := (rfl)
@[simp] theorem write_chan (s : State) (a : Nat) (w : Word) : (s.write a w).chan = s.chan := (rfl)
@[simp] theorem write_out (s : State) (a : Nat) (w : Word) : (s.write a w).out = s.out := (rfl)
@[simp] theorem write_tt (s : State) (a : Nat) (w : Word) : (s.write a w).tt = s.tt := (rfl)
@[simp] theorem write_proof (s : State) (a : Nat) (w : Word) : (s.write a w).proof = s.proof := (rfl)
@[simp] theorem write_can (s : State) (a : Nat) (w : Word) : (s.write a w).can = s.can := (rfl)
@[simp] theorem write_srcs (s : State) (a : Nat) (w : Word) : (s.write a w).srcs = s.srcs := (rfl)
@[simp] theorem write_adc (s : State) (a : Nat) (w : Word) : (s.write a w).adc = s.adc := (rfl)
@[simp] theorem write_bkl (s : State) (a : Nat) (w : Word) : (s.write a w).bkl = s.bkl := (rfl)
@[simp] theorem write_flk (s : State) (a : Nat) (w : Word) : (s.write a w).flk = s.flk := (rfl)
@[simp] theorem write_flt (s : State) (a : Nat) (w : Word) : (s.write a w).flt = s.flt := (rfl)
@[simp] theorem write_lastStatus (s : State) (a : Nat) (w : Word) : (s.write a w).lastStatus = s.lastStatus := (rfl)
@[simp] theorem write_freeCount (s : State) (a : Nat) (w : Word) : (s.write a w).freeCount = s.freeCount := (rfl)
@[simp] theorem write_pending (s : State) (a : Nat) (w : Word) : (s.write a w).pending = s.pending := (rfl)

/-! ### One entry of `phy` changed -/

@[simp] theorem modPhy_regs (s : State) (k : Nat) (f : PhySt → PhySt) : (modPhy k f s).regs = s.regs := (rfl)
@[simp] theorem modPhy_ctl (s : State) (k : Nat) (f : PhySt → PhySt) : (modPhy k f s).ctl = s.ctl := (rfl)
@[simp] theorem modPhy_door (s : State) (k : Nat) (f : PhySt → PhySt) : (modPhy k f s).door = s.door := (rfl)
@[simp] theorem modPhy_otp (s : State) (k : Nat) (f : PhySt → PhySt) : (modPhy k f s).otp = s.otp := (rfl)
@[simp] theorem modPhy_upd (s : State) (k : Nat) (f : PhySt → PhySt) : (modPhy k f s).upd = s.upd := (rfl)
@[simp] theorem modPhy_cfg (s : State) (k : Nat) (f : PhySt → PhySt) : (modPhy k f s).cfg = s.cfg := (rfl)
@[simp] theorem modPhy_mem (s : State) (k : Nat) (f : PhySt → PhySt) : (modPhy k f s).mem = s.mem := (rfl)
@[simp] theorem modPhy_nv (s : State) (k : Nat) (f : PhySt → PhySt) : (modPhy k f s).nv = s.nv := (rfl)
@[simp] theorem modPhy_sto (s : State) (k : Nat) (f : PhySt → PhySt) : (modPhy k f s).sto = s.sto := (rfl)
@[simp] theorem modPhy_pwr (s : State) (k : Nat) (f : PhySt → PhySt) : (modPhy k f s).pwr = s.pwr := (rfl)
@[simp] theorem modPhy_seq (s : State) (k : Nat) (f : PhySt → PhySt) : (modPhy k f s).seq = s.seq := (rfl)
@[simp] theorem modPhy_log (s : State) (k : Nat) (f : PhySt → PhySt) : (modPhy k f s).log = s.log := (rfl)
@[simp] theorem modPhy_ctxs (s : State) (k : Nat) (f : PhySt → PhySt) : (modPhy k f s).ctxs = s.ctxs := (rfl)
@[simp] theorem modPhy_rtc (s : State) (k : Nat) (f : PhySt → PhySt) : (modPhy k f s).rtc = s.rtc := (rfl)
@[simp] theorem modPhy_evt (s : State) (k : Nat) (f : PhySt → PhySt) : (modPhy k f s).evt = s.evt := (rfl)
@[simp] theorem modPhy_sbp (s : State) (k : Nat) (f : PhySt → PhySt) : (modPhy k f s).sbp = s.sbp := (rfl)
@[simp] theorem modPhy_lnk (s : State) (k : Nat) (f : PhySt → PhySt) : (modPhy k f s).lnk = s.lnk := (rfl)
@[simp] theorem modPhy_txn (s : State) (k : Nat) (f : PhySt → PhySt) : (modPhy k f s).txn = s.txn := (rfl)
@[simp] theorem modPhy_chan (s : State) (k : Nat) (f : PhySt → PhySt) : (modPhy k f s).chan = s.chan := (rfl)
@[simp] theorem modPhy_out (s : State) (k : Nat) (f : PhySt → PhySt) : (modPhy k f s).out = s.out := (rfl)
@[simp] theorem modPhy_tt (s : State) (k : Nat) (f : PhySt → PhySt) : (modPhy k f s).tt = s.tt := (rfl)
@[simp] theorem modPhy_proof (s : State) (k : Nat) (f : PhySt → PhySt) : (modPhy k f s).proof = s.proof := (rfl)
@[simp] theorem modPhy_can (s : State) (k : Nat) (f : PhySt → PhySt) : (modPhy k f s).can = s.can := (rfl)
@[simp] theorem modPhy_srcs (s : State) (k : Nat) (f : PhySt → PhySt) : (modPhy k f s).srcs = s.srcs := (rfl)
@[simp] theorem modPhy_adc (s : State) (k : Nat) (f : PhySt → PhySt) : (modPhy k f s).adc = s.adc := (rfl)
@[simp] theorem modPhy_bkl (s : State) (k : Nat) (f : PhySt → PhySt) : (modPhy k f s).bkl = s.bkl := (rfl)
@[simp] theorem modPhy_flk (s : State) (k : Nat) (f : PhySt → PhySt) : (modPhy k f s).flk = s.flk := (rfl)
@[simp] theorem modPhy_flt (s : State) (k : Nat) (f : PhySt → PhySt) : (modPhy k f s).flt = s.flt := (rfl)
@[simp] theorem modPhy_lastStatus (s : State) (k : Nat) (f : PhySt → PhySt) : (modPhy k f s).lastStatus = s.lastStatus := (rfl)
@[simp] theorem modPhy_freeCount (s : State) (k : Nat) (f : PhySt → PhySt) : (modPhy k f s).freeCount = s.freeCount := (rfl)
@[simp] theorem modPhy_pending (s : State) (k : Nat) (f : PhySt → PhySt) : (modPhy k f s).pending = s.pending := (rfl)

/-! ### One entry of `lnk` changed -/

@[simp] theorem modLnk_regs (s : State) (k : Nat) (f : LnkSt → LnkSt) : (modLnk k f s).regs = s.regs := (rfl)
@[simp] theorem modLnk_ctl (s : State) (k : Nat) (f : LnkSt → LnkSt) : (modLnk k f s).ctl = s.ctl := (rfl)
@[simp] theorem modLnk_door (s : State) (k : Nat) (f : LnkSt → LnkSt) : (modLnk k f s).door = s.door := (rfl)
@[simp] theorem modLnk_otp (s : State) (k : Nat) (f : LnkSt → LnkSt) : (modLnk k f s).otp = s.otp := (rfl)
@[simp] theorem modLnk_upd (s : State) (k : Nat) (f : LnkSt → LnkSt) : (modLnk k f s).upd = s.upd := (rfl)
@[simp] theorem modLnk_cfg (s : State) (k : Nat) (f : LnkSt → LnkSt) : (modLnk k f s).cfg = s.cfg := (rfl)
@[simp] theorem modLnk_mem (s : State) (k : Nat) (f : LnkSt → LnkSt) : (modLnk k f s).mem = s.mem := (rfl)
@[simp] theorem modLnk_nv (s : State) (k : Nat) (f : LnkSt → LnkSt) : (modLnk k f s).nv = s.nv := (rfl)
@[simp] theorem modLnk_sto (s : State) (k : Nat) (f : LnkSt → LnkSt) : (modLnk k f s).sto = s.sto := (rfl)
@[simp] theorem modLnk_pwr (s : State) (k : Nat) (f : LnkSt → LnkSt) : (modLnk k f s).pwr = s.pwr := (rfl)
@[simp] theorem modLnk_seq (s : State) (k : Nat) (f : LnkSt → LnkSt) : (modLnk k f s).seq = s.seq := (rfl)
@[simp] theorem modLnk_log (s : State) (k : Nat) (f : LnkSt → LnkSt) : (modLnk k f s).log = s.log := (rfl)
@[simp] theorem modLnk_ctxs (s : State) (k : Nat) (f : LnkSt → LnkSt) : (modLnk k f s).ctxs = s.ctxs := (rfl)
@[simp] theorem modLnk_rtc (s : State) (k : Nat) (f : LnkSt → LnkSt) : (modLnk k f s).rtc = s.rtc := (rfl)
@[simp] theorem modLnk_evt (s : State) (k : Nat) (f : LnkSt → LnkSt) : (modLnk k f s).evt = s.evt := (rfl)
@[simp] theorem modLnk_sbp (s : State) (k : Nat) (f : LnkSt → LnkSt) : (modLnk k f s).sbp = s.sbp := (rfl)
@[simp] theorem modLnk_phy (s : State) (k : Nat) (f : LnkSt → LnkSt) : (modLnk k f s).phy = s.phy := (rfl)
@[simp] theorem modLnk_txn (s : State) (k : Nat) (f : LnkSt → LnkSt) : (modLnk k f s).txn = s.txn := (rfl)
@[simp] theorem modLnk_chan (s : State) (k : Nat) (f : LnkSt → LnkSt) : (modLnk k f s).chan = s.chan := (rfl)
@[simp] theorem modLnk_out (s : State) (k : Nat) (f : LnkSt → LnkSt) : (modLnk k f s).out = s.out := (rfl)
@[simp] theorem modLnk_tt (s : State) (k : Nat) (f : LnkSt → LnkSt) : (modLnk k f s).tt = s.tt := (rfl)
@[simp] theorem modLnk_proof (s : State) (k : Nat) (f : LnkSt → LnkSt) : (modLnk k f s).proof = s.proof := (rfl)
@[simp] theorem modLnk_can (s : State) (k : Nat) (f : LnkSt → LnkSt) : (modLnk k f s).can = s.can := (rfl)
@[simp] theorem modLnk_srcs (s : State) (k : Nat) (f : LnkSt → LnkSt) : (modLnk k f s).srcs = s.srcs := (rfl)
@[simp] theorem modLnk_adc (s : State) (k : Nat) (f : LnkSt → LnkSt) : (modLnk k f s).adc = s.adc := (rfl)
@[simp] theorem modLnk_bkl (s : State) (k : Nat) (f : LnkSt → LnkSt) : (modLnk k f s).bkl = s.bkl := (rfl)
@[simp] theorem modLnk_flk (s : State) (k : Nat) (f : LnkSt → LnkSt) : (modLnk k f s).flk = s.flk := (rfl)
@[simp] theorem modLnk_flt (s : State) (k : Nat) (f : LnkSt → LnkSt) : (modLnk k f s).flt = s.flt := (rfl)
@[simp] theorem modLnk_lastStatus (s : State) (k : Nat) (f : LnkSt → LnkSt) : (modLnk k f s).lastStatus = s.lastStatus := (rfl)
@[simp] theorem modLnk_freeCount (s : State) (k : Nat) (f : LnkSt → LnkSt) : (modLnk k f s).freeCount = s.freeCount := (rfl)
@[simp] theorem modLnk_pending (s : State) (k : Nat) (f : LnkSt → LnkSt) : (modLnk k f s).pending = s.pending := (rfl)

/-! ### One entry of `chan` changed -/

@[simp] theorem modChan_regs (s : State) (k : Nat) (f : ChanSt → ChanSt) : (modChan k f s).regs = s.regs := (rfl)
@[simp] theorem modChan_ctl (s : State) (k : Nat) (f : ChanSt → ChanSt) : (modChan k f s).ctl = s.ctl := (rfl)
@[simp] theorem modChan_door (s : State) (k : Nat) (f : ChanSt → ChanSt) : (modChan k f s).door = s.door := (rfl)
@[simp] theorem modChan_otp (s : State) (k : Nat) (f : ChanSt → ChanSt) : (modChan k f s).otp = s.otp := (rfl)
@[simp] theorem modChan_upd (s : State) (k : Nat) (f : ChanSt → ChanSt) : (modChan k f s).upd = s.upd := (rfl)
@[simp] theorem modChan_cfg (s : State) (k : Nat) (f : ChanSt → ChanSt) : (modChan k f s).cfg = s.cfg := (rfl)
@[simp] theorem modChan_mem (s : State) (k : Nat) (f : ChanSt → ChanSt) : (modChan k f s).mem = s.mem := (rfl)
@[simp] theorem modChan_nv (s : State) (k : Nat) (f : ChanSt → ChanSt) : (modChan k f s).nv = s.nv := (rfl)
@[simp] theorem modChan_sto (s : State) (k : Nat) (f : ChanSt → ChanSt) : (modChan k f s).sto = s.sto := (rfl)
@[simp] theorem modChan_pwr (s : State) (k : Nat) (f : ChanSt → ChanSt) : (modChan k f s).pwr = s.pwr := (rfl)
@[simp] theorem modChan_seq (s : State) (k : Nat) (f : ChanSt → ChanSt) : (modChan k f s).seq = s.seq := (rfl)
@[simp] theorem modChan_log (s : State) (k : Nat) (f : ChanSt → ChanSt) : (modChan k f s).log = s.log := (rfl)
@[simp] theorem modChan_ctxs (s : State) (k : Nat) (f : ChanSt → ChanSt) : (modChan k f s).ctxs = s.ctxs := (rfl)
@[simp] theorem modChan_rtc (s : State) (k : Nat) (f : ChanSt → ChanSt) : (modChan k f s).rtc = s.rtc := (rfl)
@[simp] theorem modChan_evt (s : State) (k : Nat) (f : ChanSt → ChanSt) : (modChan k f s).evt = s.evt := (rfl)
@[simp] theorem modChan_sbp (s : State) (k : Nat) (f : ChanSt → ChanSt) : (modChan k f s).sbp = s.sbp := (rfl)
@[simp] theorem modChan_phy (s : State) (k : Nat) (f : ChanSt → ChanSt) : (modChan k f s).phy = s.phy := (rfl)
@[simp] theorem modChan_lnk (s : State) (k : Nat) (f : ChanSt → ChanSt) : (modChan k f s).lnk = s.lnk := (rfl)
@[simp] theorem modChan_txn (s : State) (k : Nat) (f : ChanSt → ChanSt) : (modChan k f s).txn = s.txn := (rfl)
@[simp] theorem modChan_out (s : State) (k : Nat) (f : ChanSt → ChanSt) : (modChan k f s).out = s.out := (rfl)
@[simp] theorem modChan_tt (s : State) (k : Nat) (f : ChanSt → ChanSt) : (modChan k f s).tt = s.tt := (rfl)
@[simp] theorem modChan_proof (s : State) (k : Nat) (f : ChanSt → ChanSt) : (modChan k f s).proof = s.proof := (rfl)
@[simp] theorem modChan_can (s : State) (k : Nat) (f : ChanSt → ChanSt) : (modChan k f s).can = s.can := (rfl)
@[simp] theorem modChan_srcs (s : State) (k : Nat) (f : ChanSt → ChanSt) : (modChan k f s).srcs = s.srcs := (rfl)
@[simp] theorem modChan_adc (s : State) (k : Nat) (f : ChanSt → ChanSt) : (modChan k f s).adc = s.adc := (rfl)
@[simp] theorem modChan_bkl (s : State) (k : Nat) (f : ChanSt → ChanSt) : (modChan k f s).bkl = s.bkl := (rfl)
@[simp] theorem modChan_flk (s : State) (k : Nat) (f : ChanSt → ChanSt) : (modChan k f s).flk = s.flk := (rfl)
@[simp] theorem modChan_flt (s : State) (k : Nat) (f : ChanSt → ChanSt) : (modChan k f s).flt = s.flt := (rfl)
@[simp] theorem modChan_lastStatus (s : State) (k : Nat) (f : ChanSt → ChanSt) : (modChan k f s).lastStatus = s.lastStatus := (rfl)
@[simp] theorem modChan_freeCount (s : State) (k : Nat) (f : ChanSt → ChanSt) : (modChan k f s).freeCount = s.freeCount := (rfl)
@[simp] theorem modChan_pending (s : State) (k : Nat) (f : ChanSt → ChanSt) : (modChan k f s).pending = s.pending := (rfl)

/-! ### One entry of `out` changed -/

@[simp] theorem modOut_regs (s : State) (k : Nat) (f : OutSt → OutSt) : (modOut k f s).regs = s.regs := (rfl)
@[simp] theorem modOut_ctl (s : State) (k : Nat) (f : OutSt → OutSt) : (modOut k f s).ctl = s.ctl := (rfl)
@[simp] theorem modOut_door (s : State) (k : Nat) (f : OutSt → OutSt) : (modOut k f s).door = s.door := (rfl)
@[simp] theorem modOut_otp (s : State) (k : Nat) (f : OutSt → OutSt) : (modOut k f s).otp = s.otp := (rfl)
@[simp] theorem modOut_upd (s : State) (k : Nat) (f : OutSt → OutSt) : (modOut k f s).upd = s.upd := (rfl)
@[simp] theorem modOut_cfg (s : State) (k : Nat) (f : OutSt → OutSt) : (modOut k f s).cfg = s.cfg := (rfl)
@[simp] theorem modOut_mem (s : State) (k : Nat) (f : OutSt → OutSt) : (modOut k f s).mem = s.mem := (rfl)
@[simp] theorem modOut_nv (s : State) (k : Nat) (f : OutSt → OutSt) : (modOut k f s).nv = s.nv := (rfl)
@[simp] theorem modOut_sto (s : State) (k : Nat) (f : OutSt → OutSt) : (modOut k f s).sto = s.sto := (rfl)
@[simp] theorem modOut_pwr (s : State) (k : Nat) (f : OutSt → OutSt) : (modOut k f s).pwr = s.pwr := (rfl)
@[simp] theorem modOut_seq (s : State) (k : Nat) (f : OutSt → OutSt) : (modOut k f s).seq = s.seq := (rfl)
@[simp] theorem modOut_log (s : State) (k : Nat) (f : OutSt → OutSt) : (modOut k f s).log = s.log := (rfl)
@[simp] theorem modOut_ctxs (s : State) (k : Nat) (f : OutSt → OutSt) : (modOut k f s).ctxs = s.ctxs := (rfl)
@[simp] theorem modOut_rtc (s : State) (k : Nat) (f : OutSt → OutSt) : (modOut k f s).rtc = s.rtc := (rfl)
@[simp] theorem modOut_evt (s : State) (k : Nat) (f : OutSt → OutSt) : (modOut k f s).evt = s.evt := (rfl)
@[simp] theorem modOut_sbp (s : State) (k : Nat) (f : OutSt → OutSt) : (modOut k f s).sbp = s.sbp := (rfl)
@[simp] theorem modOut_phy (s : State) (k : Nat) (f : OutSt → OutSt) : (modOut k f s).phy = s.phy := (rfl)
@[simp] theorem modOut_lnk (s : State) (k : Nat) (f : OutSt → OutSt) : (modOut k f s).lnk = s.lnk := (rfl)
@[simp] theorem modOut_txn (s : State) (k : Nat) (f : OutSt → OutSt) : (modOut k f s).txn = s.txn := (rfl)
@[simp] theorem modOut_chan (s : State) (k : Nat) (f : OutSt → OutSt) : (modOut k f s).chan = s.chan := (rfl)
@[simp] theorem modOut_tt (s : State) (k : Nat) (f : OutSt → OutSt) : (modOut k f s).tt = s.tt := (rfl)
@[simp] theorem modOut_proof (s : State) (k : Nat) (f : OutSt → OutSt) : (modOut k f s).proof = s.proof := (rfl)
@[simp] theorem modOut_can (s : State) (k : Nat) (f : OutSt → OutSt) : (modOut k f s).can = s.can := (rfl)
@[simp] theorem modOut_srcs (s : State) (k : Nat) (f : OutSt → OutSt) : (modOut k f s).srcs = s.srcs := (rfl)
@[simp] theorem modOut_adc (s : State) (k : Nat) (f : OutSt → OutSt) : (modOut k f s).adc = s.adc := (rfl)
@[simp] theorem modOut_bkl (s : State) (k : Nat) (f : OutSt → OutSt) : (modOut k f s).bkl = s.bkl := (rfl)
@[simp] theorem modOut_flk (s : State) (k : Nat) (f : OutSt → OutSt) : (modOut k f s).flk = s.flk := (rfl)
@[simp] theorem modOut_flt (s : State) (k : Nat) (f : OutSt → OutSt) : (modOut k f s).flt = s.flt := (rfl)
@[simp] theorem modOut_lastStatus (s : State) (k : Nat) (f : OutSt → OutSt) : (modOut k f s).lastStatus = s.lastStatus := (rfl)
@[simp] theorem modOut_freeCount (s : State) (k : Nat) (f : OutSt → OutSt) : (modOut k f s).freeCount = s.freeCount := (rfl)
@[simp] theorem modOut_pending (s : State) (k : Nat) (f : OutSt → OutSt) : (modOut k f s).pending = s.pending := (rfl)

/-! ### One entry of `tt` changed -/

@[simp] theorem modTt_regs (s : State) (k : Nat) (f : TtSt → TtSt) : (modTt k f s).regs = s.regs := (rfl)
@[simp] theorem modTt_ctl (s : State) (k : Nat) (f : TtSt → TtSt) : (modTt k f s).ctl = s.ctl := (rfl)
@[simp] theorem modTt_door (s : State) (k : Nat) (f : TtSt → TtSt) : (modTt k f s).door = s.door := (rfl)
@[simp] theorem modTt_otp (s : State) (k : Nat) (f : TtSt → TtSt) : (modTt k f s).otp = s.otp := (rfl)
@[simp] theorem modTt_upd (s : State) (k : Nat) (f : TtSt → TtSt) : (modTt k f s).upd = s.upd := (rfl)
@[simp] theorem modTt_cfg (s : State) (k : Nat) (f : TtSt → TtSt) : (modTt k f s).cfg = s.cfg := (rfl)
@[simp] theorem modTt_mem (s : State) (k : Nat) (f : TtSt → TtSt) : (modTt k f s).mem = s.mem := (rfl)
@[simp] theorem modTt_nv (s : State) (k : Nat) (f : TtSt → TtSt) : (modTt k f s).nv = s.nv := (rfl)
@[simp] theorem modTt_sto (s : State) (k : Nat) (f : TtSt → TtSt) : (modTt k f s).sto = s.sto := (rfl)
@[simp] theorem modTt_pwr (s : State) (k : Nat) (f : TtSt → TtSt) : (modTt k f s).pwr = s.pwr := (rfl)
@[simp] theorem modTt_seq (s : State) (k : Nat) (f : TtSt → TtSt) : (modTt k f s).seq = s.seq := (rfl)
@[simp] theorem modTt_log (s : State) (k : Nat) (f : TtSt → TtSt) : (modTt k f s).log = s.log := (rfl)
@[simp] theorem modTt_ctxs (s : State) (k : Nat) (f : TtSt → TtSt) : (modTt k f s).ctxs = s.ctxs := (rfl)
@[simp] theorem modTt_rtc (s : State) (k : Nat) (f : TtSt → TtSt) : (modTt k f s).rtc = s.rtc := (rfl)
@[simp] theorem modTt_evt (s : State) (k : Nat) (f : TtSt → TtSt) : (modTt k f s).evt = s.evt := (rfl)
@[simp] theorem modTt_sbp (s : State) (k : Nat) (f : TtSt → TtSt) : (modTt k f s).sbp = s.sbp := (rfl)
@[simp] theorem modTt_phy (s : State) (k : Nat) (f : TtSt → TtSt) : (modTt k f s).phy = s.phy := (rfl)
@[simp] theorem modTt_lnk (s : State) (k : Nat) (f : TtSt → TtSt) : (modTt k f s).lnk = s.lnk := (rfl)
@[simp] theorem modTt_txn (s : State) (k : Nat) (f : TtSt → TtSt) : (modTt k f s).txn = s.txn := (rfl)
@[simp] theorem modTt_chan (s : State) (k : Nat) (f : TtSt → TtSt) : (modTt k f s).chan = s.chan := (rfl)
@[simp] theorem modTt_out (s : State) (k : Nat) (f : TtSt → TtSt) : (modTt k f s).out = s.out := (rfl)
@[simp] theorem modTt_proof (s : State) (k : Nat) (f : TtSt → TtSt) : (modTt k f s).proof = s.proof := (rfl)
@[simp] theorem modTt_can (s : State) (k : Nat) (f : TtSt → TtSt) : (modTt k f s).can = s.can := (rfl)
@[simp] theorem modTt_srcs (s : State) (k : Nat) (f : TtSt → TtSt) : (modTt k f s).srcs = s.srcs := (rfl)
@[simp] theorem modTt_adc (s : State) (k : Nat) (f : TtSt → TtSt) : (modTt k f s).adc = s.adc := (rfl)
@[simp] theorem modTt_bkl (s : State) (k : Nat) (f : TtSt → TtSt) : (modTt k f s).bkl = s.bkl := (rfl)
@[simp] theorem modTt_flk (s : State) (k : Nat) (f : TtSt → TtSt) : (modTt k f s).flk = s.flk := (rfl)
@[simp] theorem modTt_flt (s : State) (k : Nat) (f : TtSt → TtSt) : (modTt k f s).flt = s.flt := (rfl)
@[simp] theorem modTt_lastStatus (s : State) (k : Nat) (f : TtSt → TtSt) : (modTt k f s).lastStatus = s.lastStatus := (rfl)
@[simp] theorem modTt_freeCount (s : State) (k : Nat) (f : TtSt → TtSt) : (modTt k f s).freeCount = s.freeCount := (rfl)
@[simp] theorem modTt_pending (s : State) (k : Nat) (f : TtSt → TtSt) : (modTt k f s).pending = s.pending := (rfl)

/-! ### One entry of `can` changed -/

@[simp] theorem modCan_regs (s : State) (k : Nat) (f : CanSt → CanSt) : (modCan k f s).regs = s.regs := (rfl)
@[simp] theorem modCan_ctl (s : State) (k : Nat) (f : CanSt → CanSt) : (modCan k f s).ctl = s.ctl := (rfl)
@[simp] theorem modCan_door (s : State) (k : Nat) (f : CanSt → CanSt) : (modCan k f s).door = s.door := (rfl)
@[simp] theorem modCan_otp (s : State) (k : Nat) (f : CanSt → CanSt) : (modCan k f s).otp = s.otp := (rfl)
@[simp] theorem modCan_upd (s : State) (k : Nat) (f : CanSt → CanSt) : (modCan k f s).upd = s.upd := (rfl)
@[simp] theorem modCan_cfg (s : State) (k : Nat) (f : CanSt → CanSt) : (modCan k f s).cfg = s.cfg := (rfl)
@[simp] theorem modCan_mem (s : State) (k : Nat) (f : CanSt → CanSt) : (modCan k f s).mem = s.mem := (rfl)
@[simp] theorem modCan_nv (s : State) (k : Nat) (f : CanSt → CanSt) : (modCan k f s).nv = s.nv := (rfl)
@[simp] theorem modCan_sto (s : State) (k : Nat) (f : CanSt → CanSt) : (modCan k f s).sto = s.sto := (rfl)
@[simp] theorem modCan_pwr (s : State) (k : Nat) (f : CanSt → CanSt) : (modCan k f s).pwr = s.pwr := (rfl)
@[simp] theorem modCan_seq (s : State) (k : Nat) (f : CanSt → CanSt) : (modCan k f s).seq = s.seq := (rfl)
@[simp] theorem modCan_log (s : State) (k : Nat) (f : CanSt → CanSt) : (modCan k f s).log = s.log := (rfl)
@[simp] theorem modCan_ctxs (s : State) (k : Nat) (f : CanSt → CanSt) : (modCan k f s).ctxs = s.ctxs := (rfl)
@[simp] theorem modCan_rtc (s : State) (k : Nat) (f : CanSt → CanSt) : (modCan k f s).rtc = s.rtc := (rfl)
@[simp] theorem modCan_evt (s : State) (k : Nat) (f : CanSt → CanSt) : (modCan k f s).evt = s.evt := (rfl)
@[simp] theorem modCan_sbp (s : State) (k : Nat) (f : CanSt → CanSt) : (modCan k f s).sbp = s.sbp := (rfl)
@[simp] theorem modCan_phy (s : State) (k : Nat) (f : CanSt → CanSt) : (modCan k f s).phy = s.phy := (rfl)
@[simp] theorem modCan_lnk (s : State) (k : Nat) (f : CanSt → CanSt) : (modCan k f s).lnk = s.lnk := (rfl)
@[simp] theorem modCan_txn (s : State) (k : Nat) (f : CanSt → CanSt) : (modCan k f s).txn = s.txn := (rfl)
@[simp] theorem modCan_chan (s : State) (k : Nat) (f : CanSt → CanSt) : (modCan k f s).chan = s.chan := (rfl)
@[simp] theorem modCan_out (s : State) (k : Nat) (f : CanSt → CanSt) : (modCan k f s).out = s.out := (rfl)
@[simp] theorem modCan_tt (s : State) (k : Nat) (f : CanSt → CanSt) : (modCan k f s).tt = s.tt := (rfl)
@[simp] theorem modCan_proof (s : State) (k : Nat) (f : CanSt → CanSt) : (modCan k f s).proof = s.proof := (rfl)
@[simp] theorem modCan_srcs (s : State) (k : Nat) (f : CanSt → CanSt) : (modCan k f s).srcs = s.srcs := (rfl)
@[simp] theorem modCan_adc (s : State) (k : Nat) (f : CanSt → CanSt) : (modCan k f s).adc = s.adc := (rfl)
@[simp] theorem modCan_bkl (s : State) (k : Nat) (f : CanSt → CanSt) : (modCan k f s).bkl = s.bkl := (rfl)
@[simp] theorem modCan_flk (s : State) (k : Nat) (f : CanSt → CanSt) : (modCan k f s).flk = s.flk := (rfl)
@[simp] theorem modCan_flt (s : State) (k : Nat) (f : CanSt → CanSt) : (modCan k f s).flt = s.flt := (rfl)
@[simp] theorem modCan_lastStatus (s : State) (k : Nat) (f : CanSt → CanSt) : (modCan k f s).lastStatus = s.lastStatus := (rfl)
@[simp] theorem modCan_freeCount (s : State) (k : Nat) (f : CanSt → CanSt) : (modCan k f s).freeCount = s.freeCount := (rfl)
@[simp] theorem modCan_pending (s : State) (k : Nat) (f : CanSt → CanSt) : (modCan k f s).pending = s.pending := (rfl)

/-! ### One entry of `ctxs` changed -/

@[simp] theorem modCtx_regs (s : State) (k : Nat) (f : Ctx → Ctx) : (modCtx k f s).regs = s.regs := (rfl)
@[simp] theorem modCtx_ctl (s : State) (k : Nat) (f : Ctx → Ctx) : (modCtx k f s).ctl = s.ctl := (rfl)
@[simp] theorem modCtx_door (s : State) (k : Nat) (f : Ctx → Ctx) : (modCtx k f s).door = s.door := (rfl)
@[simp] theorem modCtx_otp (s : State) (k : Nat) (f : Ctx → Ctx) : (modCtx k f s).otp = s.otp := (rfl)
@[simp] theorem modCtx_upd (s : State) (k : Nat) (f : Ctx → Ctx) : (modCtx k f s).upd = s.upd := (rfl)
@[simp] theorem modCtx_cfg (s : State) (k : Nat) (f : Ctx → Ctx) : (modCtx k f s).cfg = s.cfg := (rfl)
@[simp] theorem modCtx_mem (s : State) (k : Nat) (f : Ctx → Ctx) : (modCtx k f s).mem = s.mem := (rfl)
@[simp] theorem modCtx_nv (s : State) (k : Nat) (f : Ctx → Ctx) : (modCtx k f s).nv = s.nv := (rfl)
@[simp] theorem modCtx_sto (s : State) (k : Nat) (f : Ctx → Ctx) : (modCtx k f s).sto = s.sto := (rfl)
@[simp] theorem modCtx_pwr (s : State) (k : Nat) (f : Ctx → Ctx) : (modCtx k f s).pwr = s.pwr := (rfl)
@[simp] theorem modCtx_seq (s : State) (k : Nat) (f : Ctx → Ctx) : (modCtx k f s).seq = s.seq := (rfl)
@[simp] theorem modCtx_log (s : State) (k : Nat) (f : Ctx → Ctx) : (modCtx k f s).log = s.log := (rfl)
@[simp] theorem modCtx_rtc (s : State) (k : Nat) (f : Ctx → Ctx) : (modCtx k f s).rtc = s.rtc := (rfl)
@[simp] theorem modCtx_evt (s : State) (k : Nat) (f : Ctx → Ctx) : (modCtx k f s).evt = s.evt := (rfl)
@[simp] theorem modCtx_sbp (s : State) (k : Nat) (f : Ctx → Ctx) : (modCtx k f s).sbp = s.sbp := (rfl)
@[simp] theorem modCtx_phy (s : State) (k : Nat) (f : Ctx → Ctx) : (modCtx k f s).phy = s.phy := (rfl)
@[simp] theorem modCtx_lnk (s : State) (k : Nat) (f : Ctx → Ctx) : (modCtx k f s).lnk = s.lnk := (rfl)
@[simp] theorem modCtx_txn (s : State) (k : Nat) (f : Ctx → Ctx) : (modCtx k f s).txn = s.txn := (rfl)
@[simp] theorem modCtx_chan (s : State) (k : Nat) (f : Ctx → Ctx) : (modCtx k f s).chan = s.chan := (rfl)
@[simp] theorem modCtx_out (s : State) (k : Nat) (f : Ctx → Ctx) : (modCtx k f s).out = s.out := (rfl)
@[simp] theorem modCtx_tt (s : State) (k : Nat) (f : Ctx → Ctx) : (modCtx k f s).tt = s.tt := (rfl)
@[simp] theorem modCtx_proof (s : State) (k : Nat) (f : Ctx → Ctx) : (modCtx k f s).proof = s.proof := (rfl)
@[simp] theorem modCtx_can (s : State) (k : Nat) (f : Ctx → Ctx) : (modCtx k f s).can = s.can := (rfl)
@[simp] theorem modCtx_srcs (s : State) (k : Nat) (f : Ctx → Ctx) : (modCtx k f s).srcs = s.srcs := (rfl)
@[simp] theorem modCtx_adc (s : State) (k : Nat) (f : Ctx → Ctx) : (modCtx k f s).adc = s.adc := (rfl)
@[simp] theorem modCtx_bkl (s : State) (k : Nat) (f : Ctx → Ctx) : (modCtx k f s).bkl = s.bkl := (rfl)
@[simp] theorem modCtx_flk (s : State) (k : Nat) (f : Ctx → Ctx) : (modCtx k f s).flk = s.flk := (rfl)
@[simp] theorem modCtx_flt (s : State) (k : Nat) (f : Ctx → Ctx) : (modCtx k f s).flt = s.flt := (rfl)
@[simp] theorem modCtx_lastStatus (s : State) (k : Nat) (f : Ctx → Ctx) : (modCtx k f s).lastStatus = s.lastStatus := (rfl)
@[simp] theorem modCtx_freeCount (s : State) (k : Nat) (f : Ctx → Ctx) : (modCtx k f s).freeCount = s.freeCount := (rfl)
@[simp] theorem modCtx_pending (s : State) (k : Nat) (f : Ctx → Ctx) : (modCtx k f s).pending = s.pending := (rfl)

/-! ### An event queue changed -/

@[simp] theorem setQueue_regs (s : State) (n : Nat) (q : List EvtEntry) : (setQueue n q s).regs = s.regs := (rfl)
@[simp] theorem setQueue_ctl (s : State) (n : Nat) (q : List EvtEntry) : (setQueue n q s).ctl = s.ctl := (rfl)
@[simp] theorem setQueue_door (s : State) (n : Nat) (q : List EvtEntry) : (setQueue n q s).door = s.door := (rfl)
@[simp] theorem setQueue_otp (s : State) (n : Nat) (q : List EvtEntry) : (setQueue n q s).otp = s.otp := (rfl)
@[simp] theorem setQueue_upd (s : State) (n : Nat) (q : List EvtEntry) : (setQueue n q s).upd = s.upd := (rfl)
@[simp] theorem setQueue_cfg (s : State) (n : Nat) (q : List EvtEntry) : (setQueue n q s).cfg = s.cfg := (rfl)
@[simp] theorem setQueue_mem (s : State) (n : Nat) (q : List EvtEntry) : (setQueue n q s).mem = s.mem := (rfl)
@[simp] theorem setQueue_nv (s : State) (n : Nat) (q : List EvtEntry) : (setQueue n q s).nv = s.nv := (rfl)
@[simp] theorem setQueue_sto (s : State) (n : Nat) (q : List EvtEntry) : (setQueue n q s).sto = s.sto := (rfl)
@[simp] theorem setQueue_pwr (s : State) (n : Nat) (q : List EvtEntry) : (setQueue n q s).pwr = s.pwr := (rfl)
@[simp] theorem setQueue_seq (s : State) (n : Nat) (q : List EvtEntry) : (setQueue n q s).seq = s.seq := (rfl)
@[simp] theorem setQueue_log (s : State) (n : Nat) (q : List EvtEntry) : (setQueue n q s).log = s.log := (rfl)
@[simp] theorem setQueue_ctxs (s : State) (n : Nat) (q : List EvtEntry) : (setQueue n q s).ctxs = s.ctxs := (rfl)
@[simp] theorem setQueue_rtc (s : State) (n : Nat) (q : List EvtEntry) : (setQueue n q s).rtc = s.rtc := (rfl)
@[simp] theorem setQueue_sbp (s : State) (n : Nat) (q : List EvtEntry) : (setQueue n q s).sbp = s.sbp := (rfl)
@[simp] theorem setQueue_phy (s : State) (n : Nat) (q : List EvtEntry) : (setQueue n q s).phy = s.phy := (rfl)
@[simp] theorem setQueue_lnk (s : State) (n : Nat) (q : List EvtEntry) : (setQueue n q s).lnk = s.lnk := (rfl)
@[simp] theorem setQueue_txn (s : State) (n : Nat) (q : List EvtEntry) : (setQueue n q s).txn = s.txn := (rfl)
@[simp] theorem setQueue_chan (s : State) (n : Nat) (q : List EvtEntry) : (setQueue n q s).chan = s.chan := (rfl)
@[simp] theorem setQueue_out (s : State) (n : Nat) (q : List EvtEntry) : (setQueue n q s).out = s.out := (rfl)
@[simp] theorem setQueue_tt (s : State) (n : Nat) (q : List EvtEntry) : (setQueue n q s).tt = s.tt := (rfl)
@[simp] theorem setQueue_proof (s : State) (n : Nat) (q : List EvtEntry) : (setQueue n q s).proof = s.proof := (rfl)
@[simp] theorem setQueue_can (s : State) (n : Nat) (q : List EvtEntry) : (setQueue n q s).can = s.can := (rfl)
@[simp] theorem setQueue_srcs (s : State) (n : Nat) (q : List EvtEntry) : (setQueue n q s).srcs = s.srcs := (rfl)
@[simp] theorem setQueue_adc (s : State) (n : Nat) (q : List EvtEntry) : (setQueue n q s).adc = s.adc := (rfl)
@[simp] theorem setQueue_bkl (s : State) (n : Nat) (q : List EvtEntry) : (setQueue n q s).bkl = s.bkl := (rfl)
@[simp] theorem setQueue_flk (s : State) (n : Nat) (q : List EvtEntry) : (setQueue n q s).flk = s.flk := (rfl)
@[simp] theorem setQueue_flt (s : State) (n : Nat) (q : List EvtEntry) : (setQueue n q s).flt = s.flt := (rfl)
@[simp] theorem setQueue_lastStatus (s : State) (n : Nat) (q : List EvtEntry) : (setQueue n q s).lastStatus = s.lastStatus := (rfl)
@[simp] theorem setQueue_freeCount (s : State) (n : Nat) (q : List EvtEntry) : (setQueue n q s).freeCount = s.freeCount := (rfl)
@[simp] theorem setQueue_pending (s : State) (n : Nat) (q : List EvtEntry) : (setQueue n q s).pending = s.pending := (rfl)

/-! ### A block-map entry changed -/

@[simp] theorem setBlock_regs (s : State) (l : Nat) (b : Block) : (s.setBlock l b).regs = s.regs := (rfl)
@[simp] theorem setBlock_ctl (s : State) (l : Nat) (b : Block) : (s.setBlock l b).ctl = s.ctl := (rfl)
@[simp] theorem setBlock_door (s : State) (l : Nat) (b : Block) : (s.setBlock l b).door = s.door := (rfl)
@[simp] theorem setBlock_otp (s : State) (l : Nat) (b : Block) : (s.setBlock l b).otp = s.otp := (rfl)
@[simp] theorem setBlock_upd (s : State) (l : Nat) (b : Block) : (s.setBlock l b).upd = s.upd := (rfl)
@[simp] theorem setBlock_cfg (s : State) (l : Nat) (b : Block) : (s.setBlock l b).cfg = s.cfg := (rfl)
@[simp] theorem setBlock_mem (s : State) (l : Nat) (b : Block) : (s.setBlock l b).mem = s.mem := (rfl)
@[simp] theorem setBlock_sto (s : State) (l : Nat) (b : Block) : (s.setBlock l b).sto = s.sto := (rfl)
@[simp] theorem setBlock_pwr (s : State) (l : Nat) (b : Block) : (s.setBlock l b).pwr = s.pwr := (rfl)
@[simp] theorem setBlock_seq (s : State) (l : Nat) (b : Block) : (s.setBlock l b).seq = s.seq := (rfl)
@[simp] theorem setBlock_log (s : State) (l : Nat) (b : Block) : (s.setBlock l b).log = s.log := (rfl)
@[simp] theorem setBlock_ctxs (s : State) (l : Nat) (b : Block) : (s.setBlock l b).ctxs = s.ctxs := (rfl)
@[simp] theorem setBlock_rtc (s : State) (l : Nat) (b : Block) : (s.setBlock l b).rtc = s.rtc := (rfl)
@[simp] theorem setBlock_evt (s : State) (l : Nat) (b : Block) : (s.setBlock l b).evt = s.evt := (rfl)
@[simp] theorem setBlock_sbp (s : State) (l : Nat) (b : Block) : (s.setBlock l b).sbp = s.sbp := (rfl)
@[simp] theorem setBlock_phy (s : State) (l : Nat) (b : Block) : (s.setBlock l b).phy = s.phy := (rfl)
@[simp] theorem setBlock_lnk (s : State) (l : Nat) (b : Block) : (s.setBlock l b).lnk = s.lnk := (rfl)
@[simp] theorem setBlock_txn (s : State) (l : Nat) (b : Block) : (s.setBlock l b).txn = s.txn := (rfl)
@[simp] theorem setBlock_chan (s : State) (l : Nat) (b : Block) : (s.setBlock l b).chan = s.chan := (rfl)
@[simp] theorem setBlock_out (s : State) (l : Nat) (b : Block) : (s.setBlock l b).out = s.out := (rfl)
@[simp] theorem setBlock_tt (s : State) (l : Nat) (b : Block) : (s.setBlock l b).tt = s.tt := (rfl)
@[simp] theorem setBlock_proof (s : State) (l : Nat) (b : Block) : (s.setBlock l b).proof = s.proof := (rfl)
@[simp] theorem setBlock_can (s : State) (l : Nat) (b : Block) : (s.setBlock l b).can = s.can := (rfl)
@[simp] theorem setBlock_srcs (s : State) (l : Nat) (b : Block) : (s.setBlock l b).srcs = s.srcs := (rfl)
@[simp] theorem setBlock_adc (s : State) (l : Nat) (b : Block) : (s.setBlock l b).adc = s.adc := (rfl)
@[simp] theorem setBlock_bkl (s : State) (l : Nat) (b : Block) : (s.setBlock l b).bkl = s.bkl := (rfl)
@[simp] theorem setBlock_flk (s : State) (l : Nat) (b : Block) : (s.setBlock l b).flk = s.flk := (rfl)
@[simp] theorem setBlock_flt (s : State) (l : Nat) (b : Block) : (s.setBlock l b).flt = s.flt := (rfl)
@[simp] theorem setBlock_lastStatus (s : State) (l : Nat) (b : Block) : (s.setBlock l b).lastStatus = s.lastStatus := (rfl)
@[simp] theorem setBlock_freeCount (s : State) (l : Nat) (b : Block) : (s.setBlock l b).freeCount = s.freeCount := (rfl)
@[simp] theorem setBlock_pending (s : State) (l : Nat) (b : Block) : (s.setBlock l b).pending = s.pending := (rfl)

/-! ### A byte of working memory written -/

@[simp] theorem putByte_regs (s : State) (a : Nat) (b : Byte) : (s.putByte a b).regs = s.regs := (rfl)
@[simp] theorem putByte_ctl (s : State) (a : Nat) (b : Byte) : (s.putByte a b).ctl = s.ctl := (rfl)
@[simp] theorem putByte_door (s : State) (a : Nat) (b : Byte) : (s.putByte a b).door = s.door := (rfl)
@[simp] theorem putByte_otp (s : State) (a : Nat) (b : Byte) : (s.putByte a b).otp = s.otp := (rfl)
@[simp] theorem putByte_upd (s : State) (a : Nat) (b : Byte) : (s.putByte a b).upd = s.upd := (rfl)
@[simp] theorem putByte_cfg (s : State) (a : Nat) (b : Byte) : (s.putByte a b).cfg = s.cfg := (rfl)
@[simp] theorem putByte_nv (s : State) (a : Nat) (b : Byte) : (s.putByte a b).nv = s.nv := (rfl)
@[simp] theorem putByte_sto (s : State) (a : Nat) (b : Byte) : (s.putByte a b).sto = s.sto := (rfl)
@[simp] theorem putByte_pwr (s : State) (a : Nat) (b : Byte) : (s.putByte a b).pwr = s.pwr := (rfl)
@[simp] theorem putByte_seq (s : State) (a : Nat) (b : Byte) : (s.putByte a b).seq = s.seq := (rfl)
@[simp] theorem putByte_log (s : State) (a : Nat) (b : Byte) : (s.putByte a b).log = s.log := (rfl)
@[simp] theorem putByte_ctxs (s : State) (a : Nat) (b : Byte) : (s.putByte a b).ctxs = s.ctxs := (rfl)
@[simp] theorem putByte_rtc (s : State) (a : Nat) (b : Byte) : (s.putByte a b).rtc = s.rtc := (rfl)
@[simp] theorem putByte_evt (s : State) (a : Nat) (b : Byte) : (s.putByte a b).evt = s.evt := (rfl)
@[simp] theorem putByte_sbp (s : State) (a : Nat) (b : Byte) : (s.putByte a b).sbp = s.sbp := (rfl)
@[simp] theorem putByte_phy (s : State) (a : Nat) (b : Byte) : (s.putByte a b).phy = s.phy := (rfl)
@[simp] theorem putByte_lnk (s : State) (a : Nat) (b : Byte) : (s.putByte a b).lnk = s.lnk := (rfl)
@[simp] theorem putByte_txn (s : State) (a : Nat) (b : Byte) : (s.putByte a b).txn = s.txn := (rfl)
@[simp] theorem putByte_chan (s : State) (a : Nat) (b : Byte) : (s.putByte a b).chan = s.chan := (rfl)
@[simp] theorem putByte_out (s : State) (a : Nat) (b : Byte) : (s.putByte a b).out = s.out := (rfl)
@[simp] theorem putByte_tt (s : State) (a : Nat) (b : Byte) : (s.putByte a b).tt = s.tt := (rfl)
@[simp] theorem putByte_proof (s : State) (a : Nat) (b : Byte) : (s.putByte a b).proof = s.proof := (rfl)
@[simp] theorem putByte_can (s : State) (a : Nat) (b : Byte) : (s.putByte a b).can = s.can := (rfl)
@[simp] theorem putByte_srcs (s : State) (a : Nat) (b : Byte) : (s.putByte a b).srcs = s.srcs := (rfl)
@[simp] theorem putByte_adc (s : State) (a : Nat) (b : Byte) : (s.putByte a b).adc = s.adc := (rfl)
@[simp] theorem putByte_bkl (s : State) (a : Nat) (b : Byte) : (s.putByte a b).bkl = s.bkl := (rfl)
@[simp] theorem putByte_flk (s : State) (a : Nat) (b : Byte) : (s.putByte a b).flk = s.flk := (rfl)
@[simp] theorem putByte_flt (s : State) (a : Nat) (b : Byte) : (s.putByte a b).flt = s.flt := (rfl)
@[simp] theorem putByte_lastStatus (s : State) (a : Nat) (b : Byte) : (s.putByte a b).lastStatus = s.lastStatus := (rfl)
@[simp] theorem putByte_freeCount (s : State) (a : Nat) (b : Byte) : (s.putByte a b).freeCount = s.freeCount := (rfl)
@[simp] theorem putByte_pending (s : State) (a : Nat) (b : Byte) : (s.putByte a b).pending = s.pending := (rfl)

/-! ### A clock domain ungated -/

@[simp] theorem ungate_regs (s : State) (a : Nat) : (ungate a s).regs = s.regs := (rfl)
@[simp] theorem ungate_door (s : State) (a : Nat) : (ungate a s).door = s.door := (rfl)
@[simp] theorem ungate_otp (s : State) (a : Nat) : (ungate a s).otp = s.otp := (rfl)
@[simp] theorem ungate_upd (s : State) (a : Nat) : (ungate a s).upd = s.upd := (rfl)
@[simp] theorem ungate_cfg (s : State) (a : Nat) : (ungate a s).cfg = s.cfg := (rfl)
@[simp] theorem ungate_mem (s : State) (a : Nat) : (ungate a s).mem = s.mem := (rfl)
@[simp] theorem ungate_nv (s : State) (a : Nat) : (ungate a s).nv = s.nv := (rfl)
@[simp] theorem ungate_sto (s : State) (a : Nat) : (ungate a s).sto = s.sto := (rfl)
@[simp] theorem ungate_pwr (s : State) (a : Nat) : (ungate a s).pwr = s.pwr := (rfl)
@[simp] theorem ungate_seq (s : State) (a : Nat) : (ungate a s).seq = s.seq := (rfl)
@[simp] theorem ungate_log (s : State) (a : Nat) : (ungate a s).log = s.log := (rfl)
@[simp] theorem ungate_ctxs (s : State) (a : Nat) : (ungate a s).ctxs = s.ctxs := (rfl)
@[simp] theorem ungate_rtc (s : State) (a : Nat) : (ungate a s).rtc = s.rtc := (rfl)
@[simp] theorem ungate_evt (s : State) (a : Nat) : (ungate a s).evt = s.evt := (rfl)
@[simp] theorem ungate_sbp (s : State) (a : Nat) : (ungate a s).sbp = s.sbp := (rfl)
@[simp] theorem ungate_phy (s : State) (a : Nat) : (ungate a s).phy = s.phy := (rfl)
@[simp] theorem ungate_lnk (s : State) (a : Nat) : (ungate a s).lnk = s.lnk := (rfl)
@[simp] theorem ungate_txn (s : State) (a : Nat) : (ungate a s).txn = s.txn := (rfl)
@[simp] theorem ungate_chan (s : State) (a : Nat) : (ungate a s).chan = s.chan := (rfl)
@[simp] theorem ungate_out (s : State) (a : Nat) : (ungate a s).out = s.out := (rfl)
@[simp] theorem ungate_tt (s : State) (a : Nat) : (ungate a s).tt = s.tt := (rfl)
@[simp] theorem ungate_proof (s : State) (a : Nat) : (ungate a s).proof = s.proof := (rfl)
@[simp] theorem ungate_can (s : State) (a : Nat) : (ungate a s).can = s.can := (rfl)
@[simp] theorem ungate_srcs (s : State) (a : Nat) : (ungate a s).srcs = s.srcs := (rfl)
@[simp] theorem ungate_adc (s : State) (a : Nat) : (ungate a s).adc = s.adc := (rfl)
@[simp] theorem ungate_bkl (s : State) (a : Nat) : (ungate a s).bkl = s.bkl := (rfl)
@[simp] theorem ungate_flk (s : State) (a : Nat) : (ungate a s).flk = s.flk := (rfl)
@[simp] theorem ungate_flt (s : State) (a : Nat) : (ungate a s).flt = s.flt := (rfl)
@[simp] theorem ungate_lastStatus (s : State) (a : Nat) : (ungate a s).lastStatus = s.lastStatus := (rfl)
@[simp] theorem ungate_freeCount (s : State) (a : Nat) : (ungate a s).freeCount = s.freeCount := (rfl)
@[simp] theorem ungate_pending (s : State) (a : Nat) : (ungate a s).pending = s.pending := (rfl)

/-! ### An access that is served -/

@[simp] theorem served_regs (s : State) (g : BitVec 25) : (served g s).regs = s.regs := (rfl)
@[simp] theorem served_door (s : State) (g : BitVec 25) : (served g s).door = s.door := (rfl)
@[simp] theorem served_otp (s : State) (g : BitVec 25) : (served g s).otp = s.otp := (rfl)
@[simp] theorem served_upd (s : State) (g : BitVec 25) : (served g s).upd = s.upd := (rfl)
@[simp] theorem served_cfg (s : State) (g : BitVec 25) : (served g s).cfg = s.cfg := (rfl)
@[simp] theorem served_mem (s : State) (g : BitVec 25) : (served g s).mem = s.mem := (rfl)
@[simp] theorem served_nv (s : State) (g : BitVec 25) : (served g s).nv = s.nv := (rfl)
@[simp] theorem served_sto (s : State) (g : BitVec 25) : (served g s).sto = s.sto := (rfl)
@[simp] theorem served_pwr (s : State) (g : BitVec 25) : (served g s).pwr = s.pwr := (rfl)
@[simp] theorem served_seq (s : State) (g : BitVec 25) : (served g s).seq = s.seq := (rfl)
@[simp] theorem served_log (s : State) (g : BitVec 25) : (served g s).log = s.log := (rfl)
@[simp] theorem served_ctxs (s : State) (g : BitVec 25) : (served g s).ctxs = s.ctxs := (rfl)
@[simp] theorem served_rtc (s : State) (g : BitVec 25) : (served g s).rtc = s.rtc := (rfl)
@[simp] theorem served_evt (s : State) (g : BitVec 25) : (served g s).evt = s.evt := (rfl)
@[simp] theorem served_sbp (s : State) (g : BitVec 25) : (served g s).sbp = s.sbp := (rfl)
@[simp] theorem served_phy (s : State) (g : BitVec 25) : (served g s).phy = s.phy := (rfl)
@[simp] theorem served_lnk (s : State) (g : BitVec 25) : (served g s).lnk = s.lnk := (rfl)
@[simp] theorem served_txn (s : State) (g : BitVec 25) : (served g s).txn = s.txn := (rfl)
@[simp] theorem served_chan (s : State) (g : BitVec 25) : (served g s).chan = s.chan := (rfl)
@[simp] theorem served_out (s : State) (g : BitVec 25) : (served g s).out = s.out := (rfl)
@[simp] theorem served_tt (s : State) (g : BitVec 25) : (served g s).tt = s.tt := (rfl)
@[simp] theorem served_proof (s : State) (g : BitVec 25) : (served g s).proof = s.proof := (rfl)
@[simp] theorem served_can (s : State) (g : BitVec 25) : (served g s).can = s.can := (rfl)
@[simp] theorem served_srcs (s : State) (g : BitVec 25) : (served g s).srcs = s.srcs := (rfl)
@[simp] theorem served_adc (s : State) (g : BitVec 25) : (served g s).adc = s.adc := (rfl)
@[simp] theorem served_bkl (s : State) (g : BitVec 25) : (served g s).bkl = s.bkl := (rfl)
@[simp] theorem served_flk (s : State) (g : BitVec 25) : (served g s).flk = s.flk := (rfl)
@[simp] theorem served_flt (s : State) (g : BitVec 25) : (served g s).flt = s.flt := (rfl)
@[simp] theorem served_freeCount (s : State) (g : BitVec 25) : (served g s).freeCount = s.freeCount := (rfl)
@[simp] theorem served_pending (s : State) (g : BitVec 25) : (served g s).pending = s.pending := (rfl)

/-! ### The end of an access -/

@[simp] theorem gatedAs_regs (s : State) (g : BitVec 25) : (gatedAs g s).regs = s.regs := (rfl)
@[simp] theorem gatedAs_door (s : State) (g : BitVec 25) : (gatedAs g s).door = s.door := (rfl)
@[simp] theorem gatedAs_otp (s : State) (g : BitVec 25) : (gatedAs g s).otp = s.otp := (rfl)
@[simp] theorem gatedAs_upd (s : State) (g : BitVec 25) : (gatedAs g s).upd = s.upd := (rfl)
@[simp] theorem gatedAs_cfg (s : State) (g : BitVec 25) : (gatedAs g s).cfg = s.cfg := (rfl)
@[simp] theorem gatedAs_mem (s : State) (g : BitVec 25) : (gatedAs g s).mem = s.mem := (rfl)
@[simp] theorem gatedAs_nv (s : State) (g : BitVec 25) : (gatedAs g s).nv = s.nv := (rfl)
@[simp] theorem gatedAs_sto (s : State) (g : BitVec 25) : (gatedAs g s).sto = s.sto := (rfl)
@[simp] theorem gatedAs_pwr (s : State) (g : BitVec 25) : (gatedAs g s).pwr = s.pwr := (rfl)
@[simp] theorem gatedAs_seq (s : State) (g : BitVec 25) : (gatedAs g s).seq = s.seq := (rfl)
@[simp] theorem gatedAs_log (s : State) (g : BitVec 25) : (gatedAs g s).log = s.log := (rfl)
@[simp] theorem gatedAs_ctxs (s : State) (g : BitVec 25) : (gatedAs g s).ctxs = s.ctxs := (rfl)
@[simp] theorem gatedAs_rtc (s : State) (g : BitVec 25) : (gatedAs g s).rtc = s.rtc := (rfl)
@[simp] theorem gatedAs_evt (s : State) (g : BitVec 25) : (gatedAs g s).evt = s.evt := (rfl)
@[simp] theorem gatedAs_sbp (s : State) (g : BitVec 25) : (gatedAs g s).sbp = s.sbp := (rfl)
@[simp] theorem gatedAs_phy (s : State) (g : BitVec 25) : (gatedAs g s).phy = s.phy := (rfl)
@[simp] theorem gatedAs_lnk (s : State) (g : BitVec 25) : (gatedAs g s).lnk = s.lnk := (rfl)
@[simp] theorem gatedAs_txn (s : State) (g : BitVec 25) : (gatedAs g s).txn = s.txn := (rfl)
@[simp] theorem gatedAs_chan (s : State) (g : BitVec 25) : (gatedAs g s).chan = s.chan := (rfl)
@[simp] theorem gatedAs_out (s : State) (g : BitVec 25) : (gatedAs g s).out = s.out := (rfl)
@[simp] theorem gatedAs_tt (s : State) (g : BitVec 25) : (gatedAs g s).tt = s.tt := (rfl)
@[simp] theorem gatedAs_proof (s : State) (g : BitVec 25) : (gatedAs g s).proof = s.proof := (rfl)
@[simp] theorem gatedAs_can (s : State) (g : BitVec 25) : (gatedAs g s).can = s.can := (rfl)
@[simp] theorem gatedAs_srcs (s : State) (g : BitVec 25) : (gatedAs g s).srcs = s.srcs := (rfl)
@[simp] theorem gatedAs_adc (s : State) (g : BitVec 25) : (gatedAs g s).adc = s.adc := (rfl)
@[simp] theorem gatedAs_bkl (s : State) (g : BitVec 25) : (gatedAs g s).bkl = s.bkl := (rfl)
@[simp] theorem gatedAs_flk (s : State) (g : BitVec 25) : (gatedAs g s).flk = s.flk := (rfl)
@[simp] theorem gatedAs_flt (s : State) (g : BitVec 25) : (gatedAs g s).flt = s.flt := (rfl)
@[simp] theorem gatedAs_lastStatus (s : State) (g : BitVec 25) : (gatedAs g s).lastStatus = s.lastStatus := (rfl)
@[simp] theorem gatedAs_freeCount (s : State) (g : BitVec 25) : (gatedAs g s).freeCount = s.freeCount := (rfl)
@[simp] theorem gatedAs_pending (s : State) (g : BitVec 25) : (gatedAs g s).pending = s.pending := (rfl)

/-! ### The summaries evaluated -/

@[simp] theorem settle_regs (s : State) : (settle s).regs = s.regs := (rfl)
@[simp] theorem settle_ctl (s : State) : (settle s).ctl = s.ctl := (rfl)
@[simp] theorem settle_door (s : State) : (settle s).door = s.door := (rfl)
@[simp] theorem settle_otp (s : State) : (settle s).otp = s.otp := (rfl)
@[simp] theorem settle_upd (s : State) : (settle s).upd = s.upd := (rfl)
@[simp] theorem settle_cfg (s : State) : (settle s).cfg = s.cfg := (rfl)
@[simp] theorem settle_mem (s : State) : (settle s).mem = s.mem := (rfl)
@[simp] theorem settle_nv (s : State) : (settle s).nv = s.nv := (rfl)
@[simp] theorem settle_sto (s : State) : (settle s).sto = s.sto := (rfl)
@[simp] theorem settle_pwr (s : State) : (settle s).pwr = s.pwr := (rfl)
@[simp] theorem settle_seq (s : State) : (settle s).seq = s.seq := (rfl)
@[simp] theorem settle_log (s : State) : (settle s).log = s.log := (rfl)
@[simp] theorem settle_ctxs (s : State) : (settle s).ctxs = s.ctxs := (rfl)
@[simp] theorem settle_rtc (s : State) : (settle s).rtc = s.rtc := (rfl)
@[simp] theorem settle_evt (s : State) : (settle s).evt = s.evt := (rfl)
@[simp] theorem settle_sbp (s : State) : (settle s).sbp = s.sbp := (rfl)
@[simp] theorem settle_phy (s : State) : (settle s).phy = s.phy := (rfl)
@[simp] theorem settle_lnk (s : State) : (settle s).lnk = s.lnk := (rfl)
@[simp] theorem settle_chan (s : State) : (settle s).chan = s.chan := (rfl)
@[simp] theorem settle_out (s : State) : (settle s).out = s.out := (rfl)
@[simp] theorem settle_tt (s : State) : (settle s).tt = s.tt := (rfl)
@[simp] theorem settle_proof (s : State) : (settle s).proof = s.proof := (rfl)
@[simp] theorem settle_can (s : State) : (settle s).can = s.can := (rfl)
@[simp] theorem settle_srcs (s : State) : (settle s).srcs = s.srcs := (rfl)
@[simp] theorem settle_adc (s : State) : (settle s).adc = s.adc := (rfl)
@[simp] theorem settle_bkl (s : State) : (settle s).bkl = s.bkl := (rfl)
@[simp] theorem settle_flk (s : State) : (settle s).flk = s.flk := (rfl)
@[simp] theorem settle_flt (s : State) : (settle s).flt = s.flt := (rfl)
@[simp] theorem settle_lastStatus (s : State) : (settle s).lastStatus = s.lastStatus := (rfl)
@[simp] theorem settle_freeCount (s : State) : (settle s).freeCount = s.freeCount := (rfl)
@[simp] theorem settle_pending (s : State) : (settle s).pending = s.pending := (rfl)
@[simp] theorem ungate_phase (a : Nat) (s : State) : (ungate a s).ctl.phase = s.ctl.phase := (rfl)
@[simp] theorem ungate_reg (a b : Nat) (s : State) : (ungate a s).reg b = s.reg b := (rfl)
@[simp] theorem ungate_fld (a b l w : Nat) (s : State) : (ungate a s).fld b l w = s.fld b l w := (rfl)
@[simp] theorem ungate_flag (a b i : Nat) (s : State) : (ungate a s).flag b i = s.flag b i := (rfl)
@[simp] theorem settle_tags (s : State) : (settle s).txn.tags = s.txn.tags := (rfl)
@[simp] theorem settle_held (s : State) : (settle s).txn.held = s.txn.held := (rfl)
@[simp] theorem settle_lastS (s : State) : (settle s).txn.lastS = if s.signals then s.summaries else s.txn.lastS := (rfl)
@[simp] theorem settle_reg (s : State) (a : Nat) : (settle s).reg a = s.reg a := (rfl)
@[simp] theorem settle_fld (s : State) (a l w : Nat) : (settle s).fld a l w = s.fld a l w := (rfl)
@[simp] theorem settle_flag (s : State) (a i : Nat) : (settle s).flag a i = s.flag a i := (rfl)
@[simp] theorem settle_summaries (s : State) : (settle s).summaries = s.summaries := (rfl)

@[simp] theorem served_phase (g : BitVec 25) (s : State) : (served g s).ctl.phase = s.ctl.phase := (rfl)
@[simp] theorem served_status (g : BitVec 25) (s : State) : (served g s).lastStatus = stOk := (rfl)
@[simp] theorem served_reg (g : BitVec 25) (s : State) (a : Nat) : (served g s).reg a = s.reg a := (rfl)
@[simp] theorem served_fld (g : BitVec 25) (s : State) (a l w : Nat) : (served g s).fld a l w = s.fld a l w := (rfl)
@[simp] theorem served_flag (g : BitVec 25) (s : State) (a i : Nat) : (served g s).flag a i = s.flag a i := (rfl)
@[simp] theorem gatedAs_phase (g : BitVec 25) (s : State) : (gatedAs g s).ctl.phase = s.ctl.phase := (rfl)
@[simp] theorem gatedAs_reg (g : BitVec 25) (s : State) (a : Nat) : (gatedAs g s).reg a = s.reg a := (rfl)
@[simp] theorem gatedAs_fld (g : BitVec 25) (s : State) (a l w : Nat) : (gatedAs g s).fld a l w = s.fld a l w := (rfl)
@[simp] theorem gatedAs_flag (g : BitVec 25) (s : State) (a i : Nat) : (gatedAs g s).flag a i = s.flag a i := (rfl)
@[simp] theorem modChan_reg (s : State) (k a : Nat) (f : ChanSt → ChanSt) : (modChan k f s).reg a = s.reg a := (rfl)
@[simp] theorem modChan_fld (s : State) (k a l w : Nat) (f : ChanSt → ChanSt) : (modChan k f s).fld a l w = s.fld a l w := (rfl)
@[simp] theorem modChan_flag (s : State) (k a i : Nat) (f : ChanSt → ChanSt) : (modChan k f s).flag a i = s.flag a i := (rfl)

@[simp] theorem modPhy_reg (s : State) (k a : Nat) (f : PhySt → PhySt) : (modPhy k f s).reg a = s.reg a := (rfl)
@[simp] theorem modPhy_fld (s : State) (k a l w : Nat) (f : PhySt → PhySt) : (modPhy k f s).fld a l w = s.fld a l w := (rfl)
@[simp] theorem modPhy_flag (s : State) (k a i : Nat) (f : PhySt → PhySt) : (modPhy k f s).flag a i = s.flag a i := (rfl)

@[simp] theorem modLnk_reg (s : State) (k a : Nat) (f : LnkSt → LnkSt) : (modLnk k f s).reg a = s.reg a := (rfl)
@[simp] theorem modLnk_fld (s : State) (k a l w : Nat) (f : LnkSt → LnkSt) : (modLnk k f s).fld a l w = s.fld a l w := (rfl)
@[simp] theorem modLnk_flag (s : State) (k a i : Nat) (f : LnkSt → LnkSt) : (modLnk k f s).flag a i = s.flag a i := (rfl)

@[simp] theorem modOut_reg (s : State) (k a : Nat) (f : OutSt → OutSt) : (modOut k f s).reg a = s.reg a := (rfl)
@[simp] theorem modOut_fld (s : State) (k a l w : Nat) (f : OutSt → OutSt) : (modOut k f s).fld a l w = s.fld a l w := (rfl)
@[simp] theorem modOut_flag (s : State) (k a i : Nat) (f : OutSt → OutSt) : (modOut k f s).flag a i = s.flag a i := (rfl)

@[simp] theorem modTt_reg (s : State) (k a : Nat) (f : TtSt → TtSt) : (modTt k f s).reg a = s.reg a := (rfl)
@[simp] theorem modTt_fld (s : State) (k a l w : Nat) (f : TtSt → TtSt) : (modTt k f s).fld a l w = s.fld a l w := (rfl)
@[simp] theorem modTt_flag (s : State) (k a i : Nat) (f : TtSt → TtSt) : (modTt k f s).flag a i = s.flag a i := (rfl)

@[simp] theorem modCan_reg (s : State) (k a : Nat) (f : CanSt → CanSt) : (modCan k f s).reg a = s.reg a := (rfl)
@[simp] theorem modCan_fld (s : State) (k a l w : Nat) (f : CanSt → CanSt) : (modCan k f s).fld a l w = s.fld a l w := (rfl)
@[simp] theorem modCan_flag (s : State) (k a i : Nat) (f : CanSt → CanSt) : (modCan k f s).flag a i = s.flag a i := (rfl)

@[simp] theorem modCtx_reg (s : State) (k a : Nat) (f : Ctx → Ctx) : (modCtx k f s).reg a = s.reg a := (rfl)
@[simp] theorem modCtx_fld (s : State) (k a l w : Nat) (f : Ctx → Ctx) : (modCtx k f s).fld a l w = s.fld a l w := (rfl)
@[simp] theorem modCtx_flag (s : State) (k a i : Nat) (f : Ctx → Ctx) : (modCtx k f s).flag a i = s.flag a i := (rfl)

@[simp] theorem setQueue_reg (s : State) (n a : Nat) (q : List EvtEntry) : (setQueue n q s).reg a = s.reg a := (rfl)
@[simp] theorem setQueue_fld (s : State) (n a l w : Nat) (q : List EvtEntry) : (setQueue n q s).fld a l w = s.fld a l w := (rfl)
@[simp] theorem setQueue_flag (s : State) (n a i : Nat) (q : List EvtEntry) : (setQueue n q s).flag a i = s.flag a i := (rfl)


/-! ### Reading registers of a state written out -/

@[simp] theorem reg_mk (x_regs : Tab Word) (x_ctl : Ctl) (x_door : DoorSt) (x_otp : OtpSt) (x_upd : UpdSt)
    (x_cfg : Option Image) (x_mem : MemSt) (x_nv : NvSt) (x_sto : StoSt) (x_pwr : PwrSt) (x_seq : SeqSt)
    (x_log : LogSt) (x_ctxs : Tab Ctx) (x_rtc : RtcSt) (x_evt : EvtSt) (x_sbp : SbpSt) (x_phy : Tab PhySt)
    (x_lnk : Tab LnkSt) (x_txn : TxnSt) (x_chan : Tab ChanSt) (x_out : Tab OutSt) (x_tt : Tab TtSt)
    (x_proof : ProofSt) (x_can : Tab CanSt) (x_srcs : Tab Nat) (x_adc : AdcSt) (x_bkl : Tab Word) (x_flk :
    FlkSt) (x_flt : FltSt) (x_lastStatus : BitVec 4) (x_freeCount : Nat) (x_pending : List Instr) (a :
    Nat) : (State.mk x_regs x_ctl x_door x_otp x_upd x_cfg x_mem x_nv x_sto x_pwr x_seq x_log x_ctxs x_rtc
    x_evt x_sbp x_phy x_lnk x_txn x_chan x_out x_tt x_proof x_can x_srcs x_adc x_bkl x_flk x_flt
    x_lastStatus x_freeCount x_pending).reg a = tget (regReset a) x_regs a := (rfl)
@[simp] theorem fld_mk (x_regs : Tab Word) (x_ctl : Ctl) (x_door : DoorSt) (x_otp : OtpSt) (x_upd : UpdSt)
    (x_cfg : Option Image) (x_mem : MemSt) (x_nv : NvSt) (x_sto : StoSt) (x_pwr : PwrSt) (x_seq : SeqSt)
    (x_log : LogSt) (x_ctxs : Tab Ctx) (x_rtc : RtcSt) (x_evt : EvtSt) (x_sbp : SbpSt) (x_phy : Tab PhySt)
    (x_lnk : Tab LnkSt) (x_txn : TxnSt) (x_chan : Tab ChanSt) (x_out : Tab OutSt) (x_tt : Tab TtSt)
    (x_proof : ProofSt) (x_can : Tab CanSt) (x_srcs : Tab Nat) (x_adc : AdcSt) (x_bkl : Tab Word) (x_flk :
    FlkSt) (x_flt : FltSt) (x_lastStatus : BitVec 4) (x_freeCount : Nat) (x_pending : List Instr) (a l w :
    Nat) : (State.mk x_regs x_ctl x_door x_otp x_upd x_cfg x_mem x_nv x_sto x_pwr x_seq x_log x_ctxs x_rtc
    x_evt x_sbp x_phy x_lnk x_txn x_chan x_out x_tt x_proof x_can x_srcs x_adc x_bkl x_flk x_flt
    x_lastStatus x_freeCount x_pending).fld a l w = bits (tget (regReset a) x_regs a).toNat l w := (rfl)
@[simp] theorem flag_mk (x_regs : Tab Word) (x_ctl : Ctl) (x_door : DoorSt) (x_otp : OtpSt) (x_upd :
    UpdSt) (x_cfg : Option Image) (x_mem : MemSt) (x_nv : NvSt) (x_sto : StoSt) (x_pwr : PwrSt) (x_seq :
    SeqSt) (x_log : LogSt) (x_ctxs : Tab Ctx) (x_rtc : RtcSt) (x_evt : EvtSt) (x_sbp : SbpSt) (x_phy : Tab
    PhySt) (x_lnk : Tab LnkSt) (x_txn : TxnSt) (x_chan : Tab ChanSt) (x_out : Tab OutSt) (x_tt : Tab TtSt)
    (x_proof : ProofSt) (x_can : Tab CanSt) (x_srcs : Tab Nat) (x_adc : AdcSt) (x_bkl : Tab Word) (x_flk :
    FlkSt) (x_flt : FltSt) (x_lastStatus : BitVec 4) (x_freeCount : Nat) (x_pending : List Instr) (a i :
    Nat) : (State.mk x_regs x_ctl x_door x_otp x_upd x_cfg x_mem x_nv x_sto x_pwr x_seq x_log x_ctxs x_rtc
    x_evt x_sbp x_phy x_lnk x_txn x_chan x_out x_tt x_proof x_can x_srcs x_adc x_bkl x_flk x_flt
    x_lastStatus x_freeCount x_pending).flag a i = decide (bits (tget (regReset a) x_regs a).toNat i 1 =
    1) := (rfl)
@[simp] theorem tget_regs (s : State) (a : Nat) : tget (regReset a) s.regs a = s.reg a := (rfl)
@[simp] theorem bits_reg (s : State) (a l w : Nat) : bits (s.reg a).toNat l w = s.fld a l w := (rfl)
@[simp] theorem decide_fld (s : State) (a i : Nat) : decide (s.fld a i 1 = 1) = s.flag a i := (rfl)


end Sys2Proof.Laws
end

