-- ==== Sys2Proof/Laws/Access.lean ====
section
/-! SUPPORT. What a register access can do: it is held, refused, ignored, or carried out (R55, R105, R180). -/

namespace Sys2Proof.Laws

open Sys2Proof.Machine

/-- An access in its clock domain is its effect on the ungated state, but for the gating (R10). -/
theorem clocked_eq (a : Nat) (op : State → State) (s : State) : ∃ g, clocked a op s = gatedAs g (op (ungate a s)) := by
  unfold clocked regate
  split
  · exact ⟨_, rfl⟩
  · exact ⟨_, rfl⟩

/-- A register access does one of four things: it is held, refused, ignored, or carried out. -/
theorem regCmd_cases (t : Requester) (a : Nat) (w : Word) (op : Nat → Word → State → State) (s : State) :
    (s.holdsFor t = true ∧ regCmd t a w op s = holdReg t (BitVec.ofNat 32 a) w s) ∨
    (s.holdsFor t = false ∧ s.servesFor t = true ∧ ¬ s.takes t a ∧ regCmd t a w op s = { s with lastStatus := stPermission }) ∨
    (s.holdsFor t = false ∧ s.servesFor t = false ∧ regCmd t a w op s = s) ∨
    (s.takes t a ∧ regCmd t a w op s = clocked a (op (whoOf t) w) { s with lastStatus := stOk }) := by
  unfold regCmd State.takes
  cases s.holdsFor t <;> cases s.servesFor t <;> cases hw : s.mayWrite (whoOf t) a <;> cases s.sbpWrites <;>
    by_cases ht : t = 16 <;> simp [ht]

/-- An access that the block takes is carried out. -/
theorem regCmd_takes {t : Requester} {a : Nat} {s : State} (h : s.takes t a) (w : Word) (op : Nat → Word → State → State) :
    ∃ g g', regCmd t a w op s = gatedAs g' (op (whoOf t) w (served g s)) := by
  obtain ⟨h1, h2, h3, h4⟩ := h
  have e : regCmd t a w op s = clocked a (op (whoOf t) w) { s with lastStatus := stOk } := by
    by_cases ht : t = 16 <;> simp_all [regCmd]
  obtain ⟨g', hg⟩ := clocked_eq a (op (whoOf t) w) { s with lastStatus := stOk }
  exact ⟨(ungate a s).ctl.gated, g', e.trans hg⟩

/-- An access to the backup domain that the block takes is carried out. -/
theorem backupCmd_takes {t : Requester} {a : Nat} {s : State} (h : s.takesBackup t a) (w : Word)
    (op : Nat → Word → State → State) : ∃ g g', backupCmd t a w op s = gatedAs g' (op (whoOf t) w (served g s)) := by
  unfold State.takesBackup at h
  by_cases ht : t = 16
  · simp only [ht, if_true] at h
    refine ⟨s.ctl.gated, (op 0 w (served s.ctl.gated s)).ctl.gated, ?_⟩
    simp [backupCmd, ht, h, whoOf, served, gatedAs]
  · simp only [ht, if_false] at h
    obtain ⟨g, g', hg⟩ := regCmd_takes h w op
    exact ⟨g, g', by simp only [backupCmd, ht, if_false, hg]⟩

/-! ### Frames -/

theorem onlyRegs_refl (s : State) : s.onlyRegs s := ⟨_, _, _, _, _, _, rfl⟩

theorem onlyRegs_setReg {s t : State} (h : s.onlyRegs t) (a : Nat) (v : Word) : s.onlyRegs (t.setReg a v) := by
  obtain ⟨r, st, g, l, m, w, rfl⟩ := h; exact ⟨_, _, _, _, _, _, rfl⟩

theorem onlyRegs_setFld {s t : State} (h : s.onlyRegs t) (a l w x : Nat) : s.onlyRegs (t.setFld a l w x) :=
  onlyRegs_setReg h a _

theorem onlyRegs_setFlds {s : State} (a : Nat) (l : List (Nat × Nat × Nat)) {t : State} (h : s.onlyRegs t) :
    s.onlyRegs (t.setFlds a l) := by
  induction l generalizing t with
  | nil => exact h
  | cons e l ih => exact ih (onlyRegs_setFld h a e.1 e.2.1 e.2.2)

theorem onlyRegs_write {s t : State} (h : s.onlyRegs t) (a : Nat) (w : Word) : s.onlyRegs (t.write a w) :=
  onlyRegs_setReg h a _

theorem onlyRegs_served (s : State) (g : BitVec 25) : s.onlyRegs (served g s) := ⟨_, _, _, _, _, _, rfl⟩

theorem onlyRegs_gatedAs {s t : State} (h : s.onlyRegs t) (g : BitVec 25) : s.onlyRegs (gatedAs g t) := by
  obtain ⟨r, st, g', l, m, w, rfl⟩ := h; exact ⟨_, _, _, _, _, _, rfl⟩

theorem onlyRegs_raise {s t : State} (h : s.onlyRegs t) (a i : Nat) : s.onlyRegs (t.raise a i) := onlyRegs_setReg h a _

theorem onlyRegs_lower {s t : State} (h : s.onlyRegs t) (a i : Nat) : s.onlyRegs (t.lower a i) := onlyRegs_setReg h a _

theorem onlyRegs_bump {s t : State} (h : s.onlyRegs t) (a l w n : Nat) : s.onlyRegs (t.bump a l w n) :=
  onlyRegs_setReg h a _

theorem onlyRegs_settle {s t : State} (h : s.onlyRegs t) : s.onlyRegs (settle t) := by
  obtain ⟨r, st, g, l, m, w, rfl⟩ := h; exact ⟨_, _, _, _, _, _, rfl⟩

theorem sameRegs_refl (s : State) (l : List Nat) : s.sameRegs s l := fun _ _ => rfl

theorem sameRegs_setReg {s t : State} {l : List Nat} (h : s.sameRegs t l) {a : Nat} (ha : a ∈ l) (v : Word) :
    s.sameRegs (t.setReg a v) l := by
  intro b hb
  have hne : b ≠ a := fun e => hb (by rw [e]; exact ha)
  rw [reg_setReg_ne _ _ hne]; exact h b hb

theorem sameRegs_setFld {s t : State} {l : List Nat} (h : s.sameRegs t l) {a : Nat} (ha : a ∈ l) (i w x : Nat) :
    s.sameRegs (t.setFld a i w x) l := sameRegs_setReg h ha _

theorem sameRegs_setFlds {s : State} {l : List Nat} {a : Nat} (ha : a ∈ l) (f : List (Nat × Nat × Nat)) {t : State}
    (h : s.sameRegs t l) : s.sameRegs (t.setFlds a f) l := by
  induction f generalizing t with
  | nil => exact h
  | cons e f ih => exact ih (sameRegs_setFld h ha e.1 e.2.1 e.2.2)

theorem sameRegs_raise {s t : State} {l : List Nat} (h : s.sameRegs t l) {a : Nat} (ha : a ∈ l) (i : Nat) :
    s.sameRegs (t.raise a i) l := sameRegs_setReg h ha _

theorem sameRegs_lower {s t : State} {l : List Nat} (h : s.sameRegs t l) {a : Nat} (ha : a ∈ l) (i : Nat) :
    s.sameRegs (t.lower a i) l := sameRegs_setReg h ha _

theorem sameRegs_settle {s t : State} {l : List Nat} (h : s.sameRegs t l) : s.sameRegs (settle t) l := h

theorem sameRegs_served (s : State) (g : BitVec 25) (l : List Nat) : s.sameRegs (served g s) l := fun _ _ => rfl

theorem sameRegs_gatedAs {s t : State} {l : List Nat} (h : s.sameRegs t l) (g : BitVec 25) : s.sameRegs (gatedAs g t) l := h

theorem sameRegs_write {s t : State} {l : List Nat} (h : s.sameRegs t l) {a : Nat} (ha : a ∈ l) (w : Word) :
    s.sameRegs (t.write a w) l := sameRegs_setReg h ha _

/-- Every command ends with its summaries evaluated. -/
theorem settled_settle (s : State) : (settle s).settled := fun h => (settle_lastS s).trans (if_pos h)

/-- A command that ends in `finish t` completes in the settled `t`. -/
theorem yields_of_finish {c : Instr} {s t : State} {P : State → Prop} (h : exec c s = finish t) (p : P (settle t)) :
    Yields c s P := ⟨_, h, p⟩

theorem finish_eq (s : State) : finish s = .next (settle s) := rfl

end Sys2Proof.Laws
end

