-- ==== Sys2Proof/Laws/Memory.lean ====
section
/-! SUPPORT. Every operation over working memory and the NV array keeps both in their canonical form, and a byte written
is the byte read. -/

namespace Sys2Proof.Laws

open Sys2Proof.Machine

/-- Both memories are canonical. -/
def MemsWf (s : State) : Prop := s.memWf ∧ s.nvWf

theorem memsWf_of_eq {s t : State} (h : MemsWf s) (hm : t.mem.wm = s.mem.wm) (hn : t.nv.cells = s.nv.cells) :
    MemsWf t := by
  unfold MemsWf State.memWf State.nvWf at *
  rw [hm, hn]; exact h

theorem foldl_keeps {α β : Type} {P : β → Prop} {f : β → α → β} (hf : ∀ s a, P s → P (f s a)) (l : List α) {s : β}
    (h : P s) : P (l.foldl f s) := by
  induction l generalizing s with
  | nil => exact h
  | cons a l ih => exact ih (hf s a h)

theorem reset_memsWf : MemsWf State.reset := ⟨by unfold State.memWf; exact canon_nil _, by unfold State.nvWf; exact canon_nil _⟩

/-! ### Working memory -/

theorem putByte_memWf {s : State} (h : s.memWf) (a : Nat) (b : Byte) : (s.putByte a b).memWf :=
  canon_tset (d := fun _ => (0 : Byte)) h a b

theorem putByte_memsWf {s : State} (h : MemsWf s) (a : Nat) (b : Byte) : MemsWf (s.putByte a b) :=
  ⟨putByte_memWf h.1 a b, h.2⟩

/-- A byte written is the byte held, and every other byte is as before. -/
theorem putByte_wm (s : State) (a c : Nat) (b : Byte) :
    tget 0 (s.putByte a b).mem.wm c = if c = a then b else tget 0 s.mem.wm c := by
  unfold State.putByte
  simp only [tget_tset]

theorem restoreChunk_memsWf {s : State} (h : MemsWf s) (area : Bool) (a b : Nat) : MemsWf (restoreChunk area a b s) :=
  ⟨canon_tcopy (c := (0 : Byte)) h.1 h.2 _ _ _, h.2⟩

theorem fillRuns_memsWf {s : State} (h : MemsWf s) (rs : List FillRun) : MemsWf (fillRuns rs s) := by
  unfold fillRuns
  refine foldl_keeps (P := MemsWf) (fun s r h => ?_) rs h
  cases hk : r.kind with
  | toZero => exact ⟨canon_tcut (d := fun _ => (0 : Byte)) (t := s.mem.wm) h.1 _ _, h.2⟩
  | toRestore area =>
    have hc := foldl_keeps (P := MemsWf) (f := fun s (c : Nat × Nat) => restoreChunk area c.1 c.2 s)
      (fun s c h => restoreChunk_memsWf h area c.1 c.2) (blockChunks (r.lo * lineSize) (r.hi * lineSize)) h
    by_cases hl : s.otp.force.life = 3
    · simp only [hl, if_true]
      exact ⟨canon_tcut (d := fun _ => (0 : Byte)) (t := s.mem.wm) h.1 _ _, h.2⟩
    · simp only [hl, if_false]
      exact hc

theorem fillSpan_memsWf {s : State} (h : MemsWf s) (lo hi : Nat) : MemsWf (fillSpan lo hi s) := fillRuns_memsWf h _

theorem hkSuspend_memsWf {s : State} (h : MemsWf s) : MemsWf (hkSuspend s) := by
  unfold hkSuspend
  cases s.nv.hk <;> exact h

theorem touch_memsWf {s : State} (h : MemsWf s) (a n : Nat) : MemsWf (touch a n s) := by
  unfold touch
  by_cases hn : n = 0
  · simp only [hn, if_true]; exact h
  · rw [if_neg hn]
    by_cases he : (fillWithin s.mem.fill (a / lineSize) ((a + n - 1) / lineSize + 1)).isEmpty = true
    · simp only [he, if_true]; exact h
    · simp only [he]
      refine foldl_keeps (P := MemsWf) (fun s g h => fillRuns_memsWf h _) _ (fillSpan_memsWf ?_ _ _)
      split
      · exact h
      · exact hkSuspend_memsWf h

theorem eccCount_memsWf {s : State} (h : MemsWf s) (ws : List Nat) (t src : Nat) : MemsWf (eccCount ws t src s).2 := by
  unfold eccCount
  refine foldl_keeps (P := MemsWf) (f := fun s w => countUe (w * 16) t src s) (fun _ _ h => h) _ ?_
  exact foldl_keeps (P := MemsWf) (f := fun s w => correctWord w s) (fun _ _ h => h) _ h

/-- A write of working memory keeps both memories canonical. -/
theorem wmWrite_memsWf {s : State} (h : MemsWf s) (a : Nat) (data : List Byte) (t : Nat) :
    MemsWf (wmWrite a data t s).2.2 := by
  unfold wmWrite
  refine foldl_keeps (P := MemsWf) (fun s e h => ?_) _ ?_
  · split
    · exact h
    · exact putByte_memsWf h _ _
  · exact eccCount_memsWf (touch_memsWf h _ _) _ _ _

/-! ### The NV array -/

theorem nvProgram_memsWf {s : State} (h : MemsWf s) (o : Nat) (l : List Byte) : MemsWf (nvProgram o l s) := by
  unfold nvProgram
  split
  · exact ⟨h.1, foldl_keeps (P := Canon fun _ => (0 : Byte)) (fun _ _ ht => canon_tset (d := fun _ => (0 : Byte)) ht _ _) _ h.2⟩
  · exact h

theorem nvErase_wf {n : NvSt} (h : Memory.wf (fun _ => (0 : Byte)) n.cells) (lo hi : Nat) :
    Memory.wf (fun _ => (0 : Byte)) (nvErase lo hi n).cells := canon_tcut h lo hi

theorem eraseBlock_memsWf {s : State} (h : MemsWf s) (l : Nat) : MemsWf (eraseBlock l s) := by
  unfold eraseBlock
  simp only
  split
  · exact ⟨h.1, canon_tcut (d := fun _ => (0 : Byte)) (t := s.nv.cells) h.2 _ _⟩
  · exact h

theorem copyBlock_memsWf {s : State} (h : MemsWf s) (l t : Nat) : MemsWf (copyBlock l t s) :=
  ⟨h.1, canon_tcopy (c := (0 : Byte)) h.2 h.2 _ _ _⟩

theorem cloneGlyph_memsWf {s : State} (h : MemsWf s) (n : Nat) : MemsWf (cloneGlyph n s) := by
  unfold cloneGlyph
  refine foldl_keeps (P := MemsWf) (fun s k h => ?_) _ h
  simp only
  split
  · exact h
  · exact ⟨h.1, canon_tcopy (c := (0 : Byte)) (t := s.nv.cells) (src := s.nv.cells) h.2 h.2 _ _ _⟩

theorem storeChunk_memsWf {s : State} (h : MemsWf s) {m : MemSt} (hm : Memory.wf (fun _ => (0 : Byte)) m.wm) (a b : Nat) :
    MemsWf (storeChunk m a b s) := by
  unfold storeChunk
  simp only
  split
  · exact h
  · exact ⟨h.1, canon_tcopy (c := (0 : Byte)) h.2 hm _ _ _⟩

/-! ### Without VPP_NV nothing is programmed or erased (R490) -/

theorem nvProgram_vppOff {s : State} (h : s.vppOn = false) (o : Nat) (l : List Byte) : nvProgram o l s = s := by
  simp [nvProgram, h]

theorem eraseBlock_vppOff {s : State} (h : s.vppOn = false) (l : Nat) : eraseBlock l s = s := by
  simp [eraseBlock, h]

theorem storeChunk_vppOff {s : State} (h : s.vppOn = false) (m : MemSt) (a b : Nat) : storeChunk m a b s = s := by
  simp [storeChunk, h]

theorem jAppend_vppOff {s : State} (h : s.vppOn = false) (b : JBody) : jAppend b s = s := by
  simp [jAppend, h]

theorem checkpoint_vppOff {s : State} (h : s.vppOn = false) : checkpoint s = s := by
  simp [checkpoint, h]

/-! ### Operations that leave the contents of both memories -/

theorem loadMap_memsWf {s : State} (h : MemsWf s) : MemsWf (loadMap s) := h

theorem unwriteStart_memsWf {s : State} (h : MemsWf s) (w : StartWrites) : MemsWf (unwriteStart w s) := h

theorem hkRest_memsWf {s : State} (h : MemsWf s) : MemsWf (hkRest s) := by
  unfold hkRest
  split
  · exact hkSuspend_memsWf h
  · exact h

theorem hkGiveUp_memsWf {s : State} (h : MemsWf s) (ls : List Nat) : MemsWf (hkGiveUp ls s) := by
  unfold hkGiveUp
  split
  · split
    · exact h
    · exact h
  · exact h

end Sys2Proof.Laws
end

