-- ==== Sys2Proof/Laws/Report.lean ====
section
/-! SUPPORT. What a fault report of class 0 to 3 can do (R466 to R470): it counts, records and latches, and nothing else. -/

namespace Sys2Proof.Laws

open Sys2Proof.Machine

/-- From `s` to `t` only what a report below class 4 may change has changed. -/
def ReportFrame (s t : State) : Prop :=
  s.sameRegs t faultRegs ∧
    ∃ r f l c k, t = { s with regs := r, flt := f, log := l, ctxs := c, ctl := { s.ctl with recheck := k } }

theorem reportFrame_refl (s : State) : ReportFrame s s := ⟨sameRegs_refl _ _, _, _, _, _, _, rfl⟩

theorem reportFrame_trans {s t u : State} (h : ReportFrame s t) (k : ReportFrame t u) : ReportFrame s u := by
  obtain ⟨h1, r, f, l, c, k1, rfl⟩ := h
  obtain ⟨h2, r', f', l', c', k', rfl⟩ := k
  exact ⟨fun a ha => (h2 a ha).trans (h1 a ha), _, _, _, _, _, rfl⟩

theorem reportFrame_setReg (s : State) {a : Nat} (ha : a ∈ faultRegs) (v : Word) : ReportFrame s (s.setReg a v) :=
  ⟨sameRegs_setReg (sameRegs_refl _ _) ha v, _, _, _, _, _, rfl⟩

theorem reportFrame_setFld (s : State) {a : Nat} (ha : a ∈ faultRegs) (l w x : Nat) : ReportFrame s (s.setFld a l w x) :=
  reportFrame_setReg s ha _

theorem reportFrame_raise (s : State) {a : Nat} (ha : a ∈ faultRegs) (i : Nat) : ReportFrame s (s.raise a i) :=
  reportFrame_setReg s ha _

theorem log_mem : LOG_STAT ∈ faultRegs := by simp [faultRegs]
theorem safe_mem : FLT_SAFE ∈ faultRegs := by simp [faultRegs]
theorem last_mem : FLT_LAST ∈ faultRegs := by simp [faultRegs]
theorem istat_mem : FLT_ISTAT ∈ faultRegs := by simp [faultRegs]
theorem count_mem : FLT_COUNT ∈ faultRegs := by simp [faultRegs]

theorem seen_mem {n : Nat} (h : n < 128) : FLT_SEEN (n / 32) ∈ faultRegs := by
  have : n / 32 = 0 ∨ n / 32 = 1 ∨ n / 32 = 2 ∨ n / 32 = 3 := by omega
  rcases this with e | e | e | e <;> rw [e] <;> simp [faultRegs]

/-- A log record changes the log, and, where it overwrites one, windows and LOG_STAT.24. -/
theorem logWrite_cases (s : State) (ty : Nat) (d : List Byte) :
    ∃ l c, logWrite ty d s = { s with log := l, ctxs := c } ∨ logWrite ty d s = { s with log := l, ctxs := c }.raise LOG_STAT 24 := by
  unfold logWrite
  cases s.log.recs with
  | nil => exact ⟨_, _, .inl rfl⟩
  | cons o l =>
    by_cases h : 256 ≤ (o :: l).length
    · simp only [h, if_true]; exact ⟨_, _, .inr rfl⟩
    · simp only [h, if_false]; exact ⟨_, _, .inl rfl⟩

theorem reportFrame_logWrite (s : State) (ty : Nat) (d : List Byte) : ReportFrame s (logWrite ty d s) := by
  obtain ⟨l, c, e | e⟩ := logWrite_cases s ty d
  · rw [e]; exact ⟨sameRegs_refl _ _, _, _, _, _, _, rfl⟩
  · rw [e]
    exact reportFrame_trans (t := { s with log := l, ctxs := c }) ⟨sameRegs_refl _ _, _, _, _, _, _, rfl⟩
      (reportFrame_raise _ log_mem 24)

/-- A log record leaves every register but LOG_STAT alone. -/
theorem reg_logWrite {a : Nat} (ha : a ≠ LOG_STAT) (s : State) (ty : Nat) (d : List Byte) : (logWrite ty d s).reg a = s.reg a := by
  obtain ⟨l, c, e | e⟩ := logWrite_cases s ty d
  · rw [e]; rfl
  · rw [e, reg_raise_ne _ _ ha]; rfl

@[simp] theorem flt_logWrite (s : State) (ty : Nat) (d : List Byte) : (logWrite ty d s).flt = s.flt := by
  obtain ⟨l, c, e | e⟩ := logWrite_cases s ty d <;> simp only [e, raise_flt]

theorem reportFrame_countReport (s : State) {n : Nat} (hn : n < 128) : ReportFrame s (countReport s n) := by
  have h0 : ReportFrame s { s.bump FLT_COUNT 0 32 1 with
      flt := { counts := tset 0 s.flt.counts n (satAdd 16 (tget 0 s.flt.counts n) 1) } } :=
    ⟨sameRegs_setReg (sameRegs_refl s _) count_mem _, _, _, _, _, _, rfl⟩
  unfold countReport
  simp only
  split
  · exact h0
  · exact reportFrame_trans h0 (reportFrame_trans (reportFrame_raise _ (seen_mem hn) _) (reportFrame_logWrite _ _ _))

theorem reportFrame_latchChannels (s : State) (m n : Nat) : ReportFrame s (latchChannels m n s) := by
  unfold latchChannels
  simp only
  split
  · exact reportFrame_refl s
  · split
    · exact reportFrame_setFld s safe_mem _ _ _
    · exact reportFrame_trans (reportFrame_setFld s safe_mem _ _ _) (reportFrame_setFld _ safe_mem _ _ _)

theorem reportFrame_latchSafe (s : State) (n : Nat) : ReportFrame s (latchSafe n s) := by
  unfold latchSafe
  split
  · exact reportFrame_refl s
  · exact reportFrame_trans (reportFrame_setFld s safe_mem _ _ _) (reportFrame_trans (reportFrame_setFld _ safe_mem _ _ _)
      (reportFrame_trans (reportFrame_raise _ safe_mem _) (reportFrame_raise _ istat_mem _)))

theorem reportFrame_startRecheck (s : State) (l : List Nat) : ReportFrame s (startRecheck l s) := by
  unfold startRecheck
  split
  · exact ⟨sameRegs_refl _ _, _, _, _, _, _, rfl⟩
  · exact reportFrame_refl s

/-- A report of one known source is a report of that source alone. -/
theorem one_source {n : Nat} (hn : n < 128) (hs : (faultSource n).isSome = true) :
    (((List.range 128).filter fun m => (faultSource m).isSome).flatMap fun m => [n].filter (· = m)) = [n] := by
  have h : ∀ k : Fin 128, (faultSource k).isSome = true →
      (((List.range 128).filter fun m => (faultSource m).isSome).flatMap fun m => [k.val].filter (· = m)) = [k.val] := by
    decide +kernel
  exact h ⟨n, hn⟩ hs

/-- What a class below 4 of a report does once the report is counted and is the newest one. -/
def classEffect (c set by_ n : Nat) (s : State) : State :=
  let s := startRecheck [n] (if 1 ≤ c then s.raise FLT_ISTAT 0 else s)
  if c = 2 then latchChannels set by_ s
  else if c = 3 then latchSafe n s
  else s

/-- The class that a report applies is at most the class in force. -/
theorem appliedClass_le (s : State) (n : Nat) : s.appliedClass n ≤ s.faultClass n := by
  unfold State.appliedClass
  split <;> omega

/-- A report of one source below class 4: counted, then the newest, then its class. -/
theorem report_eq {s : State} {n : Nat} (hn : n < 128) (hs : (faultSource n).isSome = true) (hc : s.faultClass n ≤ 3) :
    ∃ set by_, report n s = classEffect (s.appliedClass n) set by_ n
      (((countReport s n).setFld FLT_LAST 0 7 n).setFld FLT_LAST 8 3 (s.faultClass n)) := by
  have h4 : s.appliedClass n ≠ 4 := by have := appliedClass_le s n; omega
  unfold report reportMany
  rw [one_source hn hs]
  simp only [List.map, List.foldl, List.find?, decide_true, Option.getD, Nat.zero_max, classEffect, h4, decide_false,
    Bool.false_and, if_false, Bool.false_eq_true]
  exact ⟨_, _, rfl⟩

/-- Registers but FLT_SAFE and FLT_ISTAT stay in what a class below 4 does. -/
theorem reg_classEffect (c : Nat) {a : Nat} (h1 : a ≠ FLT_SAFE) (h2 : a ≠ FLT_ISTAT) (set by_ n : Nat) (s : State) :
    (classEffect c set by_ n s).reg a = s.reg a := by
  have hr : ∀ (l : List Nat) (t : State), (startRecheck l t).reg a = t.reg a := by
    intro l t; unfold startRecheck; split <;> rfl
  have h0 : (startRecheck [n] (if 1 ≤ c then s.raise FLT_ISTAT 0 else s)).reg a = s.reg a := by
    rw [hr]; split
    · exact reg_raise_ne _ _ h2
    · rfl
  unfold classEffect
  generalize startRecheck [n] (if 1 ≤ c then s.raise FLT_ISTAT 0 else s) = x at h0 ⊢
  simp only
  split
  · unfold latchChannels
    simp only
    split
    · exact h0
    · split
      · rw [reg_setFld_ne _ _ _ _ h1]; exact h0
      · rw [reg_setFld_ne _ _ _ _ h1, reg_setFld_ne _ _ _ _ h1]; exact h0
  · split
    · unfold latchSafe
      split
      · exact h0
      · rw [reg_raise_ne _ _ h2, reg_raise_ne _ _ h1, reg_setFld_ne _ _ _ _ h1, reg_setFld_ne _ _ _ _ h1]; exact h0
    · exact h0

theorem flt_classEffect (c : Nat) (set by_ n : Nat) (s : State) : (classEffect c set by_ n s).flt = s.flt := by
  have hr : ∀ (l : List Nat) (t : State), (startRecheck l t).flt = t.flt := by
    intro l t; unfold startRecheck; split <;> rfl
  have h0 : (startRecheck [n] (if 1 ≤ c then s.raise FLT_ISTAT 0 else s)).flt = s.flt := by
    rw [hr]; split <;> rfl
  unfold classEffect
  generalize startRecheck [n] (if 1 ≤ c then s.raise FLT_ISTAT 0 else s) = x at h0 ⊢
  simp only
  split
  · unfold latchChannels
    simp only
    split
    · exact h0
    · split <;> exact h0
  · split
    · unfold latchSafe
      split <;> exact h0
    · exact h0

theorem reportFrame_classEffect (c : Nat) (set by_ n : Nat) (s : State) :
    ReportFrame s (classEffect c set by_ n s) := by
  have h0 : ReportFrame s (startRecheck [n] (if 1 ≤ c then s.raise FLT_ISTAT 0 else s)) := by
    refine reportFrame_trans ?_ (reportFrame_startRecheck _ _)
    split
    · exact reportFrame_raise _ istat_mem _
    · exact reportFrame_refl _
  unfold classEffect
  simp only
  split
  · exact reportFrame_trans h0 (reportFrame_latchChannels _ _ _)
  · split
    · exact reportFrame_trans h0 (reportFrame_latchSafe _ _)
    · exact h0

/-- The frame of a report below class 4. -/
theorem reportFrame_report {s : State} {n : Nat} (hn : n < 128) (hs : (faultSource n).isSome = true) (hc : s.faultClass n ≤ 3) :
    ReportFrame s (report n s) := by
  obtain ⟨a, b, e⟩ := report_eq (s := s) hn hs hc
  rw [e]
  exact reportFrame_trans (reportFrame_countReport s hn) (reportFrame_trans (reportFrame_setFld _ last_mem _ _ _)
    (reportFrame_trans (reportFrame_setFld _ last_mem _ _ _)
      (reportFrame_classEffect _ _ _ _ _)))

/-- What a report below class 4 records. -/
theorem reports_report {s : State} {n : Nat} (hn : n < 128) (hs : (faultSource n).isSome = true) (hc : s.faultClass n ≤ 3) :
    s.reports (report n s) n := by
  obtain ⟨x, y, e⟩ := report_eq (s := s) hn hs hc
  have hf := hc
  rw [e]
  have hseen : n / 32 = 0 ∨ n / 32 = 1 ∨ n / 32 = 2 ∨ n / 32 = 3 := by omega
  have n1 : FLT_SEEN (n / 32) ≠ FLT_SAFE ∧ FLT_SEEN (n / 32) ≠ FLT_ISTAT ∧ FLT_SEEN (n / 32) ≠ FLT_LAST ∧
      FLT_SEEN (n / 32) ≠ LOG_STAT ∧ FLT_SEEN (n / 32) ≠ FLT_COUNT := by
    rcases hseen with e | e | e | e <;> rw [e] <;> simp [FLT_SEEN, FLT_SAFE, FLT_ISTAT, FLT_LAST, LOG_STAT, FLT_COUNT]
  refine ⟨?_, ?_, ?_, ?_⟩
  · show decide (State.fld _ _ _ _ = 1) = true
    simp only [State.fld, reg_classEffect _ n1.1 n1.2.1]
    rw [reg_setFld_ne _ _ _ _ n1.2.2.1, reg_setFld_ne _ _ _ _ n1.2.2.1]
    show (countReport s n).flag (FLT_SEEN (n / 32)) (n % 32) = true
    unfold countReport
    simp only
    split
    · assumption
    · have : ∀ (t : State) (ty : Nat) (d : List Byte), (logWrite ty d t).flag (FLT_SEEN (n / 32)) (n % 32) =
          t.flag (FLT_SEEN (n / 32)) (n % 32) := by
        intro t ty d
        unfold State.flag State.fld
        rw [reg_logWrite n1.2.2.2.1]
      rw [this, flag_raise_same _ (by omega)]
  · simp only [State.fld, reg_classEffect _ (show FLT_LAST ≠ FLT_SAFE by decide) (show FLT_LAST ≠ FLT_ISTAT by decide)]
    show State.fld _ FLT_LAST 0 7 = n
    rw [fld_setFld_disjoint _ _ (by omega) (by omega), fld_setFld_same _ _ (by omega)]
    omega
  · simp only [State.fld, reg_classEffect _ (show FLT_LAST ≠ FLT_SAFE by decide) (show FLT_LAST ≠ FLT_ISTAT by decide)]
    show State.fld _ FLT_LAST 8 3 = _
    rw [fld_setFld_same _ _ (by omega)]
    omega
  · rw [flt_classEffect]
    show tget 0 (countReport s n).flt.counts n = _
    unfold countReport
    simp only
    split <;> simp [satAdd, tget_tset_same]

end Sys2Proof.Laws
end

