-- ==== Sys2Proof/Laws/Notice.lean ====
section
/-! SUPPORT. What a notice can change: flock messages queued (R439, R443), the presence frame loaded (R392); registers
outside the CAN blocks stay. -/

namespace Sys2Proof.Laws

open Sys2Proof.Machine

/-- From `s` to `t` only what a notice may change has changed. -/
def NoticeFrame (s t : State) : Prop :=
  (∀ a, blockOf a ≠ 64 → blockOf a ≠ 65 → t.reg a = s.reg a) ∧
    ∃ r f l h c k, t = { s with regs := r, flk := f, lnk := l, proof := { s.proof with holdoff := h, change := c, lastCodes := k } }

theorem noticeFrame_refl (s : State) : NoticeFrame s s := ⟨fun _ _ _ => rfl, _, _, _, _, _, _, rfl⟩

theorem noticeFrame_trans {s t u : State} (h : NoticeFrame s t) (k : NoticeFrame t u) : NoticeFrame s u := by
  obtain ⟨h1, r, f, l, o, c, k1, rfl⟩ := h
  obtain ⟨h2, r', f', l', o', c', k', rfl⟩ := k
  exact ⟨fun a ha hb => (h2 a ha hb).trans (h1 a ha hb), _, _, _, _, _, _, rfl⟩

theorem noticeFrame_flkSend (m : Nat) (b : List Byte) (s : State) : NoticeFrame s (flkSend m b s) := by
  unfold flkSend
  simp only
  generalize s.fyrdUp = l
  generalize (leBytes 1 m ++ [0] ++ leBytes 1 (if m = 1 then 1 else s.fld FLK_STAT 8 4) ++ leBytes 1 s.rank ++
    leBytes 4 ((s.flk.mseq + 1) % 2 ^ 32) ++ leBytes 8 s.otp.force.devid ++ b) = x
  have key : ∀ (l : List Nat) (t : State), NoticeFrame s t → NoticeFrame s (l.foldl (fun s p => flkQueue p x s) t) := by
    intro l
    induction l with
    | nil => exact fun t h => h
    | cons p l ih => exact fun t h => ih _ (noticeFrame_trans h ⟨fun _ _ _ => rfl, _, _, _, _, _, _, rfl⟩)
  exact key l _ ⟨fun _ _ _ => rfl, _, _, _, _, _, _, rfl⟩

theorem noticeFrame_sendTts (n : Nat) (l : List (Nat × Nat)) (s : State) : NoticeFrame s (sendTts n l s) := by
  induction n generalizing l s with
  | zero => exact noticeFrame_refl s
  | succ n ih =>
    unfold sendTts
    simp only
    split
    · exact noticeFrame_trans (noticeFrame_flkSend _ _ _) (ih _ _)
    · exact noticeFrame_flkSend _ _ _

theorem noticeFrame_sendTt (s : State) : NoticeFrame s (sendTt s) := by
  unfold sendTt
  exact noticeFrame_trans (t := { s with flk := { s.flk with lastTt := s.ttKey } }) ⟨fun _ _ _ => rfl, _, _, _, _, _, _, rfl⟩
    (noticeFrame_sendTts _ _ _)

theorem noticeFrame_sendState (d : Bool) (s : State) : NoticeFrame s (sendState d s) := by
  unfold sendState
  exact noticeFrame_trans (t := { s with flk := { s.flk with lastState := s.stateKey } })
    ⟨fun _ _ _ => rfl, _, _, _, _, _, _, rfl⟩ (noticeFrame_trans (noticeFrame_flkSend _ _ _) (noticeFrame_sendTt _))

theorem noticeFrame_setReg (s : State) {a : Nat} (h : blockOf a = 64 ∨ blockOf a = 65) (v : Word) :
    NoticeFrame s (s.setReg a v) := by
  refine ⟨fun b h1 h2 => reg_setReg_ne _ _ ?_, _, _, _, _, _, _, rfl⟩
  rintro rfl; omega

theorem noticeFrame_setFlds (s : State) {a : Nat} (h : blockOf a = 64 ∨ blockOf a = 65) (l : List (Nat × Nat × Nat)) :
    NoticeFrame s (s.setFlds a l) := by
  induction l generalizing s with
  | nil => exact noticeFrame_refl s
  | cons e l ih => exact noticeFrame_trans (noticeFrame_setReg s h _) (ih _)

theorem blockOf_mb {c n k : Nat} (hc : c < 2) (hn : n < 64) (hk : k < 20) :
    blockOf (CAN_MB c n k) = 64 ∨ blockOf (CAN_MB c n k) = 65 := by
  have h : CAN_MB c n k / 0x10000 = 32832 + c := by unfold CAN_MB; omega
  unfold blockOf; rw [h]; omega

theorem blockOf_mbCtrl {c n : Nat} (hc : c < 2) (hn : n < 64) :
    blockOf (CAN_MB_CTRL c n) = 64 ∨ blockOf (CAN_MB_CTRL c n) = 65 := by
  have h : CAN_MB_CTRL c n / 0x10000 = 32832 + c := by unfold CAN_MB_CTRL; omega
  unfold blockOf; rw [h]; omega

theorem noticeFrame_putBuffer {c n : Nat} (hc : c < 2) (hn : n < 64) (d : List Byte) (s : State) :
    NoticeFrame s (putBuffer c n d s) := by
  unfold putBuffer
  have key : ∀ (l : List Nat), (∀ k ∈ l, k < 16) → ∀ t, NoticeFrame s t →
      NoticeFrame s (l.foldl (fun s k => s.setReg (CAN_MB c n (3 + k))
        (BitVec.ofNat 32 (ofLe ((d.drop (4 * k)).take 4)))) t) := by
    intro l
    induction l with
    | nil => exact fun _ t h => h
    | cons k l ih =>
      intro hl t h
      refine ih (fun j hj => hl j (List.mem_cons_of_mem _ hj)) _ (noticeFrame_trans h (noticeFrame_setReg _ ?_ _))
      have := hl k List.mem_cons_self
      exact blockOf_mb hc hn (by omega)
  exact key _ (fun k hk => List.mem_range.mp hk) _ (noticeFrame_refl s)

theorem noticeFrame_loadPresence {c : Nat} (hc : c < 2) (s : State) : NoticeFrame s (loadPresence c s) := by
  unfold loadPresence
  cases s.canRec c with
  | none => exact noticeFrame_refl s
  | some r =>
    simp only
    split
    · exact noticeFrame_refl s
    · exact noticeFrame_trans (noticeFrame_setFlds _ (blockOf_mb hc (by omega) (by omega)) _)
        (noticeFrame_trans (noticeFrame_setReg _ (blockOf_mb hc (by omega) (by omega)) _)
          (noticeFrame_trans (noticeFrame_putBuffer hc (by omega) _ _)
            (noticeFrame_setReg _ (blockOf_mbCtrl hc (by omega)) _)))

theorem noticeFrame_queuePresence (s : State) : NoticeFrame s (queuePresence s) := by
  unfold queuePresence
  split
  · exact noticeFrame_trans (noticeFrame_trans (noticeFrame_loadPresence (by omega) s)
      (noticeFrame_loadPresence (c := 1) (by omega) _)) ⟨fun _ _ _ => rfl, _, _, _, _, _, _, rfl⟩
  · exact ⟨fun _ _ _ => rfl, _, _, _, _, _, _, rfl⟩

/-- The frame of a notice. -/
theorem noticeFrame_notice (s : State) : NoticeFrame s (notice s) := by
  unfold notice
  have h0 : NoticeFrame s (if s.fld FLK_STAT 0 2 = 0 then s
      else if s.flk.lastState ≠ s.stateKey then sendState false s
      else if s.joined && s.flk.lastTt ≠ s.ttKey then sendTt s else s) := by
    split
    · exact noticeFrame_refl s
    · split
      · exact noticeFrame_sendState _ _
      · split
        · exact noticeFrame_sendTt _
        · exact noticeFrame_refl s
  refine noticeFrame_trans h0 ?_
  generalize (if s.fld FLK_STAT 0 2 = 0 then s else if s.flk.lastState ≠ s.stateKey then sendState false s
      else if s.joined && s.flk.lastTt ≠ s.ttKey then sendTt s else s) = t
  simp only
  split
  · split
    · exact ⟨fun _ _ _ => rfl, _, _, _, _, _, _, rfl⟩
    · exact noticeFrame_queuePresence t
  · exact noticeFrame_refl t

end Sys2Proof.Laws
end

