-- ==== Sys2Proof/Laws/Reset.lean ====
section
/-! SUPPORT. What the resets clear and keep (Table 1-4, R18, R26). -/

namespace Sys2Proof.Laws

open Sys2Proof.Machine

/-- From `s` to `t` only the update state, the NV array and the free values drawn have changed. -/
def UpdOnly (s t : State) : Prop := ∃ u v n, t = { s with upd := u, nv := v, freeCount := n }

theorem updOnly_refl (s : State) : UpdOnly s s := ⟨_, _, _, rfl⟩

theorem updOnly_trans {s t r : State} (h : UpdOnly s t) (k : UpdOnly t r) : UpdOnly s r := by
  obtain ⟨u, v, n, rfl⟩ := h
  obtain ⟨u', v', n', rfl⟩ := k
  exact ⟨u', v', n', rfl⟩

theorem updOnly_free (s : State) (n : Nat) : UpdOnly s (s.free n).2 := ⟨_, _, _, rfl⟩
theorem updOnly_setRing (b : Bool) (l : List SelRec) (s : State) : UpdOnly s (setRing b l s) := ⟨_, _, _, rfl⟩
theorem updOnly_nv (s : State) (v : NvSt) : UpdOnly s { s with nv := v } := ⟨_, _, _, rfl⟩

theorem updOnly_ringErase (b : Bool) (s : State) : UpdOnly s (ringErase b s).2 := ⟨_, _, _, rfl⟩

theorem updOnly_ringPut (b : Bool) (r : SelRec) (s : State) : UpdOnly s (ringPut b r s).2 := by
  unfold ringPut
  by_cases hv : s.vppOn = true
  · by_cases h : s.ringErases b = true
    · simp only [hv, h, Bool.not_true, Bool.false_eq_true, if_false, if_true]
      split
      · exact updOnly_trans (updOnly_ringErase b s) (updOnly_setRing _ _ _)
      · exact updOnly_ringErase b s
    · simp only [hv, h, Bool.not_true, Bool.false_eq_true, if_false]
      exact updOnly_setRing _ _ _
  · simp only [hv, Bool.not_false, if_true, Bool.false_eq_true, if_false]
    exact updOnly_refl s

theorem updOnly_tearRing (b : Bool) (r : SelRec) (s : State) : UpdOnly s (tearRing b r s) := by
  unfold tearRing
  simp only
  split
  · exact updOnly_free _ _
  · split
    · split
      · exact ⟨_, _, _, rfl⟩
      · split
        · exact ⟨_, _, _, rfl⟩
        · exact ⟨_, _, _, rfl⟩
    · exact ⟨_, _, _, rfl⟩

theorem updOnly_tearWrite (r : SelRec) (s : State) : UpdOnly s (tearWrite r s) := by
  unfold tearWrite
  simp only
  split
  · exact updOnly_free s 4
  · split
    · exact updOnly_trans (updOnly_free s 4) (updOnly_tearRing _ _ _)
    · split
      · exact updOnly_trans (updOnly_free s 4) (updOnly_trans (updOnly_ringPut _ _ _) (updOnly_tearRing _ _ _))
      · exact updOnly_trans (updOnly_free s 4) (updOnly_ringPut _ _ _)

theorem updOnly_ringPuts (l : List (Bool × SelRec)) (s : State) :
    UpdOnly s (l.foldl (fun s e => (ringPut e.1 e.2 s).2) s) := by
  induction l generalizing s with
  | nil => exact updOnly_refl s
  | cons e l ih => exact updOnly_trans (updOnly_ringPut e.1 e.2 s) (ih _)

theorem updOnly_unwriteStart (w : StartWrites) (s : State) : UpdOnly s (unwriteStart w s) := ⟨_, _, _, rfl⟩

theorem updOnly_tearStart (s : State) : UpdOnly s (tearStart s) := by
  unfold tearStart
  split
  · exact updOnly_refl s
  · rename_i w _
    simp only
    split
    · exact updOnly_free _ _
    · have h := updOnly_trans (updOnly_free s (2 * w.recs.length + 1)) (updOnly_trans (updOnly_unwriteStart w _)
        (updOnly_ringPuts (w.recs.take (((s.free (2 * w.recs.length + 1)).1 - 1) / 2)) _))
      split
      · split
        · exact updOnly_trans h (updOnly_tearRing _ _ _)
        · exact h
      · exact h

theorem updOnly_nvProgram (o : Nat) (l : List Byte) (s : State) : UpdOnly s (nvProgram o l s) := by
  unfold nvProgram
  split
  · exact updOnly_nv _ _
  · exact updOnly_refl s

theorem updOnly_apertureDiscard (s : State) : UpdOnly s (apertureDiscard s) := by
  unfold apertureDiscard
  simp only
  have h : ∀ (l : List (Nat × Nat)) (t : State), UpdOnly s t →
      UpdOnly s (l.foldl (fun s r => nvProgram (s.apertureAt r.1) (List.replicate (r.2 - r.1) 0) s) t) := by
    intro l
    induction l with
    | nil => intro t h; exact h
    | cons e l ih => intro t h; exact ih _ (updOnly_trans h (updOnly_nvProgram _ _ _))
  exact h _ _ ⟨_, _, _, rfl⟩

/-- What a reset meets of an update operation changes the update state, the NV array and the free values drawn alone. -/
theorem updTorn_eq (s : State) : UpdOnly s (updTorn s) := by
  unfold updTorn
  split
  · exact updOnly_tearWrite _ _
  · split
    · exact updOnly_tearStart s
    · split
      · exact updOnly_apertureDiscard s
      · exact updOnly_refl s

@[simp] theorem clearCore_reg (s : State) (a : Nat) : (clearCore s).reg a = s.reg a := by
  obtain ⟨u, v, n, e⟩ := updTorn_eq s
  unfold clearCore
  simp only [e]
  rfl

theorem clearCore_eq (s : State) : ∃ u v n, clearCore s = { s with
    phy := [], lnk := [], txn := TxnSt.reset, chan := [], out := [], tt := [], proof := ProofSt.reset, can := [],
    srcs := [], adc := AdcSt.reset, bkl := [], flk := FlkSt.reset, flt := { counts := [] }, door := DoorSt.reset,
    pwr := { PwrSt.reset with holdArea := s.pwr.holdArea, canDetect := s.pwr.canDetect }, upd := u, nv := v,
    freeCount := n } := by
  obtain ⟨u, v, n, e⟩ := updTorn_eq s
  unfold clearCore
  simp only [e]
  exact ⟨_, _, _, rfl⟩

/-- Registers after a cold reset: the backup domain keeps its own, every other one is at reset (Table 1-4). -/
theorem clearCold_reg (s : State) (a : Nat) : (clearCold s).reg a = if isBackup a then s.reg a else regReset a := by
  obtain ⟨u, v, n, e⟩ := clearCore_eq s
  unfold clearCold
  simp only [e]
  show tget (regReset a) (s.regs.filter fun e => isBackup e.1) a = _
  rw [tget_filter]; rfl

/-- What a cold reset leaves besides registers: the backup domain and OTP (Table 1-4). -/
theorem clearCold_frame (s : State) : (clearCold s).rtc = s.rtc ∧ (clearCold s).evt = s.evt ∧ (clearCold s).log = s.log ∧
    (clearCold s).ctxs = s.ctxs ∧ (clearCold s).sbp = s.sbp ∧ (clearCold s).otp.array = s.otp.array ∧ (clearCold s).mem = MemSt.reset ∧
    (clearCold s).cfg = none ∧ (clearCold s).ctl.phase = .reset ∧ (clearCold s).ctl.path = .cold := by
  obtain ⟨u, v, n, e⟩ := clearCore_eq s
  unfold clearCold
  simp only [e]
  simp

theorem foldl_setReg_reg (l : List Nat) (f : Nat → Word) (s : State) {a : Nat} (h : a ∉ l) :
    (l.foldl (fun s b => s.setReg b (f b)) s).reg a = s.reg a := by
  induction l generalizing s with
  | nil => rfl
  | cons b l ih =>
    simp only [List.mem_cons, not_or] at h
    rw [List.foldl_cons, ih _ h.2, reg_setReg_ne _ _ h.1]

theorem foldl_setReg_eq (l : List Nat) (f : Nat → Word) (s : State) :
    ∃ r, l.foldl (fun s b => s.setReg b (f b)) s = { s with regs := r } := by
  induction l generalizing s with
  | nil => exact ⟨_, rfl⟩
  | cons b l ih => obtain ⟨r, e⟩ := ih (s.setReg b (f b)); exact ⟨r, e⟩

theorem setFld_eq (s : State) (a l w x : Nat) : ∃ r, s.setFld a l w x = { s with regs := r } := ⟨_, rfl⟩

theorem setFlds_eq (a : Nat) (f : List (Nat × Nat × Nat)) (s : State) : ∃ r, s.setFlds a f = { s with regs := r } := by
  induction f generalizing s with
  | nil => exact ⟨_, rfl⟩
  | cons e f ih => obtain ⟨r, h⟩ := ih (s.setFld a e.1 e.2.1 e.2.2); exact ⟨r, h⟩

/-- Registers after a warm reset (Table 1-4). -/
theorem clearWarm_reg (s : State) {a : Nat} (h1 : a ∉ sluiceConfig) (h2 : a ≠ STO_DET) (h3 : a ≠ SEQ_STAT)
    (h4 : a ≠ STO_STAT) (h5 : a ≠ NVH_STAT) (h6 : a ≠ STR_BERR_INFO) :
    (clearWarm s).reg a = if keptWarm a then s.reg a else regReset a := by
  unfold clearWarm
  simp only [State.setFlds, List.foldl]
  rw [reg_setFld_ne _ _ _ _ h3, reg_setFld_ne _ _ _ _ h5, reg_setFld_ne _ _ _ _ h4, reg_setFld_ne _ _ _ _ h6, reg_setFld_ne _ _ _ _ h2, reg_setFld_ne _ _ _ _ h2, foldl_setReg_reg _ _ _ h1]
  show tget (regReset a) (s.regs.filter fun e => keptWarm e.1) a = _
  rw [tget_filter]; rfl

/-- What a warm reset leaves besides registers. -/
theorem clearWarm_eq (s : State) : ∃ r u v n, clearWarm s = { s with
    regs := r, phy := [], lnk := [], txn := TxnSt.reset, chan := [], out := [], tt := [], proof := ProofSt.reset, can := [],
    srcs := [], adc := AdcSt.reset, bkl := [], flk := FlkSt.reset, flt := { counts := [] }, door := DoorSt.reset,
    pwr := { PwrSt.reset with holdArea := s.pwr.holdArea, canDetect := s.pwr.canDetect }, upd := u, nv := v,
    freeCount := n, seq := SeqSt.reset, sto := { s.sto with heldWrites := [], heldReads := [] },
    ctl := { s.ctl with phase := .reset, path := .warm, warmDeferred := 0, warmAfterExit := 0, clockReset := false, gated := 0,
                        lossOver := false } } := by
  obtain ⟨u, v, n, e⟩ := clearCore_eq s
  unfold clearWarm
  simp only [e]
  obtain ⟨r, e2⟩ := foldl_setReg_eq sluiceConfig regReset { s with
    regs := s.regs.filter fun e => keptWarm e.1, phy := [], lnk := [], txn := TxnSt.reset, chan := [], out := [], tt := [], proof := ProofSt.reset, can := [],
    srcs := [], adc := AdcSt.reset, bkl := [], flk := FlkSt.reset, flt := { counts := [] }, door := DoorSt.reset,
    pwr := { PwrSt.reset with holdArea := s.pwr.holdArea, canDetect := s.pwr.canDetect }, upd := u, nv := v,
    freeCount := n, seq := SeqSt.reset, sto := { s.sto with heldWrites := [], heldReads := [] },
    ctl := { s.ctl with phase := .reset, path := .warm, warmDeferred := 0, warmAfterExit := 0, clockReset := false, gated := 0,
                        lossOver := false } }
  rw [e2]
  obtain ⟨r2, e3⟩ := setFlds_eq STO_DET [(0, 10, 0x230), (16, 10, 0x20)] { s with
    regs := r, phy := [], lnk := [], txn := TxnSt.reset, chan := [], out := [], tt := [], proof := ProofSt.reset, can := [],
    srcs := [], adc := AdcSt.reset, bkl := [], flk := FlkSt.reset, flt := { counts := [] }, door := DoorSt.reset,
    pwr := { PwrSt.reset with holdArea := s.pwr.holdArea, canDetect := s.pwr.canDetect }, upd := u, nv := v,
    freeCount := n, seq := SeqSt.reset, sto := { s.sto with heldWrites := [], heldReads := [] },
    ctl := { s.ctl with phase := .reset, path := .warm, warmDeferred := 0, warmAfterExit := 0, clockReset := false, gated := 0,
                        lossOver := false } }
  simp only [e3]
  exact ⟨_, u, v, n, rfl⟩

/-- A warm reset that no HALT holds back: causes added, those deferred among them, the core in reset on the warm path
(R17, R19, R26). -/
theorem doWarm_spec {s : State} {c : Nat} (h : s.ctl.halted = false) (hc : (c ||| s.ctl.warmDeferred) &&& causeMonitor = 0)
    (hp : s.otp.prog = none) : doWarm c s = clearWarm (addCause (c ||| s.ctl.warmDeferred) s) := by
  unfold doWarm
  simp [h, hc, otpAbort, hp]

/-- Time on SMO is all that its tick changes (R478). -/
theorem smoTick_eq (s : State) : ∃ n, smoTick s = { s with ctl := { s.ctl with smo := n } } := by
  unfold smoTick
  split
  · exact ⟨_, rfl⟩
  · exact ⟨s.ctl.smo, rfl⟩

end Sys2Proof.Laws
end

