-- ==== Sys2Proof/Machine/Pins.lean ====
section
/-! DEFINITION. What the pairs of a panel output carry (17, Tables 17-1, 17-4, 17-5, 17-6, R359, R363, R368, R369), the cycles
of a backlight output (20, Backlight outputs, R431) and the levels of the outputs of VDDIO1 and VDDIO2 (R491), as functions of
the state, which holds no copy of them. -/

namespace Sys2Proof.Machine

/-- What one pair of an output does (Table 17-6). -/
inductive PairDrive where
  | off | electricalIdle | training | video
deriving DecidableEq, Repr

/-- Drive of every pair in use, by the state of the output stage (Table 17-6). (log 169 PRESUMED) -/
def stageDrive (st : Nat) : PairDrive :=
  if st = outWaitHpd ∨ st = outRetry then .electricalIdle
  else if st = outTraining then .training
  else if st = outVideo ∨ st = outLvds then .video
  else .off

/-! ### eDP -/

/-- A bit of physical pair `p` as it is sent, 12 for the AUX pair: OUT_INV inverts each marked pair (R369). -/
def State.pairBit (s : State) (n p : Nat) (b : Bool) : Bool := b != bit (s.outOf n).inv.toNat p

/-- The physical pair of eDP lane `k`: the map in effect, or the identity where it is no permutation (R369).
(log 169 PRESUMED) -/
def State.edpPair (s : State) (n k : Nat) : Nat :=
  let w := (s.outOf n).lane
  if mapOk (s.outLanes n) w then bits w.toNat (2 * k) 2 else k

/-- What lane `k` sends: its physical pair and the bits on it, in the polarity of that pair (R369).
(log 169 PRESUMED) -/
def State.edpLane (s : State) (n k : Nat) (b : List Bool) : Nat × List Bool :=
  (s.edpPair n k, b.map (s.pairBit n (s.edpPair n k)))

/-- The main stream attributes of a channel (R363, VESA DisplayPort). -/
structure Msa where
  htotal : Nat
  vtotal : Nat
  hstart : Nat
  vstart : Nat
  hsyncLow : Bool
  hsync : Nat
  vsyncLow : Bool
  vsync : Nat
  hactive : Nat
  vactive : Nat
  misc0 : Nat
  misc1 : Nat
deriving DecidableEq, Repr

/-- The MSA that the timing of a channel gives: starts count from the leading edge of sync; RGB at 10 bits per
component. (log 169 PRESUMED) -/
def msaOf (r : ChannelRec) : Msa :=
  { htotal := hTotal r, vtotal := vTotal r, hstart := r.hsync + r.hbp, vstart := r.vsync + r.vbp,
    hsyncLow := !bit r.flags 0, hsync := r.hsync, vsyncLow := !bit r.flags 1, vsync := r.vsync,
    hactive := r.hactive, vactive := r.vactive, misc0 := 0x40, misc1 := 0 }

/-! ### Pairs in use (Tables 17-1, 17-6, R359, R376) -/

/-- The mode of output `n` uses pair D`p` (Table 17-1). (log 169 PRESUMED) -/
def State.pairUsed (s : State) (n p : Nat) : Bool :=
  if s.outMode n = 0 then (List.range (s.outLanes n)).any fun k => s.edpPair n k = p
  else if s.outMode n = 1 then p ≠ 4 && p ≠ 10 && p < 12
  else p < 12

/-- Drive of pair D`p`: a pair that the mode does not use is off in every state. (log 169 PRESUMED) -/
def State.pairDrive (s : State) (n p : Nat) : PairDrive := if s.pairUsed n p then stageDrive (s.outState n) else .off

/-- What the AUX pair does (Table 17-6). -/
inductive AuxDrive where
  | off | ready | transactions
deriving DecidableEq, Repr

/-- Drive of the AUX pair: idle in LVDS mode (Table 17-1), high-impedance in IDLE. (log 169 PRESUMED) -/
def State.auxDrive (s : State) (n : Nat) : AuxDrive :=
  if s.outMode n ≠ 0 ∨ s.outState n = outIdle then .off
  else if s.outState n = outWaitHpd ∨ s.outState n = outRetry then .ready
  else .transactions

/-! ### LVDS (R368) -/

/-- Bits `hi`, `hi - 1`, … of `v`, `n` of them, as slots. -/
def slots (v hi n : Nat) : List Bool := (List.range n).map fun i => bit v (hi - i)

/-- Slots 0 to 6 of data lanes 0 to 3 or 4 of one link for an egress pixel (Tables 17-4, 17-5): the eight most
significant bits of each component on lanes 0 to 3, the two others of 10 on lane 4. -/
def lvdsData (d8 : Bool) (px : Nat) (hs vs de : Bool) : List (List Bool) :=
  let c := fun k => if d8 then bits px (8 * k) 8 else bits px (10 * k + 2) 8
  let low := fun k => bits px (10 * k) 2
  let r := c 2
  let g := c 1
  let b := c 0
  [slots r 7 6 ++ slots g 7 1, slots g 6 5 ++ slots b 7 2, slots b 5 4 ++ [hs, vs, de],
    slots r 1 2 ++ slots g 1 2 ++ slots b 1 2 ++ [false]] ++
    if d8 then [] else [slots (low 2) 1 2 ++ slots (low 1) 1 2 ++ slots (low 0) 1 2 ++ [false]]

/-- Slots of a link clock. -/
def lvdsClock : List Bool := [true, true, false, false, false, true, true]

/-- HS at pixel `x` of a line, VS in line `y`, DE: from the timing and the polarities of the record (R338, R368). -/
def lvdsSync (r : ChannelRec) (x y : Nat) : Bool × Bool × Bool :=
  let hs := decide (r.hactive + r.hfp ≤ x ∧ x < r.hactive + r.hfp + r.hsync)
  let vs := decide (r.vactive + r.vfp ≤ y ∧ y < r.vactive + r.vfp + r.vsync)
  (hs == bit r.flags 0, vs == bit r.flags 1, decide (x < r.hactive ∧ y < r.vactive))

/-- The data lanes of link A (pixel at even `x`) or B (odd `x`) at position `x` of line `y`, where the egress pixel is
`px`; every component slot carries 0 in blanking. -/
def State.lvdsLink (s : State) (n : Nat) (r : ChannelRec) (x y px : Nat) : List (List Bool) :=
  let (hs, vs, de) := lvdsSync r x y
  lvdsData (s.outMode n = 1) (if de then px else 0) hs vs de

/-- Pairs D0 to D5 or D6 to D11 of one link: data lanes, an idle pair for a lane that the mode does not use, the clock;
REV reverses the order of the data lanes (Table 17-1, R369). -/
def linkPairs (rev : Bool) (l : List (List Bool)) : List (Option (List Bool)) :=
  let l := if rev then l.reverse else l
  (l.map some ++ List.replicate (5 - l.length) none) ++ [some lvdsClock]

/-- The slots on pairs D0 to D11 of an LVDS output in one link clock period, which carries the pixels at the even
position `x` and at `x + 1` of line `y`, whose layer stages gave `even` and `odd`; black where the channel does not
compose (R373); `none`: the pair is idle (R368, R369). (log 169 PRESUMED, 206 DESIGN CHOICE) -/
def State.lvdsPairs (s : State) (n : Nat) (r : ChannelRec) (x y even odd : Nat) : List (Option (List Bool)) :=
  let w := (s.outOf n).lane
  let a := linkPairs (bit w.toNat 17) (s.lvdsLink n r x y (s.outPixel n x y even))
  let b := linkPairs (bit w.toNat 17) (s.lvdsLink n r (x + 1) y (s.outPixel n (x + 1) y odd))
  let p := if bit w.toNat 16 then b ++ a else a ++ b
  p.zipIdx.map fun e => e.1.map (·.map (s.pairBit n e.2))

/-! ### Backlight outputs (20) -/

/-- DIV as a locked output uses it: the nearest one whose frequency lies from 200 Hz to 40 kHz (R431).
(log 188 DESIGN CHOICE) -/
def divUsed (r : ChannelRec) (d : Nat) : Nat :=
  let f := frameRate r
  if f.1 * d < 200 * f.2 then (200 * f.2 + f.1 - 1) / f.1 else if 40000 * f.2 < f.1 * d then 40000 * f.2 / f.1 else d

/-- Length of cycle `k` of a locked output in pixel clocks: the last cycle of the frame takes up the remainder.
(log 188 DESIGN CHOICE) -/
def lockedCycle (r : ChannelRec) (d k : Nat) : Nat :=
  let n := hTotal r * vTotal r
  if k + 1 = d then n - n / d * (d - 1) else n / d

/-- The start of cycle `k` of a locked output that divides each frame into `d`, in pixel clocks from the frame start:
cycle 0 starts PHASE lines after it (20, Backlight outputs). (log 188 DESIGN CHOICE) -/
def lockedStart (r : ChannelRec) (phase d k : Nat) : Nat := phase * hTotal r + k * (hTotal r * vTotal r / d)

/-- The cycle of locked output `b` that runs at pixel clock `x` of a frame of its channel, and the time in it; before
cycle 0 the last cycles of the frame before go on. (log 188 DESIGN CHOICE) -/
def State.lockedAt (s : State) (b : Nat) (r : ChannelRec) (x : Nat) : Nat × Nat :=
  let n := hTotal r * vTotal r
  let d := s.bklFld (BKL_CTRL b) 8 8
  let y := (x + n - s.bklFld (BKL_CTRL b) 16 12 * hTotal r % n) % n
  let k := min (y / (n / d)) (d - 1)
  (k, y - k * (n / d))

/-- Length of a cycle of a free-running output in units of 10 ns (R431). (log 188 DESIGN CHOICE) -/
def freeCycle (per : Nat) : Nat := max 2500 (min 500000 per)

/-- The part of a cycle in which an output is active: length times DUTY over 1,023, rounded. (log 188 DESIGN CHOICE) -/
def activePart (len duty : Nat) : Nat := (2 * len * duty + 1023) / 2046

/-- What BKLn drives at time `x` of a cycle of length `len`, while it runs or not; POL 1 is active low.
(log 188 DESIGN CHOICE) -/
def State.bklLevel (s : State) (b len x : Nat) : Option Bool :=
  let active := s.flag BKL_STAT b && decide (x < activePart len (s.bklFld (BKL_DUTY b) 0 10))
  s.pinOut (.bkl b) (active != (s.bklFld (BKL_CTRL b) 2 1 = 1))

/-! ### CAN and the test access port (R403, R419, R491) -/

/-- What CANc_TX drives where the protocol engine of the controller sends `level`, recessive being true: recessive while
it takes no part in bus traffic. (log 28 DESIGN CHOICE) -/
def State.canTxPin (s : State) (c : Nat) (level : Bool) : Option Bool := s.pinOut (.canTx c) (level || !s.canOnline c)

/-- What CANc_TX drives in the ACK slot of frame `f` on the bus (R403). (log 28 DESIGN CHOICE) -/
def State.ackSlot (s : State) (c : Nat) (f : CanFrame) : Option Bool := s.canTxPin c (!s.acknowledges c f)

/-- What TDO drives where the test access port shifts `level` out, and releases between shifts.
(log 28 DESIGN CHOICE) -/
def State.tdoPin (s : State) (shifts level : Bool) : Option Bool := if shifts then s.pinOut .tdo level else none

/-! ### Outputs of the sequencer and the interrupt pins (R198, R327, R491) -/

/-- What SEQ_ENn, DISn and INTn_N drive; INTn_N is an open drain, released while no tenant asks for it (R327). -/
def State.seqEnPin (s : State) (n : Nat) : Option Bool := s.pinOut (.seqEn n) (s.enabled n)
def State.disPin (s : State) (n : Nat) : Option Bool := s.pinOut (.dis n) (s.seq.dis.getLsbD n)
def State.intPin (s : State) (n : Nat) : Option Bool := if bit s.intPins n then s.pinOut (.intN n) false else none

end Sys2Proof.Machine
end

