-- ==== Sys2Proof/Machine/Receive.lean ====
section
/-! DEFINITION. The receive side of a link port's coding path (13, Coding path, R269 to R274, R277): marker hits,
descrambling, lane order, the RS(136,128) decoder and the parts of a flit. The rows of the ports carry what these functions
give of the line, so no step reads them. -/

namespace Sys2Proof.Machine

/-! ### Line bits to symbols -/

/-- Descramble received bits: the data bits and the register after them (R272). -/
def descramble (r : BitVec 58) : List Bool → List Bool × BitVec 58
  | [] => ([], r)
  | x :: xs =>
    let (ds, r') := descramble ((r <<< 1) ||| (if x then 1 else 0)) xs
    ((x ^^ r.getLsbD 38 ^^ r.getLsbD 57) :: ds, r')

/-- Ten-bit symbols of `n` groups of bits, each bit 0 first (R271). -/
def bitSymbols : Nat → List Bool → List Nat
  | 0, _ => []
  | n + 1, l => ((l.take 10).zipIdx.map fun e => b2n e.1 * 2 ^ e.2).sum :: bitSymbols n (l.drop 10)

/-- At least 14 of the first 16 symbols of `l` are those of the marker block of a LID symbol (R274). -/
def marksLid (lid : Nat) (l : List Nat) : Bool :=
  14 ≤ ((l.take 16).zipIdx.filter fun e => e.1 = [0x329, 0x0D6, lid, lid ^^^ 0x3FF].getD (e.2 % 4) 0).length

/-- The LID symbols of a port with `k` lanes, data and training mode (Table 13-2). -/
def lidSymbols (k : Nat) : List Nat := ((List.range k).map (lidSymbol false k)) ++ (List.range k).map (lidSymbol true k)

/-- The marker hit of a lane at an offset whose next symbols are `l`: its LID and whether it arrived complemented.
(log 131 DESIGN CHOICE) -/
def markerHit (k : Nat) (l : List Nat) : Option LaneHit :=
  let no := l.map (· ^^^ 0x3FF)
  match (lidSymbols k).find? fun lid => marksLid lid l with
  | some lid => some { lid := BitVec.ofNat 10 lid, inverted := false }
  | none => ((lidSymbols k).find? fun lid => marksLid lid no).map fun lid => { lid := BitVec.ofNat 10 lid, inverted := true }

/-- The bits of the logical lanes of port `p` from those of its physical lanes: PHY_LANEMAP names the physical lane of
each, and the lanes whose marker arrives complemented are inverted (R277). (log 131 DESIGN CHOICE) -/
def State.logicalLanes (s : State) (p : Nat) (phys : List (List Bool)) : List (List Bool) :=
  let map := (s.reg (PHY_LANEMAP p)).toNat
  (List.range (s.portLanes p)).map fun n =>
    let k := bits map (2 * n) 2
    let l := phys.getD k []
    if bit map (8 + k) then l.map (!·) else l

/-- The 136 symbols of a codeword from the symbols of its `k` logical lanes (R271). -/
def mergeLanes (k : Nat) (lanes : List (List Nat)) : List Nat :=
  (List.range 136).map fun t => (lanes.getD (t % k) []).getD (t / k) 0

/-! ### The decoder (R270): corrects up to 4 symbols -/

/-- α to the power `n`. -/
def gfAlpha : Nat → Nat
  | 0 => 1
  | n + 1 => gfTimesA (gfAlpha n)

def gfSquare (a : Nat) : Nat := gfMul a a

/-- The inverse of a field element that is not 0: its 1,022nd power. -/
def gfInv (a : Nat) : Nat :=
  ((List.range 9).foldl (fun (e : Nat × Nat) _ => (gfSquare e.1, gfMul e.2 (gfSquare e.1))) (a, 1)).2

/-- Value of a polynomial, lowest coefficient first. -/
def gfEval (p : List Nat) (x : Nat) : Nat := p.foldr (fun c v => c ^^^ gfMul v x) 0

/-- The eight syndromes of a word in transmission order: its values at α to the powers 0 to 7. -/
def syndromes (cw : List Nat) : List Nat :=
  [1, 2, 4, 8, 16, 32, 64, 128].map fun r => cw.foldl (fun v c => gfMul r v ^^^ c) 0

/-- Sum of two polynomials. -/
def polyAdd : List Nat → List Nat → List Nat
  | [], q => q
  | p, [] => p
  | a :: p, b :: q => (a ^^^ b) :: polyAdd p q

/-- The search for the shortest recurrence of the syndromes: locator, previous locator, length, distance, discrepancy.
-/
structure Locator where
  c : List Nat
  b : List Nat
  len : Nat
  gap : Nat
  last : Nat
deriving DecidableEq, Repr

/-- One step of it, at syndrome `n`. -/
def locatorStep (s : List Nat) (k : Locator) (n : Nat) : Locator :=
  let d := ((List.range (k.len + 1)).map fun i => if i ≤ n then gfMul (k.c.getD i 0) (s.getD (n - i) 0) else 0).foldl (· ^^^ ·) 0
  if d = 0 then { k with gap := k.gap + 1 }
  else
    let f := gfMul d (gfInv k.last)
    let c := polyAdd k.c (List.replicate k.gap 0 ++ k.b.map (gfMul f))
    if 2 * k.len ≤ n then { c := c, b := k.c, len := n + 1 - k.len, gap := 1, last := d } else { k with c := c, gap := k.gap + 1 }

/-- The error locator of eight syndromes. -/
def locator (s : List Nat) : Locator :=
  (List.range 8).foldl (locatorStep s) { c := [1], b := [1], len := 0, gap := 1, last := 1 }

/-- The first eight coefficients of syndromes times locator. -/
def evaluator (s c : List Nat) : List Nat :=
  (List.range 8).map fun n => ((List.range (n + 1)).map fun i => gfMul (c.getD i 0) (s.getD (n - i) 0)).foldl (· ^^^ ·) 0

/-- The error at coefficient `e` of a word, where the locator has the root α to the power -e. -/
def errorAt (s c : List Nat) (e : Nat) : Nat :=
  let x := gfAlpha e
  let y := gfInv x
  let slope := gfEval ((List.range 4).flatMap fun i => [c.getD (2 * i + 1) 0, 0]) y
  gfMul x (gfMul (gfEval (evaluator s c) y) (gfInv slope))

/-- Decode 136 received symbols in transmission order: the 128 data symbols and how many symbols were corrected, or none
where the codeword is uncorrectable. (log 131 DESIGN CHOICE) -/
def rsDecode (cw : List Nat) : Option (List Nat × Nat) :=
  let s := syndromes cw
  if s.all (· = 0) then some (cw.take 128, 0)
  else
    let k := locator s
    let es := (List.range 136).filter fun e => gfEval k.c (gfInv (gfAlpha e)) = 0
    let w := cw.zipIdx.map fun a => if es.contains (135 - a.2) then a.1 ^^^ errorAt s k.c (135 - a.2) else a.1
    if k.len ≤ 4 ∧ es.length = k.len ∧ (syndromes w).all (· = 0) then some (w.take 128, es.length) else none

/-- The 160 bytes of 128 data symbols (R269). -/
def symbolBytes (d : List Nat) : List Byte :=
  leBytes 160 (d.zipIdx.map fun e => e.1 * 2 ^ (10 * e.2)).sum

/-! ### The parts of a flit (Tables 14-1 to 14-3, R290) -/

/-- The ack and credit field. -/
def ackOf (v : Nat) : AckField :=
  { ackSeq := BitVec.ofNat 10 v, ackV := bit v 10, nakSeq := BitVec.ofNat 10 (bits v 11 10), nakV := bit v 21,
    snap := bit v 22, init := bit v 23, credReq := BitVec.ofNat 12 (bits v 24 12), credRsp := BitVec.ofNat 12 (bits v 36 12) }

/-- The flit in 160 decoded bytes, if it is good: its CRC matches and its LENGTH is at most 144 (R290).
(log 131 DESIGN CHOICE) -/
def flitOf (l : List Byte) : Option Flit :=
  let h := ofLe (l.take 6)
  let n := bits h 19 8
  if ofLe (l.drop 156) ≠ crc32c (l.take 156) ∨ 144 < n then none
  else some
    { type := BitVec.ofNat 4 h, vc := bit h 4, tenant := ⟨bits h 5 4 % 16, Nat.mod_lt _ (by decide)⟩,
      seq := BitVec.ofNat 10 (bits h 9 10), initDone := bit h 27, ack := ackOf (ofLe ((l.drop 6).take 6)),
      payload := (l.drop 12).take n }

end Sys2Proof.Machine
end

