-- ==== Sys2Proof/Tests/Slice0.lean ====
section
/-! SUPPORT. Tests: small states, ill-formed commands that the checks refuse, results that the spec prints, and for every
statement with hypotheses states and operands that meet them. -/

namespace Sys2Proof.Tests

open Sys2Proof Sys2Proof.Machine

set_option Elab.async false

/-! ### Small states -/

/-- A TENANT record with every right. -/
def tenantAll (t : Nat) : TenantRec :=
  { tenant := t, portMask := 3, tagQuota := 16, creditQuota := 16, intPin := t % 4, flags := 3, regRd := 2 ^ 128 - 1,
    regWr := 2 ^ 128 - 1 }

/-- A CHANNEL record without layers. -/
def chan0 : ChannelRec :=
  { channel := 0, outMode := 0, edpLanes := 1, edpRate := 0, pixclk := 10000, hactive := 64, hfp := 8, hsync := 8,
    hbp := 8, vactive := 16, vfp := 2, vsync := 2, vbp := 2, fill := 0, layerCount := 0, flags := 0, bkl := 0xFF,
    bklDelay := 0, bklSettle := 0, railMask := 0, layers := [] }

/-- A small image: T0 and T1 with every right, T2 with none, one Class A region of T1, one channel without layers. -/
def img : Image :=
  { version := 1, len := 4096, glyphHash := [], digest := List.replicate 32 7,
    tenants := [tenantAll 0, tenantAll 1, { tenantAll 2 with flags := 0, regWr := 0, regRd := 0 }],
    regions := [{ base := 0, size := 4096, owner := 1, cls := 0, priority := 0, shareRd := 0, shareWr := 0, flags := 2 }],
    channels := [chan0],
    telltales := [], rails := [], canctls := [], canmaps := [], ladder := none, flock := none, links := [], trims := [],
    bounds := [], faults := [], palettes := [] }

/-- The device configured with `i` and serving in P0. -/
def runWith (i : Image) : State :=
  ({ State.reset with
    ctl := { Ctl.reset with phase := .run, porHigh := true, railsOk := true }, cfg := some i,
    otp := { OtpSt.reset with force := { OtpForce.reset with life := 1, devid := 5, rank := 0 } },
    mem := { MemSt.reset with fill := [] } } : State).setFld PWR_STAT 0 3 0

def run : State := runWith img

/-- The bytes of a signed structure image of 512 bytes, as runs (offset, length, bytes as one number): header, TENANT 0,
a disabled REGION, LADDER, trailer. Made from chapter 3 with a signer of its own, outside the model (private key 1). -/
def signedRuns : List (Nat × Nat × Nat) :=
  [(0x0, 7, 0x80000149535243),
   (0x9, 1, 0x2),
   (0xc, 1, 0x3),
   (0x10, 1, 0x7),
   (0x14, 3, 0xb04816),
   (0x78, 13, 0xc0000101013dc6f38adf01ea3c),
   (0x88, 1, 0x30),
   (0x8c, 7, 0x1010251a2ac37),
   (0x95, 1, 0x1),
   (0x98, 1, 0x20),
   (0x9c, 10, 0x14000010108a73fb2a5),
   (0xa8, 1, 0x20),
   (0xac, 4, 0x930db95e),
   (0xc1, 6, 0xff0010001001),
   (0x106, 1, 0x1),
   (0x144, 8, 0x40742328000f4240),
   (0x180, 128,
    0xdebd9929be3ab0d11da5a57d940181ab2da96aab2da962bef13a8ccb4092dcf96b17d1f2e12c4247f8bce6e563a440f277037d812deb33a0f4 * 2 ^ 568 +
    0xa13945d898c2964fe342e2fe1a7f9b8ee7eb4a7c0f9e162bce33576b315ececbb6406837bf51f56b17d1f2e12c4247f8bce6 * 2 ^ 168 +
    0xe563a440f277037d812deb33a0f4a13945d898c296)]

/-- The image in the NV array at `base`. -/
def signedCells (base : Nat) : Tab Byte :=
  signedRuns.flatMap fun e =>
    ((List.range e.2.1).map fun i => (base + e.1 + i, BitVec.ofNat 8 (bits e.2.2 (8 * i) 8))).filter fun e => e.2 ≠ 0

/-- Pair A holds the signed image and is both the one that a start verifies and the inactive one of an update. -/
def signed : State :=
  { run with
    ctl := { run.ctl with phase := .verify false false false, path := .restore },
    nv := { NvSt.reset with cells := signedCells 0x8000000 },
    upd := { UpdSt.reset with
      op := .verify false,
      ring0 := [{ gen := 1, active := true, state := 0, bootsLeft := 0, version := 0, versionPrev := 0, cause := 0, ok := true, junk := 0 }] } }

theorem toSigned_ge (v : Nat) : -2048 ≤ toSigned 12 v := by unfold toSigned; split <;> omega

/-! ### Ill-formed commands are refused -/

def longFlit : Flit :=
  { type := 1, vc := false, tenant := 1, seq := 0, initDone := true,
    ack := { ackSeq := 0, ackV := false, nakSeq := 0, nakV := false, snap := false, init := false, credReq := 0, credRsp := 0 },
    payload := List.replicate 145 0 }

def longReq : ReqPacket := { vc := false, tenant := 1, payload := List.replicate 145 0 }

/-- A standard frame with an identifier of 12 bits. -/
def wideId : CanFrame :=
  { id := 0x800, ide := false, fdf := false, brs := false, esi := false, dlc := 1, remote := false, data := [1] }

theorem test_wf_refuses :
    ([.clockCheckWindow [some 1, none], .apertureWrite 0 0 (List.replicate 129 0) true, .readRequest 0 longReq,
      .writeRequest 0 longReq, .atomicRequest 0 longReq, .classARestoreDone [0x400000], .backgroundRestore 0 [0x400000],
      .railWindowFault [], .sbpRead [0x20, 0, 0, 0, 1, 0, 0, 0, 0] 1, .sbpRead [0x10, 0, 0] 1, .sbpWrite [0x20, 0, 0, 0, 1],
      .sbpWrite [0x10, 0, 0, 0, 1], .alignCandidate 0 (List.replicate 5 { lid := 0, inverted := false }) true,
      .trainingRecord 0 [] false, .lockAcquired 0 true [{ hit := true, decoded := 65, corrected := 0 }], .flitReceived 0 longFlit false, .flitReceived 0 { longFlit with payload := [] } false,
      .nullFlitReceived 0 longFlit false .between, .frameStart 0 [], .frameStart 0 (List.replicate 8 [{ code := 0, rail := false, count := 0 }]), .auxTransactionDone 0 (.ack (List.replicate 17 0)),
      .canFrameReceived 0 wideId 0 [] none, .canFrameReceived 0 { wideId with id := 1, data := [] } 0 [] none,
      .canFrameReceived 0 { wideId with id := 1, brs := true } 0 [] none, .canFrameReceived 0 { wideId with id := 1, remote := true } 0 [] none,
      .flkHello 0 (List.replicate 145 0), .flkState 0 (List.replicate 145 0) none, .flkTt 0 (List.replicate 145 0),
      .flkTime 0 (List.replicate 145 0), .flkRoleReq 0 (List.replicate 145 0), .flkRoleAck 0 (List.replicate 145 0),
      .arbBwWindow [], .alsWindowEnd 0 []] : List Instr).all (fun c => !c.wf) = true := by decide +kernel

theorem test_wf_accepts :
    ([.clockCheckWindow (List.replicate 25 none), .apertureWrite 0 0 [1] true, .readRequest 0 { longReq with payload := [] },
      .sbpRead [0x10, 0, 0, 0, 1] 1, .sbpRead [0x18, 0, 0, 0, 1, 0] 1, .sbpWrite [0x20, 0, 0, 4, 1, 1, 2, 3, 4],
      .canFrameReceived 0 { wideId with id := 0x7FF } 0 [] none, .arbBwWindow (List.replicate 7 (0, 0))] : List Instr).all
      Instr.wf = true := by decide +kernel

/-! ### Results that the spec prints -/

def ascii9 : List Byte := (List.range 9).map fun i => BitVec.ofNat 8 (0x31 + i)

/-- R46 (03), R204 (10) and R251 (12): the check values of the three CRCs. -/
theorem test_crc : crc32c ascii9 = 0xE3069283 ∧ crc16 0xFFFF ascii9 = 0x29B1 ∧ crc8 0x2F 0xFF 0xFF ascii9 = 0xDF := by
  decide +kernel

/-- 11, worked case: 978,393,614 s is Thursday 2031-01-02 00:00:14. -/
theorem test_calendar : calDate 978393614 = 0x40310102 ∧ calTime 978393614 = 0x14 := by decide +kernel

/-- 11, worked case: OTP values of the board and its temperature of -20 °C. -/
def cold : State :=
  (({ run with otp := { run.otp with force := { run.otp.force with turnover := 2500, coeff := 3400, offset := 1200 } } } :
    State).setFld RTC_CFG 0 2 3).setFld RTC_TRIM_STAT 16 12 0xFB0

/-- 11, worked case: N is 60 and RTC_TRIM_STAT reads 0x0FB0_003C. -/
theorem test_trim : cold.trimWanted = 60 ∧ (trimStart cold).reg RTC_TRIM_STAT = 0x0FB0003C := by decide +kernel

/-- 16, worked case, One pixel. -/
theorem test_pixel :
    expand 4 0x80FF4000 (fun _ => 0) = pix 514 1023 257 0 ∧
      blend 1023 (expand 4 0x80FF4000 fun _ => 0) (pix 1023 100 200 300) = pix 1023 564 229 149 := by decide +kernel

/-- 04 and 07, worked cases: a hold-up of 1,000 µF, VHOLD_MIN 9 V, VHOLD_MAX 16.5 V. -/
def board : State := (run.setReg STO_HOLD 1000000).setReg STO_VLIM 0x40742328

/-- 07, worked case: 87.40 mJ at code 853 and 37.47 mJ at code 666, in units of 10 µJ, and P_decl is 9.25 W (units of
1/32 fJ and 0.1 µs). -/
theorem test_energy :
    (board.energyOf 853 + 160000000000) / 320000000000 = 8740 ∧ (board.energyOf 666 + 160000000000) / 320000000000 = 3747 ∧
      board.pDecl.1 = 925 * 32000000 * board.pDecl.2 := by decide +kernel

/-- 16 and 20, worked cases: the reference panel. -/
def panel : ChannelRec :=
  { chan0 with pixclk := 93100, hactive := 1920, hfp := 48, hsync := 32, hbp := 80, vactive := 720, vfp := 10, vsync := 4, vbp := 12 }

/-- 20, worked case: cycles of 48,490 pixel clocks, active for 24,269 of them. -/
theorem test_backlight :
    hTotal panel = 2080 ∧ vTotal panel = 746 ∧ divUsed panel 32 = 32 ∧ lockedCycle panel 32 0 = 48490 ∧
      activePart 48490 512 = 24269 := by decide +kernel

/-- 15, worked case: the TAG error of T2's RD with tag 90 sets TXN_ERR_LAST to 0x005A_1028. -/
theorem test_err_last : (noteError 0 tyRd 2 [0, 0, 0, 0, 90, 0, 1, 0] 8 run).reg TXN_ERR_LAST = 0x005A1028 := by decide +kernel

/-- 03, worked case: T3's write of 40 to BKL0's duty, whose minimum is 64, is rejected: STR_BERR_INFO reads 0x0001_0033
and the duty stays. -/
def bounded : State :=
  runWith { img with
    tenants := img.tenants ++ [tenantAll 3],
    bounds := [{ addr := 0x80510010, lsb := 0, width := 10, writers := 0x0A, min := 64, max := 1023 }] }

theorem test_bound :
    (match execRegisterWrite 3 0x80510010 40 0 bounded with
      | .next t => (t.reg STR_BERR_INFO, t.reg 0x80510010 == bounded.reg 0x80510010)
      | _ => (0, false)) = (0x00010033, true) := by decide +kernel

/-- 12, worked case: in P6 the frame 10 00 00 00 01 is answered by E0 48 16 B0 00, and 10 80 00 00 01 by E4. -/
def shelf : State :=
  (({ State.reset with
    ctl := { Ctl.reset with phase := .off, pmicOn := false }, sbp := { SbpSt.reset with open_ := true } } : State).setFld
      PWR_STAT 0 3 6)

def answer (f : List Byte) (s : State) : List Byte :=
  match execSbpRead f 1 s with
  | .next t => t.sbp.resp
  | _ => []

theorem test_sideband :
    answer [0x10, 0, 0, 0, 1] shelf = [0xE0, 0x48, 0x16, 0xB0, 0x00] ∧ answer [0x10, 0x80, 0, 0, 1] shelf = [0xE4] := by
  decide +kernel

/-- Table 17-4: R 0x81 at depth 8 puts R7, R2 on the first and sixth slot of lane 0 and R1, R0 on lane 3. -/
theorem test_lvds :
    lvdsData true 0x810000 false false true =
      [[true, false, false, false, false, false, false], [false, false, false, false, false, false, false],
        [false, false, false, false, false, false, true], [false, true, false, false, false, false, false]] := by decide +kernel

/-- How many balls carry `b`. -/
def ballCount (b : Ball) : Nat :=
  ((List.range 43).map fun i => ((List.range 43).filter fun j => ballAt i j = some b).length).sum

/-- Table 25-8: the counts of the supplies and of all balls (the rest are signals). -/
theorem test_ball_counts :
    [Ball.vss, .vddCore, .vddMem, .vddaPhy, .vddPhy, .vddNv, .vppNv, .vddAdc, .vddio2, .vddio1, .vbk, .vddioBk].map ballCount =
      [866, 210, 104, 86, 70, 34, 12, 6, 5, 2, 2, 1] ∧
    ((List.range 43).map fun i => ((List.range 43).filter fun j => (ballAt i j).isSome).length).sum = 1700 := by
  decide +kernel

/-- 25, Edges and worked case: no ball R12, AR5 or W20; OUT0 pair D1 is at A8 and B8, ILV0_TX0 at F1 and F2. -/
theorem test_balls :
    ball "R" 12 = none ∧ ball "AR" 5 = none ∧ ball "W" 20 = none ∧
      ball "A" 8 = some (.signal (.outD 0 1 false)) ∧ ball "B" 8 = some (.signal (.outD 0 1 true)) ∧
      ball "F" 1 = some (.signal (.ilvTx 0 0 false)) ∧ ball "F" 2 = some (.signal (.ilvTx 0 0 true)) := by decide +kernel

/-- 14, Tables 14-1 to 14-3: a flit survives its bytes; R274: markers. -/
def wireFlit : Flit :=
  { type := 3, vc := true, tenant := 7, seq := 511, initDone := true,
    ack := { ackSeq := 5, ackV := true, nakSeq := 700, nakV := true, snap := true, init := false, credReq := 77, credRsp := 3000 },
    payload := [1, 2, 3, 200, 255] }

theorem test_flit_bytes : flitOf (flitBytes wireFlit) = some wireFlit := by decide +kernel

theorem test_markers :
    markerHit 4 (markerBlock true 4 2) = some { lid := 0x24A, inverted := false } ∧
      markerHit 4 ((markerBlock false 4 1).map (· ^^^ 0x3FF)) = some { lid := 0x149, inverted := true } := by decide +kernel

/-- R464 (22): the lowest class is granted, and within it the oldest request. -/
theorem test_arb_grant : arbGrant [(2, 0), (1, 5), (1, 3), (4, 1)] = some (1, 3) := by decide

/-- R421 (20): the second rail sense of its converter has slots 1 and 26, the first of the other one 0 and 25. -/
theorem test_rail_slots :
    (let r (slot sense : Nat) : RailRec :=
      { slot := slot, upOrder := 0, downOrder := 0, senseKind := 0, sense := sense, dis := 0, riseWindow := 0, vLo := 0, vHi := 0,
        delay := 0, disTimeout := 0 }
     let s := runWith { img with rails := [r 2 3, r 5 16, r 7 1] }
     ([0, 1, 2, 25, 26, 27].map fun i => (s.slotTable 0 0).getD i 0, [0, 1, 25].map fun i => (s.slotTable 1 0).getD i 0)) =
      ([3, 1, 41, 3, 1, 41], [16, 41, 16]) := by decide +kernel

/-- The readers of pair A and the records that a parse of it gives. -/
def rdA : Reader := signed.structReader false
def glA : Reader := signed.glyphReader false
def tabA : List SectEntry := sectTable rdA
def imgA : Image := parseImage rdA

theorem signed_head : (headChecks rdA tabA).findSome? id = none := by decide +kernel
theorem signed_crc : crcChecks rdA tabA = none := by decide +kernel
theorem signed_len : u32 rdA 8 = 512 := by decide +kernel
theorem signed_key : keyOk signed.otp.force rdA 512 = true := by decide +kernel
theorem signed_signature : signatureOk rdA 512 imgA.digest = true := by decide +kernel
theorem signed_fields : fieldChecks rdA tabA imgA = none := by decide +kernel
theorem signed_cross : (crossChecks signed.otp.force tabA imgA ++ glyphChecks tabA imgA glA ++
    boundChecks signed.otp.force signed.regs tabA imgA).findSome? id = none := by decide +kernel

/-- The signed image passes every check of Table 3-16. -/
theorem test_signed_image : signed.verifyPair false = .inr imgA := by
  show verifyImage signed.otp.force signed.regs rdA glA = .inr (parseImage rdA)
  have h1 : (headChecks rdA (sectTable rdA)).findSome? id = none := signed_head
  have h2 : crcChecks rdA (sectTable rdA) = none := signed_crc
  have h4 : signatureOk rdA 512 (parseImage rdA).digest = true := signed_signature
  have h5 : fieldChecks rdA (sectTable rdA) (parseImage rdA) = none := signed_fields
  have h6 : (crossChecks signed.otp.force (sectTable rdA) (parseImage rdA) ++ glyphChecks (sectTable rdA) (parseImage rdA) glA ++
    boundChecks signed.otp.force signed.regs (sectTable rdA) (parseImage rdA)).findSome? id = none := signed_cross
  unfold verifyImage
  simp only [h1, h2, signed_len, signed_key, h4, h5, h6]
  rfl

/-! ### The hypotheses of each statement are met -/

set_option linter.unusedVariables false

theorem witness_CountersClear :
    (∃ (s : State) (t : Requester) (w : Word), s.takes t MEM_ECC_CTRL ∧ w.getLsbD 0 = true) ∧
    (∃ (s : State) (t : Requester) (w : Word), s.takes t TXN_CLR ∧ w.getLsbD 0 = true) ∧
    (∃ (s : State) (t : Requester) (p : Port) (w : Word), s.takes t (PHY_CLR p) ∧ w.getLsbD 0 = true) ∧
    (∃ (s : State) (t : Requester) (p : Port) (w : Word), s.takes t (LNK_CTRL p) ∧ w.getLsbD 0 = false ∧ w.getLsbD 1 = true) ∧
    (∃ (s : State) (t : Requester) (n : Fin 4) (w : Word), s.takes t (CH_CLR n) ∧ w.getLsbD 0 = true) ∧
    (∃ (s : State) (t : Requester) (n : Fin 4) (w : Word), s.takes t (OUT_CLR n) ∧ w.getLsbD 0 = true) ∧
    (∃ (s : State) (t : Requester) (c : Fin 2) (w : Word), s.takes t (CAN_CTRL c) ∧ w.getLsbD 0 = true) ∧
    (∃ (s : State) (t : Requester) (w : Word), s.takes t ARB_CLR ∧ w.getLsbD 0 = true) := by
  refine ⟨?_, ?_, ?_, ?_, ?_, ?_, ?_, ?_⟩
  · exact ⟨run.setReg MEM_ECC_CNT 0x30005, 0, 1, by unfold State.takes; decide +kernel⟩
  · exact ⟨(run.setReg TXN_CNT 0x30005).setReg TXN_RESENT 7, 0, 1, by unfold State.takes; decide +kernel⟩
  · exact ⟨(run.setReg (PHY_CORR 3) 5).setReg (PHY_UNCORR 3) 7, 1, 3, 1, by unfold State.takes; decide +kernel⟩
  · exact ⟨run.setFld (LNK_REPLAY 2) 16 16 9, 0, 2, 2, by unfold State.takes; decide +kernel⟩
  · exact ⟨run.setReg (CH_UNDERRUN 3) 9, 0, 3, 1, by unfold State.takes; decide +kernel⟩
  · exact ⟨run.setReg (OUT_TRAIN 1) 9, 0, 1, 1, by unfold State.takes; decide +kernel⟩
  · exact ⟨run.setReg (CAN_CNT 1) 9, 0, 1, 1, by unfold State.takes; decide +kernel⟩
  · exact ⟨run.setReg (ARB_BW 6) 0x90009, 0, 1, by unfold State.takes; decide +kernel⟩

theorem witness_TimeWrites :
    (∃ (s : State) (t : Requester) (w : Word), s.takesBackup t RTC_SET_HI ∧ w.getLsbD 31 = true ∧ s.flag RTC_STAT 7 = false ∧ s.flag RTC_CFG 0 = false) ∧
    (∃ (s : State) (t : Requester) (w : Word) (y : Nat) (m : Nat) (d : Nat) (h : Nat) (mi : Nat) (sec : Nat), s.takesBackup t RTC_SET_HI ∧ w.getLsbD 31 = true ∧ s.flag RTC_STAT 7 = false ∧ s.flag RTC_CFG 0 = true ∧ y < 200 ∧ 1 ≤ m ∧ m ≤ 12 ∧ 1 ≤ d ∧ d ≤ monthDays y m ∧ h < 24 ∧ mi < 60 ∧ sec < 60 ∧ bits (if t = 16 then s.sbp.stagedLo.getD (s.reg RTC_SET_LO) else s.reg RTC_SET_LO).toNat 0 24 = bcd sec + bcd mi * 2 ^ 8 + bcd h * 2 ^ 16 ∧ bits w.toNat 0 25 = bcd d + bcd m * 2 ^ 8 + bcd (y % 100) * 2 ^ 16 + y / 100 * 2 ^ 24) ∧
    (∃ (s : State) (t : Requester) (w : Word), s.takesBackup t RTC_SET_HI ∧ w.getLsbD 31 = true ∧ s.flag RTC_STAT 7 = false ∧ s.flag RTC_CFG 0 = true ∧ calSeconds (if t = 16 then s.sbp.stagedLo.getD (s.reg RTC_SET_LO) else s.reg RTC_SET_LO).toNat (bits w.toNat 0 31) = none) ∧
    (∃ (s : State) (t : Requester), s.takesBackup t RTC_SET_HI ∧ s.flag RTC_STAT 7 = true ∧ s.rtc.flkTimed = false) ∧
    (∃ (s : State) (k : Nat) (sec : Nat) (sub : Nat), s.rtc.stopped = false ∧ s.rtc.pendTime = some (k, sec, sub)) ∧
    (∃ (s : State) (t : Requester) (w : Word) (together : Bool), s.takesBackup t RTC_SHIFT ∧ w.getLsbD 31 = true ∧ bits w.toNat 0 15 ≠ 0 ∧ (s.flag RTC_STAT 7 = false ∨ (together = true ∧ s.rtc.pendTime.isSome = true ∧ s.rtc.pendShift = none))) ∧
    (∃ (s : State) (t : Requester) (w : Word), s.takesBackup t RTC_SHIFT ∧ bits w.toNat 0 15 = 0) ∧
    (∃ (s : State) (t : Requester), s.takesBackup t RTC_SHIFT ∧ s.flag RTC_STAT 7 = true) ∧
    (∃ (s : State) (k : Nat) (retard : Bool) (n : Nat), s.rtc.stopped = false ∧ s.rtc.pendTime = none ∧ s.rtc.pendShift = some (k, retard, n)) ∧
    (∃ (s : State), s.rtc.wraps = true ∧ s.rtc.stopped = false ∧ s.rtc.por = false ∧ s.rtc.winDue = false ∧ s.rtc.pendTime = none ∧ s.rtc.pendShift = none ∧ s.pwr.lateWake = none ∧ s.seq.adopt = none) := by
  refine ⟨?_, ?_, ?_, ?_, ?_, ?_, ?_, ?_, ?_, ?_⟩
  · exact ⟨run.setReg RTC_SET_LO 100, 0, 0x80000000, by unfold State.takesBackup State.takes; decide +kernel⟩
  · exact ⟨(run.setFld RTC_CFG 0 1 1).setReg RTC_SET_LO 0x235959, 0, 0x80991231, 99, 12, 31, 23, 59, 59, by unfold State.takesBackup State.takes; decide +kernel⟩
  · exact ⟨(run.setFld RTC_CFG 0 1 1).setReg RTC_SET_LO 0x240000, 0, 0x80000101, by unfold State.takesBackup State.takes; decide +kernel⟩
  · exact ⟨run.raise RTC_STAT 7, 0, by unfold State.takesBackup State.takes; decide +kernel⟩
  · exact ⟨{ run with rtc := { RtcSt.reset with pendTime := some (7, 100, 5) } }, 7, 100, 5, by decide +kernel⟩
  · exact ⟨run, 0, 0x80008005, false, by unfold State.takesBackup State.takes; decide +kernel⟩
  · exact ⟨run, 0, 0x80008000, by unfold State.takesBackup State.takes; decide +kernel⟩
  · exact ⟨run.raise RTC_STAT 7, 0, by unfold State.takesBackup State.takes; decide +kernel⟩
  · exact ⟨{ run with rtc := { RtcSt.reset with pendShift := some (3, true, 5), sec := 1 } }, 3, true, 5, by decide +kernel⟩
  · exact ⟨{ run with rtc := { RtcSt.reset with winDue := false, sec := rtcEnd - 1, sub := 32767 } }, by decide +kernel⟩

theorem witness_BackupCounters :
    (∃ (s : State) (t : Requester), s.takesBackup t RTC_CD_LOAD) ∧
    (∃ (s : State), s.awake ∧ s.rtc.cdLeft = some 0 ∧ s.rtc.stopped = false ∧ s.rtc.pendCd = []) ∧
    (∃ (s : State), 1 ≤ s.ladder ∧ s.ladder ≤ 4 ∧ s.pwr.entry = none ∧ s.pwr.exiting = none ∧ s.ctl.phase = .run ∧ s.rtc.cdLeft = some 0 ∧ s.rtc.stopped = false ∧ s.rtc.pendCd = []) ∧
    (∃ (s : State), s.rtc.winDue = true ∧ s.rtc.stopped = false ∧ s.rtc.por = false ∧ s.flag RTC_CFG 1 = true) ∧
    (∃ (s : State), s.rtc.winDue = true ∧ s.rtc.stopped = false ∧ s.rtc.por = false ∧ s.flag RTC_CFG 1 = false ∧ s.fld RTC_TRIM 0 10 ≠ 512) ∧
    (∃ (s : State), s.rtc.stopped = false ∧ s.rtc.por = false) := by
  refine ⟨?_, ?_, ?_, ?_, ?_, ?_⟩
  · exact ⟨run, 0, by unfold State.takesBackup State.takes; decide +kernel⟩
  · exact ⟨{ run.setFld RTC_CD_RELOAD 0 24 3 with rtc := { RtcSt.reset with cdLeft := some 0 } }, by unfold State.awake; decide +kernel⟩
  · exact ⟨{ run.setFld PWR_STAT 0 3 3 with rtc := { RtcSt.reset with cdLeft := some 0 } }, by decide +kernel⟩
  · exact ⟨run.setFld RTC_CFG 1 1 1, by decide +kernel⟩
  · exact ⟨run.setFld RTC_TRIM 0 10 1000, by decide +kernel⟩
  · exact ⟨run, by decide +kernel⟩

theorem witness_BackupSupply :
    (∃ (s : State), s.flag RTC_STAT 1 = false ∧ s.rtc.por = false ∧ s.flag RTC_SWFIRST_SUB 31 = false) ∧
    (∃ (s : State), s.flag RTC_STAT 1 = false ∧ s.rtc.por = false ∧ s.flag RTC_SWFIRST_SUB 31 = true) ∧
    (∃ (s : State), s.flag RTC_STAT 1 = true ∧ s.rtc.por = false) ∧
    (∃ (s : State), s.flag RTC_STAT 2 = false ∧ s.rtc.por = false) ∧
    (∃ (s : State), s.rtc.por = false) ∧
    (∃ (s : State) (t : Requester) (w : Word), s.takesBackup t RTC_SWFIRST_SUB ∧ w.getLsbD 31 = true) := by
  refine ⟨?_, ?_, ?_, ?_, ?_, ?_⟩
  · exact ⟨run, by decide +kernel⟩
  · exact ⟨run.raise RTC_SWFIRST_SUB 31, by decide +kernel⟩
  · exact ⟨run.raise RTC_STAT 1, by decide +kernel⟩
  · exact ⟨run, by decide +kernel⟩
  · exact ⟨run.lower RTC_STAT 0, by decide +kernel⟩
  · exact ⟨run.raise RTC_SWFIRST_SUB 31, 0, 0x80000000, by unfold State.takesBackup State.takes; decide +kernel⟩

theorem witness_EventInputs :
    (∃ (s : State) (n : Fin 4) (level : Bool) (k : Nat), s.awake ∧ (s.rtc.stopped = true ∨ s.fld (EVT_CFG n) 16 9 < k) ∧ s.rtc.por = false ∧ s.evt.level.getLsbD n.val = !level ∧ bit (s.fld (EVT_CFG n) 0 2) (if level then 0 else 1) = true ∧ (s.evtOf n).length < 4) ∧
    (∃ (s : State) (n : Fin 4) (level : Bool) (k : Nat), s.awake ∧ (s.rtc.stopped = true ∨ s.fld (EVT_CFG n) 16 9 < k) ∧ s.rtc.por = false ∧ s.evt.level.getLsbD n.val = !level ∧ bit (s.fld (EVT_CFG n) 0 2) (if level then 0 else 1) = true ∧ 4 ≤ (s.evtOf n).length) ∧
    (∃ (s : State) (n : Fin 4) (level : Bool) (k : Nat), (s.rtc.stopped = true ∨ s.fld (EVT_CFG n) 16 9 < k) ∧ s.rtc.por = false ∧ s.evt.level.getLsbD n.val = !level ∧ bit (s.fld (EVT_CFG n) 0 2) (if level then 0 else 1) = false) ∧
    (∃ (s : State) (n : Fin 4) (k : Nat), s.rtc.stopped = false ∧ k ≤ s.fld (EVT_CFG n) 16 9) ∧
    (∃ (s : State) (n : Fin 4) (level : Bool) (k : Nat), 1 ≤ s.ladder ∧ s.ladder ≤ 4 ∧ s.pwr.entry = none ∧ s.pwr.exiting = none ∧ s.ctl.phase = .run ∧ s.rtc.stopped = false ∧ s.fld (EVT_CFG n) 16 9 < k ∧ s.rtc.por = false ∧ s.evt.level.getLsbD n.val = !level ∧ bit (s.fld (EVT_CFG n) 0 2) (if level then 0 else 1) = true ∧ (s.evtOf n).length < 4) ∧
    (∃ (s : State) (t : Requester), s.takesBackup t EVT_STAT) ∧
    (∃ (s : State) (t : Requester) (w : Word), s.takesBackup t EVT_RD_CTRL) ∧
    (∃ (s : State) (t : Requester), (if t = 16 then s.sbp.open_ = true else s.reads t EVT_RD_CTRL) ∧ (s.ctxOf (ctxOfReq t)).evtCtl.getLsbD 8 = true) := by
  refine ⟨?_, ?_, ?_, ?_, ?_, ?_, ?_, ?_⟩
  · exact ⟨run.setFld (EVT_CFG 3) 0 2 1, 3, true, 1, by unfold State.awake; decide +kernel⟩
  · exact ⟨{ run.setFld (EVT_CFG 0) 0 2 3 with evt := { queues := [(0, List.replicate 4 { id := 1, sec := 0, sub := 0, level := true, noclk := false, osf := true, wake := false, cdx := false })], level := 0, nextId := 5 } }, 0, true, 1, by unfold State.awake; decide +kernel⟩
  · exact ⟨run.setFld (EVT_CFG 1) 0 2 2, 1, true, 1, by decide +kernel⟩
  · exact ⟨(run.setFld (EVT_CFG 3) 0 2 1).setFld (EVT_CFG 3) 16 9 163, 3, 163, by decide +kernel⟩
  · exact ⟨((run.setFld (EVT_CFG 3) 0 2 1).setFld (EVT_CFG 3) 16 9 163).setFld PWR_STAT 0 3 1, 3, true, 164, by decide +kernel⟩
  · exact ⟨run.raise EVT_STAT 5, 0, by unfold State.takesBackup State.takes; decide +kernel⟩
  · exact ⟨{ run with evt := { queues := [(2, List.replicate 3 { id := 1, sec := 0, sub := 0, level := true, noclk := false, osf := true, wake := false, cdx := false })], level := 0, nextId := 5 } }, 0, 0x122, by unfold State.takesBackup State.takes; decide +kernel⟩
  · exact ⟨{ run with evt := { queues := [(2, [{ id := 1, sec := 0, sub := 0, level := true, noclk := false, osf := true, wake := false, cdx := false }])], level := 0, nextId := 5 }, ctxs := [(0, { Ctx.reset with evtCtl := 0x102, evtShown := [1] })] }, 0, by unfold State.reads; decide +kernel⟩

theorem witness_ContextsAndLog :
    (∃ (s : State) (t : Requester), (if t = 16 then s.sbp.open_ = true ∧ s.sbp.snapped = false else s.reads t RTC_SUBSEC)) ∧
    (∃ (s : State) (l : List LogRec) (r : LogRec) (m : List LogRec), s.rtc.stopped = false ∧ s.rtc.por = false ∧ s.log.recs = l ++ r :: m ∧ (∀ e ∈ l, e.verdict ≠ .unchecked) ∧ r.verdict = .unchecked) ∧
    (∃ (s : State), s.rtc.stopped = true) ∧
    (∃ (s : State) (t : Requester) (w : Word), s.takesBackup t LOG_RD_CTRL) := by
  refine ⟨?_, ?_, ?_, ?_⟩
  · exact ⟨{ run with rtc := { RtcSt.reset with sec := 5, sub := 7 } }, 1, by unfold State.reads; decide +kernel⟩
  · exact ⟨{ run with log := { recs := [{ seq := 3, type := 1, seconds := 0, subsec := 0, ladder := 0, data := [], verdict := .unchecked }], next := 4, head := 0 } }, [], { seq := 3, type := 1, seconds := 0, subsec := 0, ladder := 0, data := [], verdict := .unchecked }, [], by decide +kernel⟩
  · exact ⟨{ run with rtc := { RtcSt.reset with stopped := true } }, by decide +kernel⟩
  · exact ⟨{ run with log := { recs := [{ seq := 3, type := 1, seconds := 0, subsec := 0, ladder := 0, data := [], verdict := .unchecked }], next := 4, head := 0 } }, 0, 3, by unfold State.takesBackup State.takes; decide +kernel⟩

theorem witness_FaultManager :
    (∃ (s : State) (t : Requester) (w : Word), s.takes t FLT_SAFE_CTRL ∧ w.getLsbD 0 = true) ∧
    (∃ (s : State) (t : Requester), s.takes t FLT_QSRC) ∧
    (∃ (s : State) (t : Requester) (w : Word), s.takes t FLT_WDG_KICK ∧ w.getLsbD 0 = true ∧ s.wdgRuns = true) ∧
    (∃ (s : State), s.wdgRuns = true ∧ s.faultClass 80 ≤ 3) ∧
    (∃ (s : State), s.coreUp = true ∧ s.ladder ≤ 2 ∧ s.faultClass 19 ≤ 3) ∧
    (∃ (s : State) (k : Fin 7) (us : Nat), s.coreUp = true ∧ 3 ≤ k.val ∧ s.fld ARB_CFG 0 16 ≠ 0 ∧ s.fld ARB_CFG 0 16 < us ∧ s.faultClass 82 ≤ 3) ∧
    (∃ (s : State), s.coreUp = true) ∧
    (∃ (s : State) (k : Fin 7) (us : Nat), s.coreUp = true ∧ 3 ≤ k.val ∧ s.fld ARB_CFG 0 16 ≠ 0 ∧ s.fld ARB_CFG 0 16 < us ∧ s.faultClass 82 = 3) ∧
    (∃ (s : State) (k : Fin 7) (us : Nat), s.coreUp = true ∧ 3 ≤ k.val ∧ s.fld ARB_CFG 0 16 ≠ 0 ∧ s.fld ARB_CFG 0 16 < us ∧ s.faultClass 82 = 2 ∧ s.faultChannels 82 ≠ 0) := by
  refine ⟨?_, ?_, ?_, ?_, ?_, ?_, ?_, ?_, ?_⟩
  · exact ⟨run.setFlds FLT_SAFE [(0, 1, 1), (4, 4, 3)], 0, 1, by unfold State.takes; decide +kernel⟩
  · exact ⟨run, 0, by unfold State.takes; decide +kernel⟩
  · exact ⟨run.setFlds FLT_WDG_CFG [(0, 16, 5), (16, 16, 50)], 1, 1, by unfold State.takes; decide +kernel⟩
  · exact ⟨run.setFlds FLT_WDG_CFG [(0, 16, 5), (16, 16, 50)], by decide +kernel⟩
  · exact ⟨run, by decide +kernel⟩
  · exact ⟨run, 4, 0x200, by decide +kernel⟩
  · exact ⟨run, by decide +kernel⟩
  · exact ⟨(runWith { img with faults := [{ source := 82, reaction := 3, param := 0 }] }), 4, 0x200, by decide +kernel⟩
  · exact ⟨(runWith { img with faults := [{ source := 82, reaction := 2, param := 5 }] }), 4, 0x200, by decide +kernel⟩

theorem witness_MonitorReset :
    (∃ (s : State), s.ctl.phase = .run ∧ s.ladder = 0 ∧ s.faultClass 81 = 4 ∧ s.ctl.halted = false ∧ s.ctl.lossFlow = false ∧ s.pwr.entry = none ∧ s.otp.prog = none ∧ s.updQuiet ∧ (recentResets s).length < 2) ∧
    (∃ (s : State) (d : Fin 4), s.ctl.recheck.getLsbD d = true ∧ s.ctl.phase = .run ∧ s.ladder = 0 ∧ s.ctl.halted = false ∧ s.ctl.lossFlow = false ∧ s.pwr.entry = none ∧ s.otp.prog = none ∧ s.updQuiet ∧ (recentResets s).length < 2) ∧
    (∃ (s : State), s.ctl.phase = .run ∧ s.ladder = 0 ∧ s.faultClass 81 = 4 ∧ s.ctl.halted = false ∧ s.ctl.lossFlow = false ∧ s.pwr.entry = none ∧ s.otp.prog = none ∧ s.updQuiet ∧ 2 ≤ (recentResets s).length) ∧
    (∃ (s : State), ∃ i ∈ [Instr.warmResetRelease, .heartbeatLoss], s.ctl.halted = true ∧ s.ctl.phase = .reset ∧ s.ctl.path = .warm) ∧
    (∃ (s : State), s.ctl.halted = true ∧ s.ctl.porHigh = true) ∧
    (∃ (s : State) (d : Fin 4), s.ctl.recheck.getLsbD d = true) := by
  refine ⟨?_, ?_, ?_, ?_, ?_, ?_⟩
  · exact ⟨run, by unfold State.updQuiet; decide +kernel⟩
  · exact ⟨{ run with ctl := { run.ctl with recheck := 4 } }, 2, by unfold State.updQuiet; decide +kernel⟩
  · exact ⟨{ run with ctl := { run.ctl with smo := 327679, monitorResets := [0, 5] } }, by unfold State.updQuiet; decide +kernel⟩
  · exact ⟨{ run with ctl := { run.ctl with halted := true, phase := .reset, path := .warm } }, _, .head _, by decide +kernel⟩
  · exact ⟨{ run with ctl := { run.ctl with halted := true, phase := .reset, path := .warm } }, by decide +kernel⟩
  · exact ⟨{ run with ctl := { run.ctl with recheck := 4 } }, 2, by decide +kernel⟩

theorem witness_RailOrders :
    (∃ (s : State) (t : Requester) (w : Word) (n : Nat) (rest : List Nat), s.takes t SEQ_CTRL ∧ w.getLsbD 0 = true ∧ w.getLsbD 1 = false ∧ s.cfg.isSome = true ∧ s.seqState = seqOff ∧ s.seq.offWait = false ∧ s.upSlots = n :: rest ∧ n < 16 ∧ (∀ m ∈ s.upSlots, s.enabled m = false)) ∧
    (∃ (s : State) (t : Requester) (w : Word) (n : Nat), s.takes t SEQ_CTRL ∧ w.getLsbD 1 = true ∧ s.cfg.isSome = true ∧ s.seqState = seqUp ∧ n ∈ s.activeChannels ∧ s.chState n = chRun ∧ (s.chanOf n).blackSent = false) ∧
    (∃ (s : State) (slot : Fin 16) (r : RailRec), s.enabled slot = true ∧ s.railRec slot = some r ∧ s.senseRuns r = true ∧ s.railsWf) ∧
    (∃ (s : State) (n : Nat) (rest : List Nat), s.seqRuns = true ∧ s.seqState = seqRising ∧ s.seq.step = .delay ∧ s.seq.todo = n :: rest ∧ n < 16) ∧
    (∃ (s : State) (time : Nat) (n : Nat) (r : RailRec), s.seqRuns = true ∧ s.seqState = seqRising ∧ s.seq.step = .rise ∧ s.seq.slot < 16 ∧ s.railRec s.seq.slot = some r ∧ r.riseWindow ≤ time ∧ n ∈ s.activeChannels ∧ s.chState n = chRun ∧ (s.chanOf n).blackSent = false) ∧
    (∃ (s : State) (code : Code) (pg : Bool) (time : Nat) (n : Nat) (rest : List Nat) (r : RailRec), s.seqState = seqFalling ∧ s.seq.step = .fall ∧ s.seq.slot < 16 ∧ s.railRec s.seq.slot = some r ∧ s.senseRuns r = true ∧ s.railsWf ∧ (if r.senseKind = 0 then code.toNat ≤ r.vLo / 8 else s.pgIn r pg = false) ∧ time < 10 * r.disTimeout ∧ s.seq.todo = n :: rest ∧ n < 16 ∧ n ≠ s.seq.slot) ∧
    (∃ (s : State) (code : Code) (pg : Bool) (time : Nat) (r : RailRec), s.seqState = seqFalling ∧ s.seq.step = .fall ∧ s.seq.slot < 16 ∧ s.railRec s.seq.slot = some r ∧ s.senseRuns r = true ∧ s.railsWf ∧ ((if r.senseKind = 0 then r.vLo / 8 < code.toNat else s.pgIn r pg = true) ∨ 10 * r.disTimeout ≤ time)) ∧
    (∃ (s : State) (time : Nat) (n : Nat) (rest : List Nat) (r : RailRec), s.seqRuns = true ∧ s.seqState = seqFalling ∧ s.seq.step = .fall ∧ s.railRec s.seq.slot = some r ∧ 10 * r.disTimeout ≤ time ∧ s.seq.slot < 16 ∧ s.seq.todo = n :: rest ∧ n < 16 ∧ n ≠ s.seq.slot) ∧
    (∃ (s : State) (n : Nat) (rest : List Nat), s.seqRuns = true ∧ s.seqState = seqOff ∧ s.seq.offWait = true ∧ s.upSlots = n :: rest ∧ n < 16 ∧ (∀ m ∈ s.upSlots, s.enabled m = false)) := by
  refine ⟨?_, ?_, ?_, ?_, ?_, ?_, ?_, ?_, ?_⟩
  · exact ⟨(runWith { img with rails := [{ slot := 3, upOrder := 1, downOrder := 1, senseKind := 0, sense := 3, dis := 0xFF, riseWindow := 10, vLo := 100, vHi := 200, delay := 1, disTimeout := 5 }, { slot := 5, upOrder := 2, downOrder := 2, senseKind := 0, sense := 4, dis := 0xFF, riseWindow := 10, vLo := 100, vHi := 200, delay := 1, disTimeout := 5 }] }), 0, 1, 3, [5], by unfold State.takes; decide +kernel⟩
  · exact ⟨modChan 0 (fun c => { c with blackSent := false }) (setChState 0 chRun (setSeqState seqUp (runWith { img with rails := [{ slot := 3, upOrder := 1, downOrder := 1, senseKind := 0, sense := 3, dis := 0xFF, riseWindow := 10, vLo := 100, vHi := 200, delay := 1, disTimeout := 5 }, { slot := 5, upOrder := 2, downOrder := 2, senseKind := 0, sense := 4, dis := 0xFF, riseWindow := 10, vLo := 100, vHi := 200, delay := 1, disTimeout := 5 }] }))), 0, 2, 0, by unfold State.takes; decide +kernel⟩
  · exact ⟨{ (setSeqState seqRising (runWith { img with rails := [{ slot := 3, upOrder := 1, downOrder := 1, senseKind := 0, sense := 3, dis := 0xFF, riseWindow := 10, vLo := 100, vHi := 200, delay := 1, disTimeout := 5 }, { slot := 5, upOrder := 2, downOrder := 2, senseKind := 0, sense := 4, dis := 0xFF, riseWindow := 10, vLo := 100, vHi := 200, delay := 1, disTimeout := 5 }] })).raise SEQ_STAT 19 with seq := { SeqSt.reset with step := .rise, slot := 3, todo := [5] } }, 3, { slot := 3, upOrder := 1, downOrder := 1, senseKind := 0, sense := 3, dis := 0xFF, riseWindow := 10, vLo := 100, vHi := 200, delay := 1, disTimeout := 5 }, by decide +kernel⟩
  · exact ⟨{ (setSeqState seqRising (runWith { img with rails := [{ slot := 3, upOrder := 1, downOrder := 1, senseKind := 0, sense := 3, dis := 0xFF, riseWindow := 10, vLo := 100, vHi := 200, delay := 1, disTimeout := 5 }, { slot := 5, upOrder := 2, downOrder := 2, senseKind := 0, sense := 4, dis := 0xFF, riseWindow := 10, vLo := 100, vHi := 200, delay := 1, disTimeout := 5 }] })).raise SEQ_STAT 19 with seq := { SeqSt.reset with step := .delay, slot := 3, todo := [5] } }, 5, [], by decide +kernel⟩
  · exact ⟨{ (modChan 0 (fun c => { c with blackSent := false }) (setChState 0 chRun (setSeqState seqRising (runWith { img with rails := [{ slot := 3, upOrder := 1, downOrder := 1, senseKind := 0, sense := 3, dis := 0xFF, riseWindow := 10, vLo := 100, vHi := 200, delay := 1, disTimeout := 5 }, { slot := 5, upOrder := 2, downOrder := 2, senseKind := 0, sense := 4, dis := 0xFF, riseWindow := 10, vLo := 100, vHi := 200, delay := 1, disTimeout := 5 }] })))).raise SEQ_STAT 19 with seq := { SeqSt.reset with step := .rise, slot := 3, todo := [5] } }, 10, 0, { slot := 3, upOrder := 1, downOrder := 1, senseKind := 0, sense := 3, dis := 0xFF, riseWindow := 10, vLo := 100, vHi := 200, delay := 1, disTimeout := 5 }, by decide +kernel⟩
  · exact ⟨{ (setSeqState seqFalling (runWith { img with rails := [{ slot := 3, upOrder := 1, downOrder := 1, senseKind := 0, sense := 3, dis := 0xFF, riseWindow := 10, vLo := 100, vHi := 200, delay := 1, disTimeout := 5 }, { slot := 5, upOrder := 2, downOrder := 2, senseKind := 0, sense := 4, dis := 0xFF, riseWindow := 10, vLo := 100, vHi := 200, delay := 1, disTimeout := 5 }] })).raise SEQ_STAT 21 with seq := { SeqSt.reset with step := .fall, slot := 3, todo := [5] } }, 12, false, 49, 5, [], { slot := 3, upOrder := 1, downOrder := 1, senseKind := 0, sense := 3, dis := 0xFF, riseWindow := 10, vLo := 100, vHi := 200, delay := 1, disTimeout := 5 }, by decide +kernel⟩
  · exact ⟨{ (setSeqState seqFalling (runWith { img with rails := [{ slot := 3, upOrder := 1, downOrder := 1, senseKind := 0, sense := 3, dis := 0xFF, riseWindow := 10, vLo := 100, vHi := 200, delay := 1, disTimeout := 5 }, { slot := 5, upOrder := 2, downOrder := 2, senseKind := 0, sense := 4, dis := 0xFF, riseWindow := 10, vLo := 100, vHi := 200, delay := 1, disTimeout := 5 }] })).raise SEQ_STAT 21 with seq := { SeqSt.reset with step := .fall, slot := 3, todo := [5] } }, 13, false, 7, { slot := 3, upOrder := 1, downOrder := 1, senseKind := 0, sense := 3, dis := 0xFF, riseWindow := 10, vLo := 100, vHi := 200, delay := 1, disTimeout := 5 }, by decide +kernel⟩
  · exact ⟨{ (setSeqState seqFalling (runWith { img with rails := [{ slot := 3, upOrder := 1, downOrder := 1, senseKind := 0, sense := 3, dis := 0xFF, riseWindow := 10, vLo := 100, vHi := 200, delay := 1, disTimeout := 5 }, { slot := 5, upOrder := 2, downOrder := 2, senseKind := 0, sense := 4, dis := 0xFF, riseWindow := 10, vLo := 100, vHi := 200, delay := 1, disTimeout := 5 }] })).raise SEQ_STAT 21 with seq := { SeqSt.reset with step := .fall, slot := 3, todo := [5] } }, 50, 5, [], { slot := 3, upOrder := 1, downOrder := 1, senseKind := 0, sense := 3, dis := 0xFF, riseWindow := 10, vLo := 100, vHi := 200, delay := 1, disTimeout := 5 }, by decide +kernel⟩
  · exact ⟨{ (setSeqState seqOff (runWith { img with rails := [{ slot := 3, upOrder := 1, downOrder := 1, senseKind := 0, sense := 3, dis := 0xFF, riseWindow := 10, vLo := 100, vHi := 200, delay := 1, disTimeout := 5 }, { slot := 5, upOrder := 2, downOrder := 2, senseKind := 0, sense := 4, dis := 0xFF, riseWindow := 10, vLo := 100, vHi := 200, delay := 1, disTimeout := 5 }] })) with seq := { SeqSt.reset with offWait := true, heldCause := 2 } }, 3, [5], by decide +kernel⟩

theorem witness_RailSupervision :
    (∃ (s : State) (e : RailSample) (r : RailRec), s.watched e.slot = true ∧ s.faultClass (32 + e.slot) ≤ 3 ∧ s.railRec e.slot = some r ∧ s.senseRuns r = true ∧ s.railsWf ∧ r.qualifies e.code.toNat (s.pgIn r e.pg) = false ∧ s.fld SUP_CTRL 0 10 ≤ e.held) ∧
    (∃ (s : State) (e : RailSample) (r : RailRec), s.railRec e.slot = some r ∧ (s.watched e.slot = false ∨ s.senseRuns r = false ∨ r.qualifies e.code.toNat (s.pgIn r e.pg) = true ∨ e.held < s.fld SUP_CTRL 0 10)) ∧
    (∃ (s : State) (e : RailSample) (r : RailRec), s.flag SUP_STAT e.slot = true ∧ s.railRec e.slot = some r ∧ s.senseRuns r = true ∧ s.railsWf) ∧
    (∃ (s : State) (out : BitVec 7) (m : Fin 7), s.ctl.monitorsArmed = true ∧ s.ladder ≤ 4 ∧ s.faultClass 48 ≤ 3 ∧ out.getLsbD m = true ∧ s.flag SUP_STAT (16 + m) = false) := by
  refine ⟨?_, ?_, ?_, ?_⟩
  · exact ⟨{ (setSeqState seqUp (runWith { img with rails := [{ slot := 3, upOrder := 1, downOrder := 1, senseKind := 0, sense := 3, dis := 0xFF, riseWindow := 10, vLo := 100, vHi := 200, delay := 1, disTimeout := 5 }, { slot := 5, upOrder := 2, downOrder := 2, senseKind := 0, sense := 4, dis := 0xFF, riseWindow := 10, vLo := 100, vHi := 200, delay := 1, disTimeout := 5 }] })).raise SEQ_STAT 19 with seq := { SeqSt.reset with supervised := 8 } }, { slot := 3, code := 99, pg := false, held := 50 }, { slot := 3, upOrder := 1, downOrder := 1, senseKind := 0, sense := 3, dis := 0xFF, riseWindow := 10, vLo := 100, vHi := 200, delay := 1, disTimeout := 5 }, by decide +kernel⟩
  · exact ⟨{ (setSeqState seqUp (runWith { img with rails := [{ slot := 3, upOrder := 1, downOrder := 1, senseKind := 0, sense := 3, dis := 0xFF, riseWindow := 10, vLo := 100, vHi := 200, delay := 1, disTimeout := 5 }, { slot := 5, upOrder := 2, downOrder := 2, senseKind := 0, sense := 4, dis := 0xFF, riseWindow := 10, vLo := 100, vHi := 200, delay := 1, disTimeout := 5 }] })).raise SEQ_STAT 19 with seq := { SeqSt.reset with supervised := 8 } }, { slot := 3, code := 100, pg := false, held := 50 }, { slot := 3, upOrder := 1, downOrder := 1, senseKind := 0, sense := 3, dis := 0xFF, riseWindow := 10, vLo := 100, vHi := 200, delay := 1, disTimeout := 5 }, by decide +kernel⟩
  · exact ⟨({ (setSeqState seqUp (runWith { img with rails := [{ slot := 3, upOrder := 1, downOrder := 1, senseKind := 0, sense := 3, dis := 0xFF, riseWindow := 10, vLo := 100, vHi := 200, delay := 1, disTimeout := 5 }, { slot := 5, upOrder := 2, downOrder := 2, senseKind := 0, sense := 4, dis := 0xFF, riseWindow := 10, vLo := 100, vHi := 200, delay := 1, disTimeout := 5 }] })).raise SEQ_STAT 19 with seq := { SeqSt.reset with supervised := 8 } } : State).raise SUP_STAT 3, { slot := 3, code := 150, pg := false, held := 50 }, { slot := 3, upOrder := 1, downOrder := 1, senseKind := 0, sense := 3, dis := 0xFF, riseWindow := 10, vLo := 100, vHi := 200, delay := 1, disTimeout := 5 }, by decide +kernel⟩
  · exact ⟨{ run with ctl := { run.ctl with monitorsArmed := true } }, 4, 2, by decide +kernel⟩

theorem witness_Resets :
    (∃ (s : State) (ns : Nat), filterNs ≤ ns ∧ s.ctl.porHigh = true ∧ s.otp.prog = none ∧ s.updQuiet ∧ s.stoState ≠ 2 ∧ s.nv.hk = .none) ∧
    (∃ (s : State) (ns : Nat), (ns < filterNs ∨ s.ctl.porHigh = false)) ∧
    (∃ (s : State) (banks : BitVec 2), s.ctl.phase = .reset ∧ s.ctl.porHigh = false ∧ banks.getLsbD 1 = false) ∧
    (∃ (s : State) (banks : BitVec 2), s.ctl.phase = .reset ∧ s.ctl.porHigh = false ∧ banks.getLsbD 1 = true ∧ s.ctl.pmicOn = true) ∧
    (∃ (s : State) (ns : Nat), filterNs ≤ ns ∧ s.ctl.phase = .run ∧ s.ladder = 0 ∧ s.pwr.entry = none ∧ s.ctl.lossFlow = false ∧ s.ctl.halted = false ∧ s.otp.prog = none ∧ s.updQuiet ∧ s.ctl.warmDeferred &&& 0x10 = 0) ∧
    (∃ (s : State) (ns : Nat), filterNs ≤ ns ∧ s.ctl.phase = .run ∧ s.ladder = 0 ∧ s.pwr.entry = none ∧ s.ctl.lossFlow = false ∧ s.ctl.halted = false ∧ s.otp.prog = none ∧ s.updQuiet ∧ (recentResets s).length < 2) ∧
    (∃ (ns : Nat), ns < filterNs) ∧
    (∃ (s : State) (t : Requester), s.takes t SYS_RST_CTRL ∧ s.ctl.phase = .run ∧ s.ladder = 0 ∧ s.pwr.entry = none ∧ s.ctl.lossFlow = false ∧ s.ctl.halted = false ∧ s.otp.prog = none ∧ s.flag OTP_PROG_STAT 0 = false ∧ s.updQuiet ∧ s.ctl.warmDeferred &&& 0x10 = 0) ∧
    (∃ (s : State) (t : Requester), s.takes t SYS_RST_CTRL ∧ (s.flag OTP_PROG_STAT 0 = true ∨ s.upd.op ≠ .none)) ∧
    (∃ (s : State), s.ctl.phase = .reset ∧ s.ctl.path = .warm ∧ s.ctl.halted = false) ∧
    (∃ (s : State), s.ctl.warmDeferred ≠ 0 ∧ s.stoState ≠ 1 ∧ s.stoState ≠ 2 ∧ s.seqState ≠ seqBlanking ∧ s.seqState ≠ seqFalling ∧ s.supplyAway = true ∧ s.ctl.supplyBack = false) ∧
    (∃ (s : State), s.ctl.warmDeferred ≠ 0 ∧ s.ctl.warmDeferred &&& 0x10 = 0 ∧ s.stoState ≠ 1 ∧ s.stoState ≠ 2 ∧ s.seqState ≠ seqBlanking ∧ s.seqState ≠ seqFalling ∧ s.supplyAway = false ∧ s.ctl.phase = .run ∧ s.ladder = 0 ∧ s.pwr.entry = none ∧ s.ctl.halted = false ∧ s.otp.prog = none ∧ s.flag OTP_PROG_STAT 0 = false ∧ s.updQuiet) := by
  refine ⟨?_, ?_, ?_, ?_, ?_, ?_, ?_, ?_, ?_, ?_, ?_, ?_⟩
  · exact ⟨run, 200, by refine ⟨?_, by unfold State.updQuiet; decide +kernel⟩; unfold filterNs; omega⟩
  · exact ⟨run, 49, by unfold filterNs; omega⟩
  · exact ⟨{ run with ctl := { State.ctl (run) with phase := .reset, porHigh := false } }, 1, by decide +kernel⟩
  · exact ⟨{ run with ctl := { State.ctl (run) with phase := .reset, porHigh := false } }, 2, by decide +kernel⟩
  · exact ⟨run, 200, by refine ⟨?_, by unfold State.updQuiet; decide +kernel⟩; unfold filterNs; omega⟩
  · exact ⟨run, 200, by refine ⟨?_, by unfold State.updQuiet; decide +kernel⟩; unfold filterNs; omega⟩
  · exact ⟨49, by unfold filterNs; omega⟩
  · exact ⟨run, 0, by unfold State.takes State.updQuiet; decide +kernel⟩
  · exact ⟨run.raise OTP_PROG_STAT 0, 0, by unfold State.takes; decide +kernel⟩
  · exact ⟨{ run with ctl := { State.ctl (run) with phase := .reset, path := .warm } }, by decide +kernel⟩
  · exact ⟨{ run with ctl := { State.ctl (run) with warmDeferred := 2, lossFlow := true } }, by decide +kernel⟩
  · exact ⟨{ run with ctl := { State.ctl (run) with warmDeferred := 2 } }, by unfold State.updQuiet; decide +kernel⟩

theorem witness_DomainResets :
    (∃ (s : State) (t : Requester) (d : ResetDomain), s.takes t SYS_RST_CTRL ∧ (d = .opt → ∀ r ∈ s.tts, s.oOpen r = false)) ∧
    (∃ (s : State) (d : ResetDomain), s.flag SYS_RST_CTRL (domainBit d) = true) := by
  refine ⟨?_, ?_⟩
  · exact ⟨run, 0, .ilv0, by exact ⟨by unfold State.takes; decide +kernel, fun _ => by decide +kernel⟩⟩
  · exact ⟨run.raise SYS_RST_CTRL (domainBit .ilv0), .ilv0, by decide +kernel⟩

theorem witness_StartSteps :
    (∃ (s : State), s.ctl.railsOk = false ∧ s.ctl.phase ≠ .off) ∧
    (∃ (s : State) (n : Nat), s.pwr.exiting = some n ∧ (n = 5 ∨ n = 6) ∧ s.ctl.railsOk = false ∧ s.updQuiet) ∧
    (∃ (s : State), s.door.counting = true ∧ s.reg SYS_DOOR_LINE = 0) ∧
    (∃ (s : State), s.ctl.phase = .otp ∧ s.supplyAway = false) ∧
    (∃ (s : State), s.ctl.phase = .selfTest ∧ s.supplyAway = false) ∧
    (∃ (s : State), s.ctl.phase = .selfTest ∧ s.supplyAway = false ∧ s.faultClass 49 ≤ 3) ∧
    (∃ (s : State) (pair : Bool) (e : LoadErr), s.ctl.phase = .verify pair false false ∧ s.supplyAway = false ∧ s.stoState ≠ 1 ∧ s.stoState ≠ 2 ∧ s.verifyPair pair = .inl e) ∧
    (∃ (s : State) (pair : Bool) (r : SelRec) (e : LoadErr), s.ctl.phase = .verify pair false true ∧ s.supplyAway = false ∧ s.stoState ≠ 1 ∧ s.stoState ≠ 2 ∧ s.verifyPair pair = .inl e ∧ (verifyFailed e pair s).nextSel (!s.selector.active) 2 0 4 = r ∧ s.ringErases false = false ∧ s.ringErases true = false) ∧
    (∃ (s : State) (pair : Bool) (trial : Bool) (e : LoadErr), s.ctl.phase = .verify pair true trial ∧ s.supplyAway = false ∧ s.stoState ≠ 1 ∧ s.stoState ≠ 2 ∧ s.ctl.warmAfterExit = 0 ∧ s.verifyPair pair = .inl e) ∧
    (∃ (s : State) (pair : Bool) (second : Bool) (trial : Bool) (img : Image), s.ctl.phase = .verify pair second trial ∧ s.supplyAway = false ∧ s.stoState ≠ 1 ∧ s.stoState ≠ 2 ∧ s.ctl.path = .restore ∧ s.verifyPair pair = .inr img) := by
  refine ⟨?_, ?_, ?_, ?_, ?_, ?_, ?_, ?_, ?_, ?_⟩
  · exact ⟨{ run with ctl := { State.ctl (run) with railsOk := false } }, by decide +kernel⟩
  · exact ⟨{ { run with ctl := { State.ctl (run) with railsOk := false, phase := .rails } } with pwr := { PwrSt.reset with exiting := some 5 } }, 5, by unfold State.updQuiet; decide +kernel⟩
  · exact ⟨{ run with door := { counting := true, ticks := 77, lines := 0, channels := 1 } }, by decide +kernel⟩
  · exact ⟨{ run with ctl := { State.ctl (run) with phase := .otp } }, by decide +kernel⟩
  · exact ⟨{ run with ctl := { State.ctl (run) with phase := .selfTest } }, by decide +kernel⟩
  · exact ⟨{ run with ctl := { State.ctl (run) with phase := .selfTest } }, by decide +kernel⟩
  · exact ⟨{ run with ctl := { State.ctl (run) with phase := .verify false false false } }, false, ⟨1, 0x1F, 0⟩, by decide +kernel⟩
  · exact ⟨{ run with ctl := { State.ctl (run) with phase := .verify false false true } }, false, (verifyFailed ⟨1, 0x1F, 0⟩ false run).nextSel true 2 0 4, ⟨1, 0x1F, 0⟩, by decide +kernel⟩
  · exact ⟨{ run with ctl := { State.ctl (run) with phase := .verify true true true } }, true, true, ⟨1, 0x1F, 0⟩, by decide +kernel⟩
  · exact ⟨signed, false, false, false, imgA, by exact ⟨rfl, rfl, by decide +kernel, by decide +kernel, rfl, test_signed_image⟩⟩

theorem witness_ClockChecks :
    (∃ (s : State) (edges : List (Option Nat)), s.ladder ≤ 2 ∧ s.coreUp = true ∧ (∀ k, (s.outOf k).serFault = false) ∧ (∀ d ∈ smoDomains, ∀ e, edges.getD d none = some e → s.monitored d = true → edgesOk (s.domainKhz d) e = true)) ∧
    (∃ (s : State) (edges : List (Option Nat)) (d : Nat) (n : Nat), s.ladder ≤ 2 ∧ s.coreUp = true ∧ (∀ k, (s.outOf k).serFault = false) ∧ d ∈ smoDomains ∧ (d < 4 ∨ 12 ≤ d) ∧ s.faultClass d ≤ 3 ∧ s.monitored d = true ∧ edges.getD d none = some n ∧ edgesOk (s.domainKhz d) n = false ∧ (∀ x ∈ smoDomains, x ≠ d → ∀ e, edges.getD x none = some e → s.monitored x = true → edgesOk (s.domainKhz x) e = true)) := by
  refine ⟨?_, ?_⟩
  · exact ⟨run, ((List.range 25).map fun d => some (64 * run.domainKhz d / 1000)), by exact ⟨by decide +kernel, by decide +kernel, fun _ => rfl, by decide +kernel⟩⟩
  · exact ⟨run, (List.range 25).map fun d => if d = 3 then some 7 else some (64 * run.domainKhz d / 1000), 3, 7, by refine ⟨by decide +kernel, by decide +kernel, fun _ => rfl, ?_⟩; decide +kernel⟩

theorem witness_OtpProgramming :
    (∃ (s : State) (t : Requester) (w : Word) (vppOk : Bool) (slot : Nat), s.takes t OTP_PROG_CTRL ∧ w.getLsbD 8 = true ∧ s.flag OTP_PROG_STAT 0 = false ∧ bits w.toNat 16 16 = 0x4F54 ∧ otpAdmit s (bits w.toNat 0 3) vppOk = .inr slot) ∧
    (∃ (s : State) (t : Requester) (w : Word) (vppOk : Bool) (code : Nat), s.takes t OTP_PROG_CTRL ∧ w.getLsbD 8 = true ∧ s.flag OTP_PROG_STAT 0 = false ∧ bits w.toNat 16 16 = 0x4F54 ∧ otpAdmit s (bits w.toNat 0 3) vppOk = .inl code) ∧
    (∃ (s : State) (t : Requester) (w : Word), s.takes t OTP_PROG_CTRL ∧ w.getLsbD 8 = true ∧ s.flag OTP_PROG_STAT 0 = false ∧ bits w.toNat 16 16 ≠ 0x4F54) ∧
    (∃ (s : State) (t : Requester) (w : Word), s.takes t OTP_PROG_CTRL ∧ w.getLsbD 8 = true ∧ s.flag OTP_PROG_STAT 0 = true) ∧
    (∃ (s : State) (p : OtpProg), s.otp.prog = some p ∧ s.ctl.warmDeferred = 0) ∧
    (∃ (s : State) (p : OtpProg) (k : Nat), s.otp.prog = some p ∧ s.ctl.warmDeferred = 0 ∧ k < p.image.length / 4) := by
  refine ⟨?_, ?_, ?_, ?_, ?_, ?_⟩
  · exact ⟨({ run with otp := { run.otp with force := { run.otp.force with life := 0 } } }), 0, 0x4F540103, true, 0, by unfold State.takes; decide +kernel⟩
  · exact ⟨({ run with otp := { run.otp with force := { run.otp.force with life := 0 } } }), 0, 0x4F540105, true, 1, by unfold State.takes; decide +kernel⟩
  · exact ⟨run, 0, 0x4F550103, by unfold State.takes; decide +kernel⟩
  · exact ⟨run.raise OTP_PROG_STAT 0, 0, 0x4F540103, by unfold State.takes; decide +kernel⟩
  · exact ⟨{ run.raise OTP_PROG_STAT 0 with otp := { run.otp with prog := some { group := 3, slot := 0, image := List.replicate 40 9 } } }, { group := 3, slot := 0, image := List.replicate 40 9 }, by decide +kernel⟩
  · exact ⟨{ run.raise OTP_PROG_STAT 0 with otp := { run.otp with prog := some { group := 3, slot := 0, image := List.replicate 40 9 } } }, { group := 3, slot := 0, image := List.replicate 40 9 }, 9, by decide +kernel⟩

theorem witness_UpdateCommands :
    (∃ (s : State) (t : Requester) (w : Word), s.takes t UPD_CTRL ∧ w.toNat % 32 = 1 ∧ bits w.toNat 24 8 = 0x5A ∧ (w.getLsbD 10 = true → w.getLsbD 9 = true) ∧ (s.updState = upIdle ∨ s.updState = upVerified ∨ s.updState = upFailed) ∧ s.selector.state ≠ 1 ∧ s.faultClass 31 ≤ 3) ∧
    (∃ (s : State) (t : Requester) (w : Word), s.takes t UPD_CTRL ∧ w.toNat % 32 = 2 ∧ s.updState ≠ upErasing ∧ s.updState ≠ upVerifying ∧ s.updState ≠ upWriting) ∧
    (∃ (s : State) (t : Requester) (w : Word), s.takes t UPD_CTRL ∧ w.toNat % 32 = 4 ∧ bits w.toNat 24 8 = 0x5A ∧ s.updState = upVerified ∧ s.selector.gen < 0xFFFFFFFF) ∧
    (∃ (s : State) (t : Requester) (w : Word), s.takes t UPD_CTRL ∧ w.toNat % 32 = 8 ∧ bits w.toNat 24 8 = 0x5A ∧ s.updState ≠ upErasing ∧ s.updState ≠ upVerifying ∧ s.updState ≠ upWriting ∧ s.selector.state = 1 ∧ s.selector.gen < 0xFFFFFFFF) ∧
    (∃ (s : State) (t : Requester) (w : Word), s.takes t UPD_CTRL ∧ w.toNat % 32 = 16 ∧ bits w.toNat 24 8 = 0x5A ∧ s.updState ≠ upErasing ∧ s.updState ≠ upVerifying ∧ s.updState ≠ upWriting ∧ s.selector.gen < 0xFFFFFFFF) ∧
    (∃ (s : State) (t : Requester) (w : Word), ∃ c ∈ [Instr.updOpen t w, .updActivate t w, .updConfirm t w, .updRollback t w], s.takes t UPD_CTRL ∧ w.toNat % 32 ∈ [1, 4, 8, 16] ∧ bits w.toNat 24 8 ≠ 0x5A) := by
  refine ⟨?_, ?_, ?_, ?_, ?_, ?_⟩
  · exact ⟨run, 0, 0x5A000301, by unfold State.takes; decide +kernel⟩
  · exact ⟨(run.setFld UPD_STAT 0 3 upOpen), 0, 2, by unfold State.takes; decide +kernel⟩
  · exact ⟨(run.setFld UPD_STAT 0 3 upVerified), 0, 0x5A030004, by unfold State.takes; decide +kernel⟩
  · exact ⟨{ run with upd := { UpdSt.reset with ring0 := [{ gen := 3, active := true, state := 1, bootsLeft := 2, version := 1, versionPrev := 0, cause := 1, ok := true, junk := 0 }], ring1 := [{ gen := 3, active := true, state := 1, bootsLeft := 2, version := 1, versionPrev := 0, cause := 1, ok := true, junk := 0 }] } }, 0, 0x5A000008, by unfold State.takes; decide +kernel⟩
  · exact ⟨run, 0, 0x5A000010, by unfold State.takes; decide +kernel⟩
  · exact ⟨run, 0, 0x5B000010, _, .head _, by unfold State.takes; decide +kernel⟩

theorem witness_UpdateOperations :
    (∃ (s : State), s.upd.op = .erase ∧ s.ctl.warmDeferred = 0 ∧ s.faultClass 30 ≤ 3 ∧ s.faultClass 31 ≤ 3) ∧
    (∃ (s : State) (addr : Word) (data : List Byte), s.servesRegs = true ∧ s.apertureOpen addr.toNat data.length = true) ∧
    (∃ (s : State) (addr : Word) (data : List Byte), s.servesRegs = true ∧ s.apertureOpen addr.toNat data.length = true) ∧
    (∃ (s : State) (t : Tenant) (addr : Word) (data : List Byte), s.servesRegs = true ∧ (t ≠ 0 ∨ s.apertureOpen addr.toNat data.length = false)) ∧
    (∃ (s : State), s.holdsRegs = true) ∧
    (∃ (s : State) (rb : Bool) (e : LoadErr), s.upd.op = .verify rb ∧ s.ctl.warmDeferred = 0 ∧ s.verifyPair s.inactive = .inl e) ∧
    (∃ (s : State) (img : Image), s.upd.op = .verify false ∧ s.ctl.warmDeferred = 0 ∧ s.verifyPair s.inactive = .inr img) ∧
    (∃ (s : State) (r : SelRec), s.upd.op = .write r ∧ s.ctl.warmDeferred = 0 ∧ s.nv.lost = 0 ∧ s.ringErases false = false ∧ s.ringErases true = false) ∧
    (∃ (s : State) (r : SelRec), s.upd.op = .write r ∧ s.ctl.warmDeferred = 0 ∧ s.nv.lost = 0 ∧ s.ringErases false = false) := by
  refine ⟨?_, ?_, ?_, ?_, ?_, ?_, ?_, ?_, ?_⟩
  · exact ⟨{ (run.setFld UPD_STAT 0 3 upErasing) with upd := { UpdSt.reset with op := .erase, parts := 3 } }, by decide +kernel⟩
  · exact ⟨{ (run.setFld UPD_STAT 0 3 upOpen) with upd := { UpdSt.reset with parts := 1 } }, 0x90000000, List.replicate 16 5, by decide +kernel⟩
  · exact ⟨{ (run.setFld UPD_STAT 0 3 upOpen) with upd := { UpdSt.reset with parts := 1 } }, 0x90000000, List.replicate 16 5, by decide +kernel⟩
  · exact ⟨{ (run.setFld UPD_STAT 0 3 upOpen) with upd := { UpdSt.reset with parts := 1 } }, 1, 0x90000000, List.replicate 16 5, by decide +kernel⟩
  · exact ⟨{ run with ctl := { State.ctl (run) with phase := .verify false false false } }, by decide +kernel⟩
  · exact ⟨{ (run.setFld UPD_STAT 0 3 upVerifying) with upd := { UpdSt.reset with op := .verify false } }, false, ⟨1, 0x1F, 0⟩, by decide +kernel⟩
  · exact ⟨signed, imgA, by have h : signed.inactive = false := (by decide +kernel); rw [h]; exact ⟨rfl, rfl, test_signed_image⟩⟩
  · exact ⟨{ (run.setFld UPD_STAT 0 3 upWriting) with upd := { UpdSt.reset with op := .write { gen := 3, active := true, state := 1, bootsLeft := 2, version := 1, versionPrev := 0, cause := 1, ok := true, junk := 0 } } }, { gen := 3, active := true, state := 1, bootsLeft := 2, version := 1, versionPrev := 0, cause := 1, ok := true, junk := 0 }, by decide +kernel⟩
  · exact ⟨{ (run.setFld UPD_STAT 0 3 upWriting) with upd := { UpdSt.reset with op := .write { gen := 3, active := true, state := 1, bootsLeft := 2, version := 1, versionPrev := 0, cause := 1, ok := true, junk := 0 } } }, { gen := 3, active := true, state := 1, bootsLeft := 2, version := 1, versionPrev := 0, cause := 1, ok := true, junk := 0 }, by decide +kernel⟩

theorem witness_RegisterWrites :
    (∃ (s : State) (t : Requester) (a : Word), s.holdsFor t = false ∧ s.servesFor t = true ∧ regMapped a.toNat = false) ∧
    (∃ (s : State) (t : Requester) (a : Word), s.holdsFor t = false ∧ s.servesFor t = true ∧ regMapped a.toNat = true ∧ a.toNat % 4 ≠ 0) ∧
    (∃ (s : State) (t : Requester) (a : Word), s.holdsFor t = false ∧ s.servesFor t = true ∧ regMapped a.toNat = true ∧ a.toNat % 4 = 0 ∧ ((t = 16 ∧ s.sbpWrites = false) ∨ s.mayWrite (whoOf t) a.toNat = false)) ∧
    (∃ (s : State) (t : Requester), s.holdsFor t = true) ∧
    (∃ (s : State) (t : Requester) (a : Word), a.toNat ∈ [RTC_IEN, TT_IEN, OPT_IEN, LED_IEN, ADC_IEN, BKL_IEN, FLK_IEN, FLT_IEN, ARB_IEN] ++ (List.range 4).map CH_IEN ++ (List.range 4).map OUT_IEN ++ (List.range 2).map CAN_IEN ∧ s.takes t a.toNat) ∧
    (∃ (s : State) (t : Requester) (a : Word), a.toNat ∈ [SYS_RST_CAUSE, SYS_CLK_FAULT, SUP_FAULT, SEQ_TOUT, TT_ISTAT, OPT_ISTAT, LED_OPEN, LED_SHORT, ADC_ISTAT, BKL_ISTAT, FLK_ISTAT, FLT_ISTAT, ARB_ISTAT] ∧ s.takes t a.toNat) ∧
    (∃ (s : State) (t : Requester) (w : Word) (b : BoundRec), s.takes t STO_PACE ∧ boundOf s.bounds STO_PACE 0 = some b ∧ bit b.writers (whoOf t) = true ∧ b.min ≤ bits w.toNat 0 16 ∧ bits w.toNat 0 16 ≤ b.max) ∧
    (∃ (s : State) (t : Requester) (w : Word), s.takes t STO_PACE ∧ s.fld STO_PACE 0 16 ≠ bits w.toNat 0 16 ∧ (boundOf s.bounds STO_PACE 0 = none ∨ ∃ b, boundOf s.bounds STO_PACE 0 = some b ∧ (bit b.writers (whoOf t) = false ∨ bits w.toNat 0 16 < b.min ∨ b.max < bits w.toNat 0 16))) ∧
    (∃ (s : State) (t : Requester) (w : Word), s.takes t STO_PACE ∧ s.fld STO_PACE 0 16 = bits w.toNat 0 16) := by
  refine ⟨?_, ?_, ?_, ?_, ?_, ?_, ?_, ?_, ?_⟩
  · exact ⟨run, 0, 0x80800000, by decide +kernel⟩
  · exact ⟨run, 0, 0x80000001, by decide +kernel⟩
  · exact ⟨run, 2, 0x80300008, by decide +kernel⟩
  · exact ⟨{ run with ctl := { State.ctl (run) with phase := .verify false false false } }, 0, by decide +kernel⟩
  · exact ⟨run, 0, BitVec.ofNat 32 (CAN_IEN 1), by unfold State.takes; decide +kernel⟩
  · exact ⟨run.setReg TT_ISTAT 15, 0, BitVec.ofNat 32 TT_ISTAT, by unfold State.takes; decide +kernel⟩
  · exact ⟨(runWith { img with bounds := [{ addr := STO_PACE, lsb := 0, width := 16, writers := 1, min := 5, max := 50 }] }), 0, 50, { addr := STO_PACE, lsb := 0, width := 16, writers := 1, min := 5, max := 50 }, by unfold State.takes; decide +kernel⟩
  · exact ⟨(runWith { img with bounds := [{ addr := STO_PACE, lsb := 0, width := 16, writers := 1, min := 5, max := 50 }] }), 0, 51, by unfold State.takes; decide +kernel⟩
  · exact ⟨run, 0, BitVec.ofNat 32 (run.fld STO_PACE 0 16), by unfold State.takes; decide +kernel⟩

theorem witness_RegionFlagsAndBounds :
    (∃ (s : State) (t : Requester) (lost : Bool) (k : Fin 8), s.takes t ((if lost then MEM_LOST else MEM_STALE) k)) ∧
    (∃ (s : State) (t : Requester) (b : Bool) (w : Word), s.takes t (if b then STR_BQ_BIT else STR_BQ_ADDR)) := by
  refine ⟨?_, ?_⟩
  · exact ⟨run.setReg (MEM_LOST 0) 1, 1, true, 0, by unfold State.takes; decide +kernel⟩
  · exact ⟨(runWith { img with bounds := [{ addr := STO_PACE, lsb := 0, width := 16, writers := 1, min := 5, max := 50 }] }), 0, false, BitVec.ofNat 32 STO_PACE, by unfold State.takes; decide +kernel⟩

theorem witness_Interrupts :
    (∃ (s : State) (t : Requester) (x : Tenant) (w : Word), s.takes t (INT_CTL x) ∧ w.getLsbD 0 = true) ∧
    (∃ (s : State) (t : Requester) (x : Tenant), s.takes t (INT_EN x)) ∧
    (∃ (s : State) (t : Requester) (k : Fin 4), s.takes t (INT_ROUTE k)) := by
  refine ⟨?_, ?_, ?_⟩
  · exact ⟨{ run.setReg (INT_EN 1) 0x200000 with txn := { TxnSt.reset with armed := 0 } }, 1, 1, 1, by unfold State.takes; decide +kernel⟩
  · exact ⟨(run.setReg TT_ISTAT 1).setReg TT_IEN 1, 0, 0, by unfold State.takes; decide +kernel⟩
  · exact ⟨run, 0, 2, by unfold State.takes; decide +kernel⟩

theorem witness_MemoryRequests :
    (∃ (s : State) (p : HostPort) (q : ReqPacket), s.accepts p tyRd q ∧ s.memQuiet ∧ spaceOf (reqOf q.payload).addr (reqOf q.payload).count = .memory ∧ 0 < (reqOf q.payload).count) ∧
    (∃ (s : State) (p : HostPort) (q : ReqPacket), s.accepts p tyWr q ∧ s.memQuiet ∧ spaceOf (reqOf q.payload).addr (reqOf q.payload).count = .memory ∧ 0 < (reqOf q.payload).count) ∧
    (∃ (s : State) (p : HostPort) (q : ReqPacket), s.accepts p tyAt q ∧ s.memQuiet ∧ spaceOf (reqOf q.payload).addr (reqOf q.payload).size = .memory ∧ 0 < (reqOf q.payload).size) := by
  refine ⟨?_, ?_, ?_⟩
  · exact ⟨((((((run.setFld (LNK_STAT 0) 0 2 2).setFlds (PHY_STAT 0) [(0, 4, phActive), (11, 1, 1)]).setFlds (TEN_TAG 1) [(0, 9, 16), (16, 10, 16)])).setFlds (TEN_TAG 0) [(0, 9, 0), (16, 10, 16)]).setFlds (TEN_CFG 0) [(0, 2, 3), (16, 11, 16)]).setFlds (TEN_CFG 1) [(0, 2, 3), (16, 11, 16)], 0, ({ vc := false, tenant := 1, payload := leBytes 4 4090 ++ leBytes 2 17 ++ leBytes 2 6 } : ReqPacket), by unfold State.memQuiet State.accepts State.judges; decide +kernel⟩
  · exact ⟨((((((run.setFld (LNK_STAT 0) 0 2 2).setFlds (PHY_STAT 0) [(0, 4, phActive), (11, 1, 1)]).setFlds (TEN_TAG 1) [(0, 9, 16), (16, 10, 16)])).setFlds (TEN_TAG 0) [(0, 9, 0), (16, 10, 16)]).setFlds (TEN_CFG 0) [(0, 2, 3), (16, 11, 16)]).setFlds (TEN_CFG 1) [(0, 2, 3), (16, 11, 16)], 0, ({ vc := false, tenant := 1, payload := leBytes 4 4090 ++ leBytes 2 17 ++ leBytes 2 6 ++ List.replicate 6 9 } : ReqPacket), by unfold State.memQuiet State.accepts State.judges; decide +kernel⟩
  · exact ⟨((((((run.setFld (LNK_STAT 0) 0 2 2).setFlds (PHY_STAT 0) [(0, 4, phActive), (11, 1, 1)]).setFlds (TEN_TAG 1) [(0, 9, 16), (16, 10, 16)])).setFlds (TEN_TAG 0) [(0, 9, 0), (16, 10, 16)]).setFlds (TEN_CFG 0) [(0, 2, 3), (16, 11, 16)]).setFlds (TEN_CFG 1) [(0, 2, 3), (16, 11, 16)], 0, ({ vc := false, tenant := 1, payload := leBytes 4 8 ++ leBytes 2 17 ++ leBytes 1 0 ++ leBytes 1 8 ++ leBytes 8 7 ++ leBytes 8 0 } : ReqPacket), by unfold State.memQuiet State.accepts State.judges; decide +kernel⟩

theorem witness_RequestsTurnedAway :
    (∃ (s : State) (p : HostPort) (q : ReqPacket), ∃ c ∈ [(tyRd, Instr.readRequest p q), (tyWr, .writeRequest p q), (tyAt, .atomicRequest p q)], s.ctl.phase = .run ∧ (s.away = true ∨ (Held.packet p c.1 q).behind s.txn.held = true) ∧ requestShape c.1 q = true) ∧
    (∃ (s : State) (p : HostPort) (q : ReqPacket) (st : Nat), ∃ c ∈ [(tyRd, Instr.readRequest p q), (tyWr, .writeRequest p q), (tyAt, .atomicRequest p q)], s.judges p c.1 q ∧ s.judge p c.1 q = some st ∧ st ≠ 15 ∧ s.lnkState p = lnUp) ∧
    (∃ (s : State) (p : HostPort) (q : ReqPacket), ∃ c ∈ [(tyRd, Instr.readRequest p q), (tyWr, .writeRequest p q), (tyAt, .atomicRequest p q)], s.judges p c.1 q ∧ s.judge p c.1 q = some 15 ∧ s.faultClass (58 + p) ≤ 3) := by
  refine ⟨?_, ?_, ?_⟩
  · exact ⟨{ ((((((run.setFld (LNK_STAT 0) 0 2 2).setFlds (PHY_STAT 0) [(0, 4, phActive), (11, 1, 1)]).setFlds (TEN_TAG 1) [(0, 9, 16), (16, 10, 16)])).setFlds (TEN_TAG 0) [(0, 9, 0), (16, 10, 16)]).setFlds (TEN_CFG 0) [(0, 2, 3), (16, 11, 16)]).setFlds (TEN_CFG 1) [(0, 2, 3), (16, 11, 16)] with pwr := { PwrSt.reset with portsClosed := true } }, 0, ({ vc := false, tenant := 1, payload := leBytes 4 0 ++ leBytes 2 17 ++ leBytes 2 4 } : ReqPacket), _, .head _, by decide +kernel⟩
  · exact ⟨((((((run.setFld (LNK_STAT 0) 0 2 2).setFlds (PHY_STAT 0) [(0, 4, phActive), (11, 1, 1)]).setFlds (TEN_TAG 1) [(0, 9, 16), (16, 10, 16)])).setFlds (TEN_TAG 0) [(0, 9, 0), (16, 10, 16)]).setFlds (TEN_CFG 0) [(0, 2, 3), (16, 11, 16)]).setFlds (TEN_CFG 1) [(0, 2, 3), (16, 11, 16)], 0, ({ vc := false, tenant := 1, payload := leBytes 4 0x04000000 ++ leBytes 2 17 ++ leBytes 2 4 } : ReqPacket), 1, _, .head _, by unfold State.judges; decide +kernel⟩
  · exact ⟨{ ((((((run.setFld (LNK_STAT 0) 0 2 2).setFlds (PHY_STAT 0) [(0, 4, phActive), (11, 1, 1)]).setFlds (TEN_TAG 1) [(0, 9, 16), (16, 10, 16)])).setFlds (TEN_TAG 0) [(0, 9, 0), (16, 10, 16)]).setFlds (TEN_CFG 0) [(0, 2, 3), (16, 11, 16)]).setFlds (TEN_CFG 1) [(0, 2, 3), (16, 11, 16)] with txn := { TxnSt.reset with tags := [(17, (0, 1))] } }, 0, ({ vc := false, tenant := 1, payload := leBytes 4 0 ++ leBytes 2 17 ++ leBytes 2 4 } : ReqPacket), _, .head _, by unfold State.judges; decide +kernel⟩

theorem witness_HeldRequests :
    (∃ (s : State) (t : Requester) (w : Word), s.txn.held = [.reg t (BitVec.ofNat 32 MEM_ECC_CTRL) w] ∧ s.takes t MEM_ECC_CTRL ∧ s.sbp.wait = none ∧ w.getLsbD 0 = true) ∧
    (∃ (s : State), (∀ h ∈ s.txn.held, s.staysHeld h = true) ∧ s.sbp.wait = none) ∧
    (∃ (s : State) (p : HostPort) (q : ReqPacket), s.txn.held = [.packet p tyRd q] ∧ s.sbp.wait = none ∧ State.accepts { s with txn := { s.txn with held := [] } } p tyRd q ∧ s.memQuiet ∧ spaceOf (reqOf q.payload).addr (reqOf q.payload).count = .memory ∧ 0 < (reqOf q.payload).count) ∧
    (∃ (s : State) (p : HostPort) (q : ReqPacket) (gone : Bool), s.nvHeld = false ∧ s.sto.heldWrites = [] ∧ s.sto.heldReads = [{ port := p, type := tyRd, req := q, again := false, gone := gone }] ∧ spaceOf (reqOf q.payload).addr (reqOf q.payload).count = .nv ∧ 0 < (reqOf q.payload).count ∧ s.lnkState p = lnUp ∧ (s.block (((reqOf q.payload).addr - 0x40000000) / blockSize)).state ≠ .preerasing) ∧
    (∃ (s : State), s.nvHeld = true) ∧
    (∃ (s : State) (p : HostPort) (q : ReqPacket), s.sto.heldWrites = [{ port := p, type := tyWr, req := q, again := false, gone := false }] ∧ formatOk tyWr q.payload = true ∧ s.mem.fill = [] ∧ s.mem.poison = [] ∧ s.mem.weak = [] ∧ s.stoState ≠ 4 ∧ s.lnkState p = lnUp) := by
  refine ⟨?_, ?_, ?_, ?_, ?_, ?_⟩
  · exact ⟨{ run.setReg MEM_ECC_CNT 7 with txn := { TxnSt.reset with held := [.reg 0 (BitVec.ofNat 32 MEM_ECC_CTRL) 1] } }, 0, 1, by unfold State.takes; decide +kernel⟩
  · exact ⟨{ { run with ctl := { State.ctl (run) with phase := .otp } } with txn := { TxnSt.reset with held := [.reg 0 5 1] } }, by decide +kernel⟩
  · exact ⟨{ ((((((run.setFld (LNK_STAT 0) 0 2 2).setFlds (PHY_STAT 0) [(0, 4, phActive), (11, 1, 1)]).setFlds (TEN_TAG 1) [(0, 9, 16), (16, 10, 16)])).setFlds (TEN_TAG 0) [(0, 9, 0), (16, 10, 16)]).setFlds (TEN_CFG 0) [(0, 2, 3), (16, 11, 16)]).setFlds (TEN_CFG 1) [(0, 2, 3), (16, 11, 16)] with txn := { TxnSt.reset with held := [.packet 0 tyRd (({ vc := false, tenant := 1, payload := leBytes 4 0 ++ leBytes 2 17 ++ leBytes 2 6 } : ReqPacket))] } }, 0, ({ vc := false, tenant := 1, payload := leBytes 4 0 ++ leBytes 2 17 ++ leBytes 2 6 } : ReqPacket), by unfold State.memQuiet State.accepts State.judges; decide +kernel⟩
  · exact ⟨{ ((((((run.setFld (LNK_STAT 0) 0 2 2).setFlds (PHY_STAT 0) [(0, 4, phActive), (11, 1, 1)]).setFlds (TEN_TAG 1) [(0, 9, 16), (16, 10, 16)])).setFlds (TEN_TAG 0) [(0, 9, 0), (16, 10, 16)]).setFlds (TEN_CFG 0) [(0, 2, 3), (16, 11, 16)]).setFlds (TEN_CFG 1) [(0, 2, 3), (16, 11, 16)] with txn := { TxnSt.reset with tags := [(17, (0, 1))] }, sto := { StoSt.reset with heldReads := [{ port := 0, type := tyRd, req := ({ vc := false, tenant := 1, payload := leBytes 4 0x40000000 ++ leBytes 2 17 ++ leBytes 2 6 } : ReqPacket), again := false, gone := false }] } }, 0, ({ vc := false, tenant := 1, payload := leBytes 4 0x40000000 ++ leBytes 2 17 ++ leBytes 2 6 } : ReqPacket), false, by decide +kernel⟩
  · exact ⟨{ (((((((run.setFld (LNK_STAT 0) 0 2 2).setFlds (PHY_STAT 0) [(0, 4, phActive), (11, 1, 1)]).setFlds (TEN_TAG 1) [(0, 9, 16), (16, 10, 16)])).setFlds (TEN_TAG 0) [(0, 9, 0), (16, 10, 16)]).setFlds (TEN_CFG 0) [(0, 2, 3), (16, 11, 16)]).setFlds (TEN_CFG 1) [(0, 2, 3), (16, 11, 16)]).setFld STO_STAT 0 3 1 with sto := { StoSt.reset with heldReads := [{ port := 0, type := tyRd, req := ({ vc := false, tenant := 1, payload := leBytes 4 0x40000000 ++ leBytes 2 17 ++ leBytes 2 6 } : ReqPacket), again := false, gone := false }] } }, by decide +kernel⟩
  · exact ⟨{ ((((((run.setFld (LNK_STAT 0) 0 2 2).setFlds (PHY_STAT 0) [(0, 4, phActive), (11, 1, 1)]).setFlds (TEN_TAG 1) [(0, 9, 16), (16, 10, 16)])).setFlds (TEN_TAG 0) [(0, 9, 0), (16, 10, 16)]).setFlds (TEN_CFG 0) [(0, 2, 3), (16, 11, 16)]).setFlds (TEN_CFG 1) [(0, 2, 3), (16, 11, 16)] with txn := { TxnSt.reset with tags := [(17, (0, 1))] }, sto := { StoSt.reset with heldWrites := [{ port := 0, type := tyWr, req := ({ vc := false, tenant := 1, payload := leBytes 4 0 ++ leBytes 2 17 ++ leBytes 2 6 ++ List.replicate 6 9 } : ReqPacket), again := false, gone := false }] } }, 0, ({ vc := false, tenant := 1, payload := leBytes 4 0 ++ leBytes 2 17 ++ leBytes 2 6 ++ List.replicate 6 9 } : ReqPacket), by decide +kernel⟩

theorem witness_Stores :
    (∃ (s : State) (vin : Code), vin.toNat < s.fld STO_DET 0 10 ∧ s.mayTrip = true ∧ s.ladder ≠ 4 ∧ s.ladder ≠ 5 ∧ (s.ctl.phase ≠ .reset ∨ s.ctl.path = .warm ∨ s.pwr.exiting.isSome = true)) ∧
    (∃ (s : State) (vin : Code), vin.toNat < s.fld STO_DET 0 10 ∧ s.mayTrip = true ∧ (s.ladder = 4 ∨ s.ladder = 5 ∨ (s.ctl.phase = .reset ∧ s.ctl.path ≠ .warm ∧ s.pwr.exiting = none))) ∧
    (∃ (s : State) (vin : Code), s.fld STO_DET 0 10 + 4 ≤ vin.toNat) ∧
    (∃ (s : State) (i : Nat) (r : RegionRec), s.stoState = 1 ∧ s.sto.cur = some i ∧ s.regions[i]? = some r) ∧
    (∃ (s : State), s.stoState = 1 ∧ s.sto.metered = false) ∧
    (∃ (s : State) (time : Nat) (vhold : Code), s.stoState = 1 ∧ s.sto.metered = true ∧ State.shortOfRest (takeSample (max time s.sto.time) vhold.toNat s) = true) ∧
    (∃ (s : State), s.stoState = 2 ∧ s.pwr.entry = none ∧ s.ctl.lossFlow = false ∧ s.storeEmpty = false ∧ s.faultClass 31 ≤ 3) ∧
    (∃ (s : State), s.stoState = 2 ∧ s.pwr.entry = none ∧ s.ctl.lossFlow = false ∧ s.storeEmpty = false ∧ s.faultClass 31 ≤ 3) ∧
    (∃ (s : State), s.stoState = 2 ∧ s.pwr.entry = none ∧ s.ctl.lossFlow = false ∧ s.storeEmpty = true) ∧
    (∃ (s : State) (t : Requester) (vhold : Code), s.takes t STO_CTRL ∧ s.admission true vhold.toNat = 0) ∧
    (∃ (s : State) (t : Requester) (vhold : Code), s.takes t STO_CTRL ∧ s.admission true vhold.toNat ≠ 0) ∧
    (∃ (s : State) (vin : Code), s.fld STO_DET 0 10 + s.fld STO_DET 16 10 ≤ vin.toNat ∧ s.ctl.lossFlow = true ∧ s.ctl.supplyBack = false ∧ (s.stoState = 1 ∨ s.stoState = 2)) ∧
    (∃ (s : State) (vin : Code), s.fld STO_DET 0 10 + s.fld STO_DET 16 10 ≤ vin.toNat ∧ s.supplyAway = true ∧ s.ctl.supplyBack = false ∧ s.stoState ≠ 1 ∧ s.stoState ≠ 2) ∧
    (∃ (s : State) (vin : Code), s.fld STO_DET 0 10 + s.fld STO_DET 16 10 ≤ vin.toNat ∧ s.supplyAway = false ∧ s.ctl.phase ≠ .off) ∧
    (∃ (s : State) (vin : Code), vin.toNat + 4 < s.fld STO_DET 0 10 + s.fld STO_DET 16 10) := by
  refine ⟨?_, ?_, ?_, ?_, ?_, ?_, ?_, ?_, ?_, ?_, ?_, ?_, ?_, ?_, ?_⟩
  · exact ⟨(((run.setReg STO_HOLD 100000000).setFlds STO_VLIM [(0, 16, 3000), (16, 16, 60000)]).setFld STO_DET 0 10 500), 400, by decide +kernel⟩
  · exact ⟨(((run.setReg STO_HOLD 100000000).setFlds STO_VLIM [(0, 16, 3000), (16, 16, 60000)]).setFld STO_DET 0 10 500).setFld PWR_STAT 0 3 4, 400, by decide +kernel⟩
  · exact ⟨(((run.setReg STO_HOLD 100000000).setFlds STO_VLIM [(0, 16, 3000), (16, 16, 60000)]).setFld STO_DET 0 10 500), 504, by decide +kernel⟩
  · exact ⟨{ (((run.setReg STO_HOLD 100000000).setFlds STO_VLIM [(0, 16, 3000), (16, 16, 60000)]).setFld STO_STAT 0 3 1) with sto := { StoSt.reset with cur := some 0, gen := 7 } }, 0, ({ base := 0, size := 4096, owner := 1, cls := 0, priority := 0, shareRd := 0, shareWr := 0, flags := 2 } : RegionRec), by decide +kernel⟩
  · exact ⟨{ (((run.setReg STO_HOLD 100000000).setFlds STO_VLIM [(0, 16, 3000), (16, 16, 60000)]).setFld STO_STAT 0 3 1) with sto := { StoSt.reset with cur := some 0, gen := 7 } }, by decide +kernel⟩
  · exact ⟨{ (((run.setReg STO_HOLD 100000000).setFlds STO_VLIM [(0, 16, 3000), (16, 16, 60000)]).setFld STO_STAT 0 3 1) with sto := { StoSt.reset with cur := some 0, gen := 7, metered := true } }, 50, 1, by decide +kernel⟩
  · exact ⟨{ (((run.setReg STO_HOLD 100000000).setFlds STO_VLIM [(0, 16, 3000), (16, 16, 60000)]).setFld STO_STAT 0 3 2) with sto := { StoSt.reset with entries := [entryOf (({ base := 0, size := 4096, owner := 1, cls := 0, priority := 0, shareRd := 0, shareWr := 0, flags := 2 } : RegionRec)) 1], gen := 7, cause := 2, checked := true } }, by decide +kernel⟩
  · exact ⟨{ (((run.setReg STO_HOLD 100000000).setFlds STO_VLIM [(0, 16, 3000), (16, 16, 60000)]).setFld STO_STAT 0 3 2) with sto := { StoSt.reset with entries := [entryOf (({ base := 0, size := 4096, owner := 1, cls := 0, priority := 0, shareRd := 0, shareWr := 0, flags := 2 } : RegionRec)) 1], gen := 7, cause := 2, checked := true } }, by decide +kernel⟩
  · exact ⟨{ (((run.setReg STO_HOLD 100000000).setFlds STO_VLIM [(0, 16, 3000), (16, 16, 60000)]).setFld STO_STAT 0 3 2) with sto := { StoSt.reset with gen := 7 } }, by decide +kernel⟩
  · exact ⟨((run.setReg STO_HOLD 100000000).setFlds STO_VLIM [(0, 16, 3000), (16, 16, 60000)]), 0, 900, by unfold State.takes; decide +kernel⟩
  · exact ⟨((run.setReg STO_HOLD 100000000).setFlds STO_VLIM [(0, 16, 3000), (16, 16, 60000)]), 0, 0, by unfold State.takes; decide +kernel⟩
  · exact ⟨{ ({ (((run.setReg STO_HOLD 100000000).setFlds STO_VLIM [(0, 16, 3000), (16, 16, 60000)]).setFld STO_STAT 0 3 1) with sto := { StoSt.reset with cur := some 0, gen := 7 } }) with ctl := { run.ctl with lossFlow := true } }, 1023, by decide +kernel⟩
  · exact ⟨{ run with ctl := { State.ctl (run) with lossFlow := true } }, 1023, by decide +kernel⟩
  · exact ⟨run.raise STO_DET 31, 1023, by decide +kernel⟩
  · exact ⟨run.setFlds STO_DET [(0, 10, 500), (16, 10, 20)], 515, by decide +kernel⟩

theorem witness_Restores :
    (∃ (s : State), s.stoState = 3 ∧ s.supplyAway = false ∧ s.ctl.phase = .run) ∧
    (∃ (s : State), s.stoState = 3 ∧ s.supplyAway = false ∧ s.ctl.phase = .classA ∧ s.ctl.warmAfterExit = 0) ∧
    (∃ (s : State) (n : Nat) (lo : Nat) (hi : Nat) (area : Bool), s.stoState = 4 ∧ s.fld STO_PACE 0 16 ≠ 0 ∧ s.supplyAway = false ∧ s.nv.hk = .none ∧ s.restoreRuns 1 = [{ lo := lo, hi := hi, kind := .toRestore area }] ∧ s.mem.fill = [{ lo := lo, hi := hi, kind := .toRestore area }] ∧ lo < hi ∧ 0 < n) ∧
    (∃ (s : State) (n : Nat) (lo : Nat) (hi : Nat), s.mem.fill = [{ lo := lo, hi := hi, kind := .toZero }] ∧ lo < hi ∧ 0 < n) := by
  refine ⟨?_, ?_, ?_, ?_⟩
  · exact ⟨{ run.setFld STO_STAT 0 3 3 with mem := { MemSt.reset with fill := [{ lo := 0, hi := 64, kind := .toRestore true }] }, sto := { StoSt.reset with plan := [({ base := 0, size := 4096, owner := 1, cls := 0, priority := 0, shareRd := 0, shareWr := 0, flags := 2 } : RegionRec)] } }, by decide +kernel⟩
  · exact ⟨{ { (run.setFld STO_STAT 0 3 3) with ctl := { State.ctl ((run.setFld STO_STAT 0 3 3)) with phase := .classA } } with mem := { MemSt.reset with fill := [{ lo := 0, hi := 64, kind := .toRestore true }] }, sto := { StoSt.reset with plan := [({ base := 0, size := 4096, owner := 1, cls := 0, priority := 0, shareRd := 0, shareWr := 0, flags := 2 } : RegionRec)] } }, by decide +kernel⟩
  · exact ⟨{ ((runWith { img with regions := [{ base := 0, size := 4096, owner := 1, cls := 1, priority := 0, shareRd := 0, shareWr := 0, flags := 2 }] }).setFld STO_STAT 0 3 4).setFld STO_PACE 0 16 4 with mem := { MemSt.reset with fill := [{ lo := 0, hi := 64, kind := .toRestore true }] }, sto := { StoSt.reset with plan := [{ ({ base := 0, size := 4096, owner := 1, cls := 0, priority := 0, shareRd := 0, shareWr := 0, flags := 2 } : RegionRec) with cls := 1 }] } }, 3, 0, 64, true, by decide +kernel⟩
  · exact ⟨{ run with mem := { MemSt.reset with fill := [{ lo := 5, hi := 64, kind := .toZero }] } }, 3, 5, 64, by decide +kernel⟩

theorem witness_Housekeeping :
    (∃ (s : State) (l : Nat) (reason : Nat), s.hkMayStart 4 = true ∧ s.quarantined = [] ∧ s.flag NVH_CTRL 0 = false ∧ s.nextPreerase = some (l, reason) ∧ s.faultClass 31 ≤ 3) ∧
    (∃ (s : State), s.hkMayStart 4 = true ∧ s.quarantined ≠ [] ∧ s.faultClass 31 ≤ 3) ∧
    (∃ (s : State) (l : Nat) (n : Nat), s.nv.hk = .preerase l n ∧ s.flag NVH_STAT 2 = false ∧ s.vppOn = true ∧ s.faultClass 31 ≤ 3) ∧
    (∃ (s : State) (l : Nat) (n : Nat), s.nv.hk = .preerase l n ∧ s.flag NVH_STAT 2 = false ∧ s.vppOn = true) ∧
    (∃ (s : State) (l : Nat) (n : Nat), s.nv.hk = .preerase l n) ∧
    (∃ (s : State) (b : Fin 768) (t : Nat), s.hkMayStart 2 = true ∧ s.flag NVH_CTRL 0 = false ∧ s.fld NVH_SCRUB 0 16 ≠ 0 ∧ (s.block b).state = .mapped ∧ (b.val < 536 ∨ (540 ≤ b.val ∧ b.val < 764)) ∧ s.leastWornErased [] = some t) ∧
    (∃ (s : State) (l : Nat) (t : Nat), s.hkMayStart 2 = true ∧ s.flag NVH_CTRL 0 = false ∧ s.migration = some (l, t)) ∧
    (∃ (s : State) (l : Nat) (t : Nat) (m : Bool), s.nv.hk = .copy l t m ∧ l ≠ t ∧ l < 764 ∧ t < 764 ∧ (s.block l).state = .mapped ∧ s.vppOn = true ∧ s.faultClass 31 ≤ 3) ∧
    (∃ (s : State) (vin : Code) (l : Nat) (t : Nat) (m : Bool), vin.toNat < s.fld STO_DET 0 10 ∧ s.mayTrip = true ∧ s.ladder ≤ 2 ∧ s.ctl.phase = .run ∧ s.nv.hk = .copy l t m ∧ l ≠ t) := by
  refine ⟨?_, ?_, ?_, ?_, ?_, ?_, ?_, ?_, ?_⟩
  · exact ⟨(run.setBlock 600 { phys := 600, state := .dirty, wear := 3, progTime := 0 }).setBlock 601 { phys := 601, state := .dirty, wear := 1, progTime := 0 }, 601, 1, by decide +kernel⟩
  · exact ⟨run.setBlock 600 { phys := 600, state := .quarantined, wear := 0, progTime := 0 }, by decide +kernel⟩
  · exact ⟨{ run.setBlock 600 { phys := 600, state := .preerasing, wear := 0, progTime := 0 } with nv := { (run.setBlock 600 { phys := 600, state := .preerasing, wear := 0, progTime := 0 }).nv with hk := .preerase 600 0 } }, 600, 0, by decide +kernel⟩
  · exact ⟨{ run.setBlock 600 { phys := 600, state := .preerasing, wear := 0, progTime := 0 } with nv := { (run.setBlock 600 { phys := 600, state := .preerasing, wear := 0, progTime := 0 }).nv with hk := .preerase 600 0 } }, 600, 0, by decide +kernel⟩
  · exact ⟨{ run.setBlock 600 { phys := 600, state := .preerasing, wear := 0, progTime := 0 } with nv := { (run.setBlock 600 { phys := 600, state := .preerasing, wear := 0, progTime := 0 }).nv with hk := .preerase 600 0 } }, 600, 0, by decide +kernel⟩
  · exact ⟨((run.setFld NVH_SCRUB 0 16 5).setBlock 7 { phys := 7, state := .mapped, wear := 0, progTime := 0 }).setBlock 600 { phys := 600, state := .erased, wear := 0, progTime := 0 }, 7, 540, by decide +kernel⟩
  · exact ⟨((run.setFld NVH_WL 0 16 5).setBlock 7 { phys := 7, state := .mapped, wear := 0, progTime := 0 }).setBlock 600 { phys := 600, state := .erased, wear := 100, progTime := 0 }, 0, 600, by decide +kernel⟩
  · exact ⟨{ run.setBlock 600 { phys := 600, state := .erased, wear := 0, progTime := 0 } with nv := { ((run.setBlock 600 { phys := 600, state := .erased, wear := 0, progTime := 0 }).setBlock 7 { phys := 7, state := .mapped, wear := 0, progTime := 0 }).nv with hk := .copy 7 600 false } }, 7, 600, false, by decide +kernel⟩
  · exact ⟨{ (run.setBlock 600 { phys := 600, state := .erased, wear := 0, progTime := 0 }).setFlds STO_DET [(0, 10, 500), (16, 10, 20)] with nv := { ((run.setBlock 600 { phys := 600, state := .dirty, wear := 0, progTime := 0 }).setBlock 7 { phys := 7, state := .mapped, wear := 0, progTime := 0 }).nv with hk := .copy 7 600 false } }, 400, 7, 600, false, by decide +kernel⟩

theorem witness_Descents :
    (∃ (s : State) (t : Requester) (w : Word), s.takes t PWR_REQ ∧ s.voter (whoOf t) = true ∧ s.awake ∧ s.joined = false) ∧
    (∃ (s : State) (t : Requester), s.takes t PWR_REQ ∧ s.voter (whoOf t) = true) ∧
    (∃ (s : State) (t : Requester), s.holdsFor t = false ∧ s.servesFor t = true ∧ s.mayWrite (whoOf t) PWR_REQ = false) ∧
    (∃ (s : State) (t : Requester) (w : Word), let v := { s with pwr := { s.pwr with votes := tset 0 s.pwr.votes (whoOf t) (w.toNat % 8) } }; s.takes t PWR_REQ ∧ s.voter (whoOf t) = true ∧ s.ladder = 0 ∧ s.joined = false ∧ s.mayDescend = true ∧ 3 ≤ State.targetNow v ∧ s.descentHeld (State.targetNow v) = false) ∧
    (∃ (s : State) (vhold : Code), s.flag PWR_STAT 10 = true ∧ s.descentHeld s.targetNow = false ∧ s.mayDescend = true ∧ s.ladder = 0 ∧ s.joined = false ∧ 3 ≤ s.targetNow ∧ s.refuseCode s.targetNow vhold.toNat = 0) ∧
    (∃ (s : State), s.flag PWR_STAT 10 = true ∧ s.descentHeld s.targetNow = false ∧ s.targetNow < 2) ∧
    (∃ (s : State), s.pwr.refused.isSome = true ∧ s.mayDescend = true ∧ s.ladder = 0 ∧ 3 ≤ s.targetNow ∧ s.descentHeld s.targetNow = false ∧ s.joined = false) ∧
    (∃ (s : State), s.idle = true ∧ s.ladder = 0 ∧ 1 ≤ s.targetNow ∧ s.reg PWR_AUTO_P1 ≠ 0) ∧
    (∃ (s : State), s.idle = true ∧ s.ladder = 1 ∧ 2 ≤ s.targetNow ∧ s.reg PWR_AUTO_P2 ≠ 0) := by
  refine ⟨?_, ?_, ?_, ?_, ?_, ?_, ?_, ?_, ?_⟩
  · exact ⟨(run.setFld PWR_DEEPEST 0 3 6), 0, 2, by unfold State.takes State.awake; decide +kernel⟩
  · exact ⟨(run.setFld PWR_DEEPEST 0 3 6), 1, by unfold State.takes; decide +kernel⟩
  · exact ⟨run, 2, by decide +kernel⟩
  · exact ⟨{ ((((((run.setReg STO_HOLD 100000000).setFlds STO_VLIM [(0, 16, 3000), (16, 16, 60000)]).setFld PWR_DEEPEST 0 3 6).setFld PWR_WAKE_EN 0 8 0xFF))) with pwr := { State.pwr (((((((run.setReg STO_HOLD 100000000).setFlds STO_VLIM [(0, 16, 3000), (16, 16, 60000)]).setFld PWR_DEEPEST 0 3 6).setFld PWR_WAKE_EN 0 8 0xFF)))) with votes := [(0, 0), (1, 4)] } }, 0, 4, by unfold State.takes; dsimp only; decide +kernel⟩
  · exact ⟨{ ((((((((run.setReg STO_HOLD 100000000).setFlds STO_VLIM [(0, 16, 3000), (16, 16, 60000)]).setFld PWR_DEEPEST 0 3 6).setFld PWR_WAKE_EN 0 8 0xFF)))).raise PWR_STAT 10) with pwr := { State.pwr (((((((((run.setReg STO_HOLD 100000000).setFlds STO_VLIM [(0, 16, 3000), (16, 16, 60000)]).setFld PWR_DEEPEST 0 3 6).setFld PWR_WAKE_EN 0 8 0xFF)))).raise PWR_STAT 10)) with votes := [(0, 5), (1, 6)] } }, 900, by decide +kernel⟩
  · exact ⟨{ ((((((((run.setReg STO_HOLD 100000000).setFlds STO_VLIM [(0, 16, 3000), (16, 16, 60000)]).setFld PWR_DEEPEST 0 3 6).setFld PWR_WAKE_EN 0 8 0xFF)))).raise PWR_STAT 10) with pwr := { State.pwr (((((((((run.setReg STO_HOLD 100000000).setFlds STO_VLIM [(0, 16, 3000), (16, 16, 60000)]).setFld PWR_DEEPEST 0 3 6).setFld PWR_WAKE_EN 0 8 0xFF)))).raise PWR_STAT 10)) with votes := [(0, 1), (1, 6)] } }, by decide +kernel⟩
  · exact ⟨{ { ((((((run.setReg STO_HOLD 100000000).setFlds STO_VLIM [(0, 16, 3000), (16, 16, 60000)]).setFld PWR_DEEPEST 0 3 6).setFld PWR_WAKE_EN 0 8 0xFF))) with pwr := { State.pwr (((((((run.setReg STO_HOLD 100000000).setFlds STO_VLIM [(0, 16, 3000), (16, 16, 60000)]).setFld PWR_DEEPEST 0 3 6).setFld PWR_WAKE_EN 0 8 0xFF)))) with votes := [(0, 5), (1, 6)] } } with pwr := { PwrSt.reset with votes := [(0, 5), (1, 6)], refused := some 5 } }, by decide +kernel⟩
  · exact ⟨{ (((((((run.setReg STO_HOLD 100000000).setFlds STO_VLIM [(0, 16, 3000), (16, 16, 60000)]).setFld PWR_DEEPEST 0 3 6).setFld PWR_WAKE_EN 0 8 0xFF))).setReg PWR_AUTO_P1 5) with pwr := { State.pwr ((((((((run.setReg STO_HOLD 100000000).setFlds STO_VLIM [(0, 16, 3000), (16, 16, 60000)]).setFld PWR_DEEPEST 0 3 6).setFld PWR_WAKE_EN 0 8 0xFF))).setReg PWR_AUTO_P1 5)) with votes := [(0, 1), (1, 2)] } }, by decide +kernel⟩
  · exact ⟨{ ((((((((run.setReg STO_HOLD 100000000).setFlds STO_VLIM [(0, 16, 3000), (16, 16, 60000)]).setFld PWR_DEEPEST 0 3 6).setFld PWR_WAKE_EN 0 8 0xFF))).setReg PWR_AUTO_P2 5).setFld PWR_STAT 0 3 1) with pwr := { State.pwr (((((((((run.setReg STO_HOLD 100000000).setFlds STO_VLIM [(0, 16, 3000), (16, 16, 60000)]).setFld PWR_DEEPEST 0 3 6).setFld PWR_WAKE_EN 0 8 0xFF))).setReg PWR_AUTO_P2 5).setFld PWR_STAT 0 3 1)) with votes := [(0, 2), (1, 2)] } }, by decide +kernel⟩

theorem witness_LadderSteps :
    (∃ (s : State) (t : Nat), s.pwr.entry = some (t, .drain) ∧ s.drained = true ∧ t ≠ 6) ∧
    (∃ (s : State), s.pwr.entry = some (6, .drain) ∧ s.drained = true) ∧
    (∃ (s : State), s.pwr.entry = some (1, .last) ∧ s.pwr.lateWake = none ∧ s.joined = false ∧ 1 ≤ s.targetNow ∧ s.targetNow < 3) ∧
    (∃ (s : State), s.pwr.entry = some (2, .last) ∧ s.pwr.lateWake = none ∧ s.joined = false ∧ 2 ≤ s.targetNow ∧ s.targetNow < 3) ∧
    (∃ (s : State) (t : Nat), s.pwr.entry = some (t, .last) ∧ (t = 3 ∨ t = 4) ∧ s.portsIdle = true ∧ s.pwr.lateWake = none) ∧
    (∃ (s : State) (t : Nat), s.pwr.entry = some (t, .black) ∧ (t = 5 ∨ t = 6) ∧ s.allBlack = true ∧ s.seqState = seqOff ∧ s.portsIdle = true ∧ s.updQuiet ∧ s.pwr.lateWake = none) ∧
    (∃ (s : State) (n : Nat), s.pwr.exiting = some n ∧ n ≤ 4 ∧ s.supplyAway = false ∧ s.ctl.warmAfterExit = 0 ∧ s.joined = false ∧ s.pwr.entry = none ∧ s.targetNow < 3) := by
  refine ⟨?_, ?_, ?_, ?_, ?_, ?_, ?_⟩
  · exact ⟨{ modLnk 0 (fun l => { l with quiet := true }) (modLnk 1 (fun l => { l with quiet := true }) (modLnk 2 (fun l => { l with quiet := true }) (modLnk 3 (fun l => { l with quiet := true }) ((((((run.setReg STO_HOLD 100000000).setFlds STO_VLIM [(0, 16, 3000), (16, 16, 60000)]).setFld PWR_DEEPEST 0 3 6).setFld PWR_WAKE_EN 0 8 0xFF)))))) with pwr := { State.pwr (modLnk 0 (fun l => { l with quiet := true }) (modLnk 1 (fun l => { l with quiet := true }) (modLnk 2 (fun l => { l with quiet := true }) (modLnk 3 (fun l => { l with quiet := true }) ((((((run.setReg STO_HOLD 100000000).setFlds STO_VLIM [(0, 16, 3000), (16, 16, 60000)]).setFld PWR_DEEPEST 0 3 6).setFld PWR_WAKE_EN 0 8 0xFF))))))) with entry := some (5, .drain) } }, 5, by decide +kernel⟩
  · exact ⟨{ modLnk 0 (fun l => { l with quiet := true }) (modLnk 1 (fun l => { l with quiet := true }) (modLnk 2 (fun l => { l with quiet := true }) (modLnk 3 (fun l => { l with quiet := true }) ((((((run.setReg STO_HOLD 100000000).setFlds STO_VLIM [(0, 16, 3000), (16, 16, 60000)]).setFld PWR_DEEPEST 0 3 6).setFld PWR_WAKE_EN 0 8 0xFF)))))) with pwr := { State.pwr (modLnk 0 (fun l => { l with quiet := true }) (modLnk 1 (fun l => { l with quiet := true }) (modLnk 2 (fun l => { l with quiet := true }) (modLnk 3 (fun l => { l with quiet := true }) ((((((run.setReg STO_HOLD 100000000).setFlds STO_VLIM [(0, 16, 3000), (16, 16, 60000)]).setFld PWR_DEEPEST 0 3 6).setFld PWR_WAKE_EN 0 8 0xFF))))))) with entry := some (6, .drain) } }, by decide +kernel⟩
  · exact ⟨{ ((((((run.setReg STO_HOLD 100000000).setFlds STO_VLIM [(0, 16, 3000), (16, 16, 60000)]).setFld PWR_DEEPEST 0 3 6).setFld PWR_WAKE_EN 0 8 0xFF))) with pwr := { State.pwr (((((((run.setReg STO_HOLD 100000000).setFlds STO_VLIM [(0, 16, 3000), (16, 16, 60000)]).setFld PWR_DEEPEST 0 3 6).setFld PWR_WAKE_EN 0 8 0xFF)))) with entry := some (1, .last), votes := [(0, 1), (1, 2)] } }, by decide +kernel⟩
  · exact ⟨{ ((((((run.setReg STO_HOLD 100000000).setFlds STO_VLIM [(0, 16, 3000), (16, 16, 60000)]).setFld PWR_DEEPEST 0 3 6).setFld PWR_WAKE_EN 0 8 0xFF))) with pwr := { State.pwr (((((((run.setReg STO_HOLD 100000000).setFlds STO_VLIM [(0, 16, 3000), (16, 16, 60000)]).setFld PWR_DEEPEST 0 3 6).setFld PWR_WAKE_EN 0 8 0xFF)))) with entry := some (2, .last), votes := [(0, 2), (1, 2)] } }, by decide +kernel⟩
  · exact ⟨{ ((((((run.setReg STO_HOLD 100000000).setFlds STO_VLIM [(0, 16, 3000), (16, 16, 60000)]).setFld PWR_DEEPEST 0 3 6).setFld PWR_WAKE_EN 0 8 0xFF))) with pwr := { State.pwr (((((((run.setReg STO_HOLD 100000000).setFlds STO_VLIM [(0, 16, 3000), (16, 16, 60000)]).setFld PWR_DEEPEST 0 3 6).setFld PWR_WAKE_EN 0 8 0xFF)))) with entry := some (3, .last) } }, 3, by decide +kernel⟩
  · exact ⟨{ ((((((run.setReg STO_HOLD 100000000).setFlds STO_VLIM [(0, 16, 3000), (16, 16, 60000)]).setFld PWR_DEEPEST 0 3 6).setFld PWR_WAKE_EN 0 8 0xFF))) with pwr := { State.pwr (((((((run.setReg STO_HOLD 100000000).setFlds STO_VLIM [(0, 16, 3000), (16, 16, 60000)]).setFld PWR_DEEPEST 0 3 6).setFld PWR_WAKE_EN 0 8 0xFF)))) with entry := some (5, .black) } }, 5, by unfold State.updQuiet; decide +kernel⟩
  · exact ⟨{ ((((((run.setReg STO_HOLD 100000000).setFlds STO_VLIM [(0, 16, 3000), (16, 16, 60000)]).setFld PWR_DEEPEST 0 3 6).setFld PWR_WAKE_EN 0 8 0xFF))).setFld PWR_STAT 0 3 1 with pwr := { PwrSt.reset with exiting := some 1 } }, 1, by decide +kernel⟩

theorem witness_Wakes :
    (∃ (s : State) (w : Word), w.getLsbD 0 = true ∧ 1 ≤ s.ladder ∧ s.ladder ≤ 4 ∧ s.pwr.entry = none ∧ s.pwr.exiting = none ∧ s.ctl.phase = .run) ∧
    (∃ (s : State) (w : Word), w.getLsbD 0 = true ∧ s.ladder = 5 ∧ s.flag PWR_WAKE_EN 7 = true ∧ s.pwr.entry = none ∧ s.pwr.exiting = none ∧ s.ctl.phase = .off) ∧
    (∃ (s : State) (w : Word), w.getLsbD 0 = true ∧ s.ladder = 6 ∧ s.flag PWR_WAKE_EN 7 = true ∧ s.pwr.entry = none ∧ s.pwr.exiting = none ∧ s.ctl.phase = .off) ∧
    (∃ (s : State), (s.ladder = 5 ∨ s.ladder = 6) ∧ s.flag PWR_WAKE_EN 4 = true ∧ s.pwr.entry = none ∧ s.pwr.exiting = none ∧ s.ctl.phase = .off ∧ s.rtc.cdLeft = some 0 ∧ s.rtc.stopped = false ∧ s.rtc.pendCd = []) ∧
    (∃ (s : State) (n : Fin 4) (level : Bool) (k : Nat), (s.ladder = 5 ∨ s.ladder = 6) ∧ s.flag PWR_WAKE_EN n = true ∧ s.evtWakes n = true ∧ s.pwr.entry = none ∧ s.pwr.exiting = none ∧ s.ctl.phase = .off ∧ s.rtc.stopped = false ∧ s.fld (EVT_CFG n) 16 9 < k ∧ s.rtc.por = false ∧ s.evt.level.getLsbD n.val = !level ∧ bit (s.fld (EVT_CFG n) 0 2) (if level then 0 else 1) = true) ∧
    (∃ (s : State), s.awake) ∧
    (∃ (s : State) (p : Port), s.portEnabled p = true ∧ s.phyState p = phIdle ∧ s.awake ∧ s.ctl.phase = .run) ∧
    (∃ (s : State) (p : Port), s.portEnabled p = true ∧ s.phyState p = phIdle ∧ 1 ≤ s.ladder ∧ s.ladder ≤ 4 ∧ s.pwr.entry = none ∧ s.pwr.exiting = none ∧ s.ctl.phase = .run ∧ s.pwr.upAtEntry.getLsbD p = true) ∧
    (∃ (s : State) (c : Fin 2), s.canWakes c s.ladder = true ∧ s.canHears c = true ∧ 1 ≤ s.ladder ∧ s.ladder ≤ 4 ∧ s.pwr.entry = none ∧ s.pwr.exiting = none ∧ s.ctl.phase = .run) := by
  refine ⟨?_, ?_, ?_, ?_, ?_, ?_, ?_, ?_, ?_⟩
  · exact ⟨((((((run.setReg STO_HOLD 100000000).setFlds STO_VLIM [(0, 16, 3000), (16, 16, 60000)]).setFld PWR_DEEPEST 0 3 6).setFld PWR_WAKE_EN 0 8 0xFF))).setFld PWR_STAT 0 3 1, 1, by decide +kernel⟩
  · exact ⟨{ (((((((run.setReg STO_HOLD 100000000).setFlds STO_VLIM [(0, 16, 3000), (16, 16, 60000)]).setFld PWR_DEEPEST 0 3 6).setFld PWR_WAKE_EN 0 8 0xFF))).setFld PWR_STAT 0 3 5) with ctl := { State.ctl ((((((((run.setReg STO_HOLD 100000000).setFlds STO_VLIM [(0, 16, 3000), (16, 16, 60000)]).setFld PWR_DEEPEST 0 3 6).setFld PWR_WAKE_EN 0 8 0xFF))).setFld PWR_STAT 0 3 5)) with phase := .off, pmicOn := false, railsOk := false } }, 1, by decide +kernel⟩
  · exact ⟨{ (((((((((run.setReg STO_HOLD 100000000).setFlds STO_VLIM [(0, 16, 3000), (16, 16, 60000)]).setFld PWR_DEEPEST 0 3 6).setFld PWR_WAKE_EN 0 8 0xFF))).setFld PWR_STAT 0 3 6).setReg PWR_WAKE_EN 0xFFF).setFld (EVT_CFG 2) 0 3 7) with ctl := { State.ctl ((((((((((run.setReg STO_HOLD 100000000).setFlds STO_VLIM [(0, 16, 3000), (16, 16, 60000)]).setFld PWR_DEEPEST 0 3 6).setFld PWR_WAKE_EN 0 8 0xFF))).setFld PWR_STAT 0 3 6).setReg PWR_WAKE_EN 0xFFF).setFld (EVT_CFG 2) 0 3 7)) with phase := .off, pmicOn := false, railsOk := false } }, 1, by decide +kernel⟩
  · exact ⟨{ { (((((((((run.setReg STO_HOLD 100000000).setFlds STO_VLIM [(0, 16, 3000), (16, 16, 60000)]).setFld PWR_DEEPEST 0 3 6).setFld PWR_WAKE_EN 0 8 0xFF))).setFld PWR_STAT 0 3 5).setReg PWR_WAKE_EN 0xFFF).setFld (EVT_CFG 2) 0 3 7) with ctl := { State.ctl ((((((((((run.setReg STO_HOLD 100000000).setFlds STO_VLIM [(0, 16, 3000), (16, 16, 60000)]).setFld PWR_DEEPEST 0 3 6).setFld PWR_WAKE_EN 0 8 0xFF))).setFld PWR_STAT 0 3 5).setReg PWR_WAKE_EN 0xFFF).setFld (EVT_CFG 2) 0 3 7)) with phase := .off, pmicOn := false, railsOk := false } } with rtc := { RtcSt.reset with cdLeft := some 0 } }, by decide +kernel⟩
  · exact ⟨{ (((((((((run.setReg STO_HOLD 100000000).setFlds STO_VLIM [(0, 16, 3000), (16, 16, 60000)]).setFld PWR_DEEPEST 0 3 6).setFld PWR_WAKE_EN 0 8 0xFF))).setFld PWR_STAT 0 3 5).setReg PWR_WAKE_EN 0xFFF).setFld (EVT_CFG 2) 0 3 7) with ctl := { State.ctl ((((((((((run.setReg STO_HOLD 100000000).setFlds STO_VLIM [(0, 16, 3000), (16, 16, 60000)]).setFld PWR_DEEPEST 0 3 6).setFld PWR_WAKE_EN 0 8 0xFF))).setFld PWR_STAT 0 3 5).setReg PWR_WAKE_EN 0xFFF).setFld (EVT_CFG 2) 0 3 7)) with phase := .off, pmicOn := false, railsOk := false } }, 2, true, 1, by decide +kernel⟩
  · exact ⟨run, by unfold State.awake; decide +kernel⟩
  · exact ⟨run, 0, by unfold State.awake; decide +kernel⟩
  · exact ⟨{ ((((((run.setReg STO_HOLD 100000000).setFlds STO_VLIM [(0, 16, 3000), (16, 16, 60000)]).setFld PWR_DEEPEST 0 3 6).setFld PWR_WAKE_EN 0 8 0xFF))).setFld PWR_STAT 0 3 2 with pwr := { PwrSt.reset with upAtEntry := 3 } }, 1, by decide +kernel⟩
  · exact ⟨((runWith { img with canctls := [{ ctrl := 0, flags := 7, nbrp := 1, ntseg1 := 3, ntseg2 := 2, nsjw := 1, dbrp := 1, dtseg1 := 3, dtseg2 := 2, dsjw := 1, tdco := 0, presenceId := 0x123 }] }).setFlds (CAN_STAT 0) [(0, 2, 1), (3, 1, 1)]).setFld PWR_STAT 0 3 2, 0, by decide +kernel⟩

theorem witness_Measurement :
    (∃ (s : State) (ch : Fin 41), s.converts ch = true ∧ ch.val < 32) ∧
    (∃ (s : State), s.converts 32 = true ∧ s.railsWf) ∧
    (∃ (s : State) (k : Fin 6) (code : Code), s.converts (33 + k) = true ∧ tget 0 s.adc.hotRun k < 2 ∧ s.flag ADC_HOT k = false ∧ s.railsWf) ∧
    (∃ (s : State) (k : Fin 6) (code : Code), s.converts (33 + k) = true ∧ 2 ≤ tget 0 s.adc.hotRun k ∧ s.flag ADC_HOT k = false ∧ s.faultClass 76 ≤ 3 ∧ s.railsWf ∧ toSigned 12 (s.fld ADC_TALARM 0 12) ≤ toSigned 12 (ofSigned 12 (Config.temperature k code.toNat s.otp.force.analog))) ∧
    (∃ (s : State) (code : Code), s.converts 40 = true ∧ (code.toNat < 845 ∨ 861 < code.toNat) ∧ s.faultClass 77 ≤ 3 ∧ s.railsWf) ∧
    (∃ (s : State) (code : Code), s.converts 40 = true ∧ 845 ≤ code.toNat ∧ code.toNat ≤ 861 ∧ s.railsWf) ∧
    (∃ (s : State), s.adcRuns = true) ∧
    (∃ (s : State) (t : Requester) (n : Fin 32), s.takes t (ADC_CH_CFG n)) ∧
    (∃ (s : State) (l : List PdRun), s.fld OPT_ALS 0 10 ≠ 0 ∧ s.ladder = 0 ∧ (l.map (·.count)).sum = 96 * s.fld OPT_ALS 0 10) := by
  refine ⟨?_, ?_, ?_, ?_, ?_, ?_, ?_, ?_, ?_⟩
  · exact ⟨{ run with adc := { AdcSt.reset with slots0 := List.replicate 49 5 ++ [40], slots1 := List.replicate 50 32 } }, 5, by decide +kernel⟩
  · exact ⟨{ run with adc := { AdcSt.reset with slots0 := List.replicate 49 5 ++ [40], slots1 := List.replicate 50 32 } }, by decide +kernel⟩
  · exact ⟨{ run with adc := { AdcSt.reset with slots0 := List.replicate 49 5 ++ [40], slots1 := List.replicate 50 35 } }, 2, 700, by decide +kernel⟩
  · exact ⟨{ run.setFld ADC_TALARM 0 12 0x800 with adc := { AdcSt.reset with slots0 := List.replicate 49 5 ++ [40], slots1 := List.replicate 50 35, hotRun := [(2, 2)] } }, 2, 700, by refine ⟨by decide +kernel, by decide +kernel, by decide +kernel, by decide +kernel, by decide +kernel, ?_⟩; exact le_trans (b := (-2048 : Int)) (by decide +kernel) (toSigned_ge _)⟩
  · exact ⟨{ run with adc := { AdcSt.reset with slots0 := List.replicate 49 5 ++ [40], slots1 := List.replicate 50 32 } }, 844, by decide +kernel⟩
  · exact ⟨{ run with adc := { AdcSt.reset with slots0 := List.replicate 49 5 ++ [40], slots1 := List.replicate 50 32 } }, 845, by decide +kernel⟩
  · exact ⟨run.setFld (ADC_CH_CFG 5) 0 1 1, by decide +kernel⟩
  · exact ⟨run, 0, 3, by unfold State.takes; decide +kernel⟩
  · exact ⟨run.setFld OPT_ALS 0 10 1, [{ code := 7, rail := false, count := 96 }], by decide +kernel⟩

theorem witness_Backlights :
    (∃ (s : State) (n : Fin 4), s.bklLocked n = false) ∧
    (∃ (s : State) (n : Fin 4), s.bklLocked n = true) ∧
    (∃ (s : State) (n : Fin 4), s.chState n = chRun ∧ s.flag (OUT_STAT n) 8 = true) ∧
    (∃ (s : State) (n : Fin 4), (s.chanOf n).bklOn = true) := by
  refine ⟨?_, ?_, ?_, ?_⟩
  · exact ⟨(run.setReg (BKL_DUTY 1) 5).setFld (BKL_PER 1) 0 19 2499, 1, by decide +kernel⟩
  · exact ⟨run.raise BKL_STAT 6, 2, by decide +kernel⟩
  · exact ⟨(setChState 0 chRun run).raise (OUT_STAT 0) 8, 0, by decide +kernel⟩
  · exact ⟨modChan 0 (fun c => { c with bklOn := true }) run, 0, by decide +kernel⟩

theorem witness_Sideband :
    (∃ (s : State), s.sbp.open_ = false ∧ s.rtc.por = false) ∧
    (∃ (s : State) (f : List Byte) (n : Nat), ∃ c ∈ [Instr.sbpRead f n, .sbpWrite f], s.sbp.open_ = true ∧ s.sbp.wait = none ∧ s.sbp.burst = none ∧ s.frameCheck f ≠ 0) ∧
    (∃ (s : State) (f : List Byte) (n : Nat), s.sbp.open_ = true ∧ s.sbp.wait = none ∧ s.sbp.burst = none ∧ s.frameCheck f = 0 ∧ sbpOp f = 1 ∧ frameCrc f = false ∧ frameAddr f = 0 ∧ frameCount f = 1 ∧ 0 < n) ∧
    (∃ (s : State) (f : List Byte), s.sbp.open_ = true ∧ s.sbp.wait = none ∧ s.sbp.burst = none ∧ s.frameCheck f = 0 ∧ sbpOp f = 1 ∧ frameAddr f = 0 ∧ frameCount f = 2) ∧
    (∃ (s : State) (f : List Byte) (n : Nat), s.sbp.open_ = true ∧ s.sbp.wait = none ∧ s.sbp.burst = some (f, 1) ∧ frameCrc f = false ∧ frameAddr f = 0 ∧ frameCount f = 2 ∧ 0 < n) ∧
    (∃ (s : State) (f : List Byte), s.sbp.open_ = true ∧ s.sbp.wait = none ∧ s.sbp.burst = none ∧ s.frameCheck f = 0 ∧ sbpOp f = 2 ∧ frameAddr f = 4 ∧ frameCount f = 1) ∧
    (∃ (s : State) (f : List Byte), s.sbp.open_ = true ∧ s.sbp.wait = none ∧ s.sbp.burst = none ∧ s.frameCheck f = 0 ∧ sbpOp f = 2 ∧ frameAddr f = 0xA054 ∧ frameCount f = 1) ∧
    (∃ (s : State) (f : List Byte) (n : Nat), ∃ c ∈ [Instr.sbpRead f n, .sbpWrite f], s.sbp.open_ = true ∧ s.sbp.wait = none ∧ s.sbp.burst = none ∧ s.frameCheck f = 0 ∧ s.frameWaits f = true) ∧
    (∃ (s : State) (f : List Byte), s.sbp.wait = some f) := by
  refine ⟨?_, ?_, ?_, ?_, ?_, ?_, ?_, ?_, ?_⟩
  · exact ⟨run, by decide +kernel⟩
  · exact ⟨{ run with sbp := { SbpSt.reset with open_ := true } }, [0x11, 0, 0, 0, 1], 1, _, .head _, by decide +kernel⟩
  · exact ⟨{ run with sbp := { SbpSt.reset with open_ := true } }, [0x10, 0, 0, 0, 1], 1, by decide +kernel⟩
  · exact ⟨{ run with sbp := { SbpSt.reset with open_ := true } }, [0x10, 0, 0, 0, 2], by decide +kernel⟩
  · exact ⟨{ run with sbp := { SbpSt.reset with open_ := true, burst := some ([0x10, 0, 0, 0, 2], 1), resp := [1], scratch := 7 } }, [0x10, 0, 0, 0, 2], 1, by decide +kernel⟩
  · exact ⟨{ run with sbp := { SbpSt.reset with open_ := true } }, [0x20, 0, 0, 4, 1, 1, 2, 3, 4], by decide +kernel⟩
  · exact ⟨{ run with sbp := { SbpSt.reset with open_ := true } }, [0x20, 0, 0xA0, 0x54, 1, 1, 2, 3, 0xF], by decide +kernel⟩
  · exact ⟨{ { run with ctl := { State.ctl (run) with phase := .otp } } with sbp := { SbpSt.reset with open_ := true } }, [0x10, 0x80, 0, 0, 1], 1, _, .head _, by decide +kernel⟩
  · exact ⟨{ run with sbp := { SbpSt.reset with open_ := true, wait := some [0x10, 0x80, 0, 0, 1] } }, [0x10, 0x80, 0, 0, 1], by decide +kernel⟩

theorem witness_PortTraining :
    (∃ (s : State) (p : Port), s.phyState p = phCdr) ∧
    (∃ (s : State) (p : Port) (hits : List LaneHit) (m : List Nat), s.phyState p = phSearch ∧ s.portLanes p ≤ 4 ∧ laneMap (s.portLanes p) hits = some m) ∧
    (∃ (s : State) (p : Port), s.phyState p = phSearch) ∧
    (∃ (s : State) (p : Port), s.phyState p = phVerify) ∧
    (∃ (s : State) (p : Port) (l : List LockPeriod), s.phyState p = phVerify ∧ lockTest l = true) ∧
    (∃ (s : State) (p : Port) (l : List LockPeriod), s.phyState p = phVerify ∧ lockTest l = true) ∧
    (∃ (l : List LockPeriod), (l.length ≠ 4 ∨ (∃ r ∈ l, r.hit = false ∨ r.decoded ≠ 64) ∨ (l.filter fun r => r.corrected = 0).length < 3)) ∧
    (∃ (s : State) (p : Port), s.phyState p = phActive ∧ s.locked p = true) ∧
    (∃ (s : State) (p : Port), s.locked p = true) ∧
    (∃ (s : State) (p : Port), s.phyState p = phActive) ∧
    (∃ (s : State) (p : Port), (s.phyState p = phExchange ∨ s.phyState p = phActive)) := by
  refine ⟨?_, ?_, ?_, ?_, ?_, ?_, ?_, ?_, ?_, ?_, ?_⟩
  · exact ⟨(setPhyState 0 phCdr run), 0, by decide +kernel⟩
  · exact ⟨(setPhyState 0 phSearch run), 0, [{ lid := 0x140, inverted := true }], [0], by decide +kernel⟩
  · exact ⟨(setPhyState 0 phSearch run), 0, by decide +kernel⟩
  · exact ⟨(setPhyState 0 phVerify run), 0, by decide +kernel⟩
  · exact ⟨(setPhyState 0 phVerify run), 0, List.replicate 4 { hit := true, decoded := 64, corrected := 0 }, by decide +kernel⟩
  · exact ⟨(setPhyState 0 phVerify run), 0, List.replicate 4 { hit := true, decoded := 64, corrected := 0 }, by decide +kernel⟩
  · exact ⟨List.replicate 3 { hit := true, decoded := 64, corrected := 0 }, by decide +kernel⟩
  · exact ⟨((setPhyState 0 phActive run).raise (PHY_STAT 0) 11), 0, by decide +kernel⟩
  · exact ⟨modPhy 0 (fun k => { k with misses := 2 }) ((setPhyState 0 phActive run).raise (PHY_STAT 0) 11), 0, by decide +kernel⟩
  · exact ⟨(setPhyState 0 phActive run), 0, by decide +kernel⟩
  · exact ⟨(setPhyState 0 phActive run), 0, by decide +kernel⟩

theorem witness_TrainingAttempts :
    (∃ (s : State) (p : Port) (bytes : List Byte), s.phyState p = phExchange ∧ trainingValid bytes = true ∧ recField bytes 5 1 = s.portLanes p ∧ recField bytes 6 1 = s.portRate p ∧ recField bytes 4 1 = kindExpected p) ∧
    (∃ (s : State) (p : Port), s.phyState p = phExchange ∧ (s.phyOf p).training = true ∧ (s.phyOf p).elecIdle = false ∧ 8 ≤ (s.phyOf p).sentSeen ∧ 2 ≤ (s.phyOf p).recvSeen) ∧
    (∃ (s : State) (p : Port) (n : Nat), s.phyState p = phActive ∧ (s.phyOf p).training = true ∧ (s.phyOf p).elecIdle = false ∧ (s.phyOf p).idleMarks = some n ∧ (s.phyOf p).codewords + 1 = 64) ∧
    (∃ (s : State) (p : Port) (bytes : List Byte), s.phyState p = phExchange ∧ trainingValid bytes = true ∧ s.faultClass (50 + p) ≤ 3 ∧ (recField bytes 5 1 ≠ s.portLanes p ∨ recField bytes 6 1 ≠ s.portRate p ∨ recField bytes 4 1 ≠ kindExpected p)) ∧
    (∃ (bytes : List Byte), trainingValid bytes = false) ∧
    (∃ (s : State) (p : Port), 1 ≤ s.phyState p ∧ s.phyState p ≤ 4 ∧ s.faultClass (50 + p) ≤ 3) ∧
    (∃ (s : State) (p : Port), s.phyState p = phFail ∧ s.portEnabled p = true) ∧
    (∃ (s : State) (t : Requester) (p : Port) (w : Word), s.takes t (PHY_CTRL p) ∧ w.getLsbD 0 = true ∧ bits w.toNat 8 4 = s.fld (PHY_CTRL p) 8 4 ∧ w.getLsbD 12 = s.flag (PHY_CTRL p) 12 ∧ s.portEnabled p = true) := by
  refine ⟨?_, ?_, ?_, ?_, ?_, ?_, ?_, ?_⟩
  · exact ⟨(setPhyState 0 phExchange run), 0, trainingBytes 0 1 0 false false 77, by decide +kernel⟩
  · exact ⟨modPhy 0 (fun k => { k with sentSeen := 8, recvSeen := 2, training := true, elecIdle := false, codewords := 63 }) (setPhyState 0 phExchange run), 0, by decide +kernel⟩
  · exact ⟨modPhy 0 (fun k => { k with idleMarks := some 1, training := true, elecIdle := false, codewords := 63 }) (setPhyState 0 phActive run), 0, 1, by decide +kernel⟩
  · exact ⟨(setPhyState 0 phExchange run), 0, trainingBytes 0 1 1 false false 77, by decide +kernel⟩
  · exact ⟨[1, 2], by decide +kernel⟩
  · exact ⟨(setPhyState 0 phSearch run), 0, by decide +kernel⟩
  · exact ⟨(setPhyState 0 phFail run), 0, by decide +kernel⟩
  · exact ⟨(setPhyState 0 phActive run), 0, 0, 1, by unfold State.takes; decide +kernel⟩

theorem witness_FlitsReceived :
    (∃ (s : State) (p : HostPort) (f : Flit), s.receives p = true ∧ s.lnkState p = lnUp ∧ quietAck f.ack ∧ (s.lnkOf p).initSent = true ∧ f.seq.toNat = s.rxExp p ∧ (s.lnkOf p).held = [] ∧ s.poolFull p f.vc = false ∧ s.ctl.phase = .run ∧ s.ladder = 0 ∧ s.pwr.entry = none ∧ s.away = true ∧ requestShape f.type { vc := f.vc, tenant := f.tenant, payload := f.payload } = true) ∧
    (∃ (s : State) (p : Port) (f : Flit), s.receives p = true ∧ s.lnkState p = lnUp ∧ quietAck f.ack ∧ (s.lnkOf p).initSent = true ∧ 1 ≤ seqDist f.seq.toNat (s.rxExp p) ∧ seqDist f.seq.toNat (s.rxExp p) ≤ 511 ∧ s.goBack p = false ∧ (∀ g ∈ (s.lnkOf p).held, g.seq ≠ f.seq) ∧ s.poolFull p f.vc = false ∧ s.headedFor = 0) ∧
    (∃ (s : State) (p : Port) (f : Flit), s.receives p = true ∧ s.lnkState p = lnUp ∧ quietAck f.ack ∧ (s.lnkOf p).initSent = true ∧ 1 ≤ seqDist f.seq.toNat (s.rxExp p) ∧ seqDist f.seq.toNat (s.rxExp p) ≤ 511 ∧ s.goBack p = true ∧ s.headedFor = 0) ∧
    (∃ (s : State) (p : Port) (f : Flit) (fill : ElasticFill), s.receives p = true ∧ s.lnkState p = lnUp ∧ quietAck f.ack ∧ fill ≠ .aboveHalf ∧ 1 ≤ seqDist f.seq.toNat (s.rxExp p) ∧ seqDist f.seq.toNat (s.rxExp p) ≤ 512 ∧ s.goBack p = true) ∧
    (∃ (s : State) (p : Port) (f : Flit), s.receives p = true ∧ s.lnkState p = lnUp ∧ quietAck f.ack ∧ (s.lnkOf p).initSent = true ∧ seqDist f.seq.toNat (s.rxExp p) ≤ 511 ∧ s.poolFull p f.vc = true ∧ (seqDist f.seq.toNat (s.rxExp p) = 0 ∨ (s.goBack p = false ∧ ∀ g ∈ (s.lnkOf p).held, g.seq ≠ f.seq)) ∧ s.faultClass (54 + p) ≤ 3) ∧
    (∃ (s : State) (p : Port) (f : Flit), s.receives p = true ∧ quietAck f.ack ∧ (s.lnkOf p).initSent = false ∧ s.faultClass (54 + p) ≤ 3) ∧
    (∃ (s : State) (p : Port) (f : Flit) (fill : ElasticFill), s.receives p = true ∧ fill ≠ .aboveHalf ∧ s.faultClass (54 + p) ≤ 3 ∧ ((f.ack.ackV = true ∧ (seqDist f.ack.ackSeq.toNat (s.txNext p) < 512 ∨ (s.lnkOf p).replay.length < seqDist (f.ack.ackSeq.toNat + 1) (seqDist (s.txNext p) (s.lnkOf p).replay.length))) ∨ (f.ack.ackV = false ∧ f.ack.nakV = true ∧ seqDist f.ack.nakSeq.toNat (s.txNext p) < 512) ∨ (f.ack.ackV = false ∧ f.ack.nakV = false ∧ f.ack.snap = false ∧ (1024 < f.ack.credReq.toNat ∨ 1024 < f.ack.credRsp.toNat)) ∨ (quietAck f.ack ∧ 513 ≤ seqDist f.seq.toNat (s.rxExp p)))) ∧
    (∃ (s : State) (p : Port) (f : Flit) (fill : ElasticFill), let n := seqDist (f.ack.ackSeq.toNat + 1) (seqDist (s.txNext p) (s.lnkOf p).replay.length); s.receives p = true ∧ s.lnkState p = lnUp ∧ fill ≠ .aboveHalf ∧ f.seq.toNat = s.rxExp p ∧ f.ack.ackV = true ∧ f.ack.nakV = false ∧ f.ack.snap = false ∧ f.ack.credReq.toNat ≤ 1024 ∧ f.ack.credRsp.toNat ≤ 1024 ∧ 512 ≤ seqDist f.ack.ackSeq.toNat (s.txNext p) ∧ n ≤ (s.lnkOf p).replay.length) ∧
    (∃ (s : State) (p : Port) (f : Flit) (fill : ElasticFill), s.receives p = true ∧ s.lnkState p = lnUp ∧ fill ≠ .aboveHalf ∧ f.seq.toNat = s.rxExp p ∧ f.ack.ackV = false ∧ f.ack.nakV = true ∧ f.ack.snap = false ∧ f.ack.credReq = 0 ∧ f.ack.credRsp = 0 ∧ s.goBack p = true ∧ 512 ≤ seqDist f.ack.nakSeq.toNat (s.txNext p)) ∧
    (∃ (s : State) (p : Port) (f : Flit) (fill : ElasticFill), let l := s.lnkOf p; let d := fun (v : Bool) => ((if v then f.ack.credRsp.toNat else f.ack.credReq.toNat) + 4096 - l.rel v % 4096 + l.leak v) % 4096; s.receives p = true ∧ s.lnkState p = lnUp ∧ fill ≠ .aboveHalf ∧ f.seq.toNat = s.rxExp p ∧ f.ack.ackV = false ∧ f.ack.nakV = false ∧ f.ack.snap = true ∧ f.ack.init = false ∧ s.faultClass (54 + p) ≤ 3 ∧ (s.tolerant p = true → l.leakReq + l.leakRsp + (if 1024 < d false then 4096 - d false else 0) + (if 1024 < d true then 4096 - d true else 0) ≤ 1024)) ∧
    (∃ (s : State) (p : Port) (f : Flit) (fill : ElasticFill), s.receives p = true ∧ s.lnkState p = lnUp ∧ fill ≠ .aboveHalf ∧ f.seq.toNat = s.rxExp p ∧ f.ack.ackV = false ∧ f.ack.nakV = false ∧ f.ack.snap = false ∧ f.ack.credReq.toNat ≤ 1024 ∧ f.ack.credRsp.toNat ≤ 1024 ∧ (s.lnkOf p).relReq < 4096 ∧ (s.lnkOf p).relRsp < 4096) ∧
    (∃ (s : State) (p : Port) (f : Flit), s.receives p = true ∧ s.lnkState p = lnUp ∧ quietAck f.ack ∧ (s.lnkOf p).initSent = true ∧ 512 ≤ seqDist f.seq.toNat (s.rxExp p) ∧ s.headedFor = 0) ∧
    (∃ (s : State) (p : Port) (f : Flit) (fill : ElasticFill), s.receives p = true ∧ s.lnkState p = lnUp ∧ quietAck f.ack ∧ f.seq.toNat = s.rxExp p ∧ fill ≠ .aboveHalf) ∧
    (∃ (s : State) (p : Port), s.receives p = true) ∧
    (∃ (s : State) (p : Port) (f : Flit) (fill : ElasticFill), s.receives p = true ∧ s.lnkState p = lnUp ∧ f.ack.ackV = false ∧ f.ack.nakV = true ∧ f.ack.snap = false ∧ f.ack.credReq = 0 ∧ f.ack.credRsp = 0 ∧ f.seq.toNat = s.rxExp p ∧ fill ≠ .aboveHalf ∧ s.goBack p = false ∧ 512 ≤ seqDist f.ack.nakSeq.toNat (s.txNext p)) ∧
    (∃ (s : State) (p : Port) (f : Flit) (fill : ElasticFill), s.receives p = true ∧ s.lnkState p = lnUp ∧ quietAck f.ack ∧ fill ≠ .aboveHalf ∧ 1 ≤ seqDist f.seq.toNat (s.rxExp p) ∧ seqDist f.seq.toNat (s.rxExp p) ≤ 512 ∧ s.goBack p = false ∧ (s.lnkOf p).marked = []) ∧
    (∃ (s : State) (p : Port), s.receives p = true ∧ (s.lnkOf p).badCrc.length < 8) ∧
    (∃ (s : State) (p : Port), s.receives p = true ∧ (s.lnkOf p).badUnc.length < 15) ∧
    (∃ (s : State) (p : Port), s.locked p = true ∧ s.lnkState p = lnDown) ∧
    (∃ (s : State) (p : Port), s.receives p = true ∧ s.faultClass (54 + p) ≤ 3 ∧ 8 ≤ ((s.lnkOf p).badCrc.filter fun i => (s.lnkOf p).flits < i + 0x100000).length) := by
  refine ⟨?_, ?_, ?_, ?_, ?_, ?_, ?_, ?_, ?_, ?_, ?_, ?_, ?_, ?_, ?_, ?_, ?_, ?_, ?_, ?_⟩
  · exact ⟨{ modLnk 0 (fun l => { l with initSent := true, peerInit := true }) ((((run.setFld (LNK_STAT 0) 0 2 2).setFlds (PHY_STAT 0) [(0, 4, phActive), (11, 1, 1)]).setFlds (LNK_SEQ 0) [(0, 10, 5), (16, 10, 9)]).setFlds (LNK_CFG1 0) [(16, 9, 64)]) with pwr := { PwrSt.reset with portsClosed := true } }, 0, { type := 1, vc := false, tenant := 1, seq := 9, initDone := true, ack := { ackSeq := 0, ackV := false, nakSeq := 0, nakV := false, snap := false, init := false, credReq := 0, credRsp := 0 }, payload := leBytes 4 0 ++ leBytes 2 17 ++ leBytes 2 4 }, by unfold quietAck; decide +kernel⟩
  · exact ⟨modLnk 0 (fun l => { l with initSent := true, peerInit := true }) ((((run.setFld (LNK_STAT 0) 0 2 2).setFlds (PHY_STAT 0) [(0, 4, phActive), (11, 1, 1)]).setFlds (LNK_SEQ 0) [(0, 10, 5), (16, 10, 9)]).setFlds (LNK_CFG1 0) [(16, 9, 64)]), 0, { type := 1, vc := false, tenant := 1, seq := 10, initDone := true, ack := { ackSeq := 0, ackV := false, nakSeq := 0, nakV := false, snap := false, init := false, credReq := 0, credRsp := 0 }, payload := leBytes 4 0 ++ leBytes 2 17 ++ leBytes 2 4 }, by unfold quietAck; decide +kernel⟩
  · exact ⟨(modLnk 0 (fun l => { l with initSent := true, peerInit := true }) ((((run.setFld (LNK_STAT 0) 0 2 2).setFlds (PHY_STAT 0) [(0, 4, phActive), (11, 1, 1)]).setFlds (LNK_SEQ 0) [(0, 10, 5), (16, 10, 9)]).setFlds (LNK_CFG1 0) [(16, 9, 64)]) : State).raise (LNK_STAT 0) 2, 0, { type := 1, vc := false, tenant := 1, seq := 10, initDone := true, ack := { ackSeq := 0, ackV := false, nakSeq := 0, nakV := false, snap := false, init := false, credReq := 0, credRsp := 0 }, payload := leBytes 4 0 ++ leBytes 2 17 ++ leBytes 2 4 }, by unfold quietAck; decide +kernel⟩
  · exact ⟨(modLnk 0 (fun l => { l with initSent := true, peerInit := true }) ((((run.setFld (LNK_STAT 0) 0 2 2).setFlds (PHY_STAT 0) [(0, 4, phActive), (11, 1, 1)]).setFlds (LNK_SEQ 0) [(0, 10, 5), (16, 10, 9)]).setFlds (LNK_CFG1 0) [(16, 9, 64)]) : State).raise (LNK_STAT 0) 2, 0, { type := 1, vc := false, tenant := 1, seq := 521, initDone := true, ack := { ackSeq := 0, ackV := false, nakSeq := 0, nakV := false, snap := false, init := false, credReq := 0, credRsp := 0 }, payload := leBytes 4 0 ++ leBytes 2 17 ++ leBytes 2 4 }, .belowQuarter, by unfold quietAck; decide +kernel⟩
  · exact ⟨modLnk 0 (fun l => { l with held := List.replicate 1100 { type := 1, vc := false, tenant := 1, seq := 30, initDone := true, ack := { ackSeq := 0, ackV := false, nakSeq := 0, nakV := false, snap := false, init := false, credReq := 0, credRsp := 0 }, payload := leBytes 4 0 ++ leBytes 2 17 ++ leBytes 2 4 } }) (modLnk 0 (fun l => { l with initSent := true, peerInit := true }) ((((run.setFld (LNK_STAT 0) 0 2 2).setFlds (PHY_STAT 0) [(0, 4, phActive), (11, 1, 1)]).setFlds (LNK_SEQ 0) [(0, 10, 5), (16, 10, 9)]).setFlds (LNK_CFG1 0) [(16, 9, 64)])), 0, { type := 1, vc := false, tenant := 1, seq := 9, initDone := true, ack := { ackSeq := 0, ackV := false, nakSeq := 0, nakV := false, snap := false, init := false, credReq := 0, credRsp := 0 }, payload := leBytes 4 0 ++ leBytes 2 17 ++ leBytes 2 4 }, by unfold quietAck; decide +kernel⟩
  · exact ⟨modLnk 0 (fun l => { l with initSent := false }) (modLnk 0 (fun l => { l with initSent := true, peerInit := true }) ((((run.setFld (LNK_STAT 0) 0 2 2).setFlds (PHY_STAT 0) [(0, 4, phActive), (11, 1, 1)]).setFlds (LNK_SEQ 0) [(0, 10, 5), (16, 10, 9)]).setFlds (LNK_CFG1 0) [(16, 9, 64)])), 0, { type := 1, vc := false, tenant := 1, seq := 9, initDone := true, ack := { ackSeq := 0, ackV := false, nakSeq := 0, nakV := false, snap := false, init := false, credReq := 0, credRsp := 0 }, payload := leBytes 4 0 ++ leBytes 2 17 ++ leBytes 2 4 }, by unfold quietAck; decide +kernel⟩
  · exact ⟨modLnk 0 (fun l => { l with replay := [{ seq := 3, pkt := { type := 9, vc := true, tenant := 1, payload := [1, 2], tag := some 17, last := true } }, { seq := 4, pkt := { type := 9, vc := true, tenant := 1, payload := [1, 2], tag := some 17, last := true } }] }) (modLnk 0 (fun l => { l with initSent := true, peerInit := true }) ((((run.setFld (LNK_STAT 0) 0 2 2).setFlds (PHY_STAT 0) [(0, 4, phActive), (11, 1, 1)]).setFlds (LNK_SEQ 0) [(0, 10, 5), (16, 10, 9)]).setFlds (LNK_CFG1 0) [(16, 9, 64)])), 0, { type := 1, vc := false, tenant := 1, seq := 9, initDone := true, ack := { ackSeq := 5, ackV := true, nakSeq := 0, nakV := false, snap := false, init := false, credReq := 0, credRsp := 0 }, payload := leBytes 4 0 ++ leBytes 2 17 ++ leBytes 2 4 }, .belowQuarter, by unfold quietAck; decide +kernel⟩
  · exact ⟨modLnk 0 (fun l => { l with replay := [{ seq := 3, pkt := { type := 9, vc := true, tenant := 1, payload := [1, 2], tag := some 17, last := true } }, { seq := 4, pkt := { type := 9, vc := true, tenant := 1, payload := [1, 2], tag := some 17, last := true } }] }) (modLnk 0 (fun l => { l with initSent := true, peerInit := true }) ((((run.setFld (LNK_STAT 0) 0 2 2).setFlds (PHY_STAT 0) [(0, 4, phActive), (11, 1, 1)]).setFlds (LNK_SEQ 0) [(0, 10, 5), (16, 10, 9)]).setFlds (LNK_CFG1 0) [(16, 9, 64)])), 0, { type := 1, vc := false, tenant := 1, seq := 9, initDone := true, ack := { ackSeq := 2, ackV := true, nakSeq := 0, nakV := false, snap := false, init := false, credReq := 0, credRsp := 0 }, payload := leBytes 4 0 ++ leBytes 2 17 ++ leBytes 2 4 }, .belowQuarter, by decide +kernel⟩
  · exact ⟨(modLnk 0 (fun l => { l with replay := [{ seq := 3, pkt := { type := 9, vc := true, tenant := 1, payload := [1, 2], tag := some 17, last := true } }, { seq := 4, pkt := { type := 9, vc := true, tenant := 1, payload := [1, 2], tag := some 17, last := true } }] }) (modLnk 0 (fun l => { l with initSent := true, peerInit := true }) ((((run.setFld (LNK_STAT 0) 0 2 2).setFlds (PHY_STAT 0) [(0, 4, phActive), (11, 1, 1)]).setFlds (LNK_SEQ 0) [(0, 10, 5), (16, 10, 9)]).setFlds (LNK_CFG1 0) [(16, 9, 64)])) : State).raise (LNK_STAT 0) 2, 0, { type := 1, vc := false, tenant := 1, seq := 9, initDone := true, ack := { ackSeq := 0, ackV := false, nakSeq := 3, nakV := true, snap := false, init := false, credReq := 0, credRsp := 0 }, payload := leBytes 4 0 ++ leBytes 2 17 ++ leBytes 2 4 }, .belowQuarter, by decide +kernel⟩
  · exact ⟨modLnk 0 (fun l => { l with sentReq := 4, leakReq := 0 }) (modLnk 0 (fun l => { l with initSent := true, peerInit := true }) ((((run.setFld (LNK_STAT 0) 0 2 2).setFlds (PHY_STAT 0) [(0, 4, phActive), (11, 1, 1)]).setFlds (LNK_SEQ 0) [(0, 10, 5), (16, 10, 9)]).setFlds (LNK_CFG1 0) [(16, 9, 64)])), 0, { type := 1, vc := false, tenant := 1, seq := 9, initDone := true, ack := { ackSeq := 0, ackV := false, nakSeq := 0, nakV := false, snap := true, init := false, credReq := 0, credRsp := 0 }, payload := leBytes 4 0 ++ leBytes 2 17 ++ leBytes 2 4 }, .belowQuarter, by decide +kernel⟩
  · exact ⟨modLnk 0 (fun l => { l with sentReq := 4 }) (modLnk 0 (fun l => { l with initSent := true, peerInit := true }) ((((run.setFld (LNK_STAT 0) 0 2 2).setFlds (PHY_STAT 0) [(0, 4, phActive), (11, 1, 1)]).setFlds (LNK_SEQ 0) [(0, 10, 5), (16, 10, 9)]).setFlds (LNK_CFG1 0) [(16, 9, 64)])), 0, { type := 1, vc := false, tenant := 1, seq := 9, initDone := true, ack := { ackSeq := 0, ackV := false, nakSeq := 0, nakV := false, snap := false, init := false, credReq := 0, credRsp := 0 }, payload := leBytes 4 0 ++ leBytes 2 17 ++ leBytes 2 4 }, .belowQuarter, by decide +kernel⟩
  · exact ⟨modLnk 0 (fun l => { l with initSent := true, peerInit := true }) ((((run.setFld (LNK_STAT 0) 0 2 2).setFlds (PHY_STAT 0) [(0, 4, phActive), (11, 1, 1)]).setFlds (LNK_SEQ 0) [(0, 10, 5), (16, 10, 9)]).setFlds (LNK_CFG1 0) [(16, 9, 64)]), 0, { type := 1, vc := false, tenant := 1, seq := 8, initDone := true, ack := { ackSeq := 0, ackV := false, nakSeq := 0, nakV := false, snap := false, init := false, credReq := 0, credRsp := 0 }, payload := leBytes 4 0 ++ leBytes 2 17 ++ leBytes 2 4 }, by unfold quietAck; decide +kernel⟩
  · exact ⟨modLnk 0 (fun l => { l with initSent := true, peerInit := true }) ((((run.setFld (LNK_STAT 0) 0 2 2).setFlds (PHY_STAT 0) [(0, 4, phActive), (11, 1, 1)]).setFlds (LNK_SEQ 0) [(0, 10, 5), (16, 10, 9)]).setFlds (LNK_CFG1 0) [(16, 9, 64)]), 0, { type := 1, vc := false, tenant := 1, seq := 9, initDone := true, ack := { ackSeq := 0, ackV := false, nakSeq := 0, nakV := false, snap := false, init := false, credReq := 0, credRsp := 0 }, payload := leBytes 4 0 ++ leBytes 2 17 ++ leBytes 2 4 }, .between, by unfold quietAck; decide +kernel⟩
  · exact ⟨modLnk 0 (fun l => { l with initSent := true, peerInit := true }) ((((run.setFld (LNK_STAT 0) 0 2 2).setFlds (PHY_STAT 0) [(0, 4, phActive), (11, 1, 1)]).setFlds (LNK_SEQ 0) [(0, 10, 5), (16, 10, 9)]).setFlds (LNK_CFG1 0) [(16, 9, 64)]), 0, by decide +kernel⟩
  · exact ⟨modLnk 0 (fun l => { l with replay := [{ seq := 3, pkt := { type := 9, vc := true, tenant := 1, payload := [1, 2], tag := some 17, last := true } }, { seq := 4, pkt := { type := 9, vc := true, tenant := 1, payload := [1, 2], tag := some 17, last := true } }] }) (modLnk 0 (fun l => { l with initSent := true, peerInit := true }) ((((run.setFld (LNK_STAT 0) 0 2 2).setFlds (PHY_STAT 0) [(0, 4, phActive), (11, 1, 1)]).setFlds (LNK_SEQ 0) [(0, 10, 5), (16, 10, 9)]).setFlds (LNK_CFG1 0) [(16, 9, 64)])), 0, { type := 1, vc := false, tenant := 1, seq := 9, initDone := true, ack := { ackSeq := 0, ackV := false, nakSeq := 3, nakV := true, snap := false, init := false, credReq := 0, credRsp := 0 }, payload := leBytes 4 0 ++ leBytes 2 17 ++ leBytes 2 4 }, .belowQuarter, by decide +kernel⟩
  · exact ⟨modLnk 0 (fun l => { l with initSent := true, peerInit := true }) ((((run.setFld (LNK_STAT 0) 0 2 2).setFlds (PHY_STAT 0) [(0, 4, phActive), (11, 1, 1)]).setFlds (LNK_SEQ 0) [(0, 10, 5), (16, 10, 9)]).setFlds (LNK_CFG1 0) [(16, 9, 64)]), 0, { type := 1, vc := false, tenant := 1, seq := 10, initDone := true, ack := { ackSeq := 0, ackV := false, nakSeq := 0, nakV := false, snap := false, init := false, credReq := 0, credRsp := 0 }, payload := leBytes 4 0 ++ leBytes 2 17 ++ leBytes 2 4 }, .between, by unfold quietAck; decide +kernel⟩
  · exact ⟨modLnk 0 (fun l => { l with initSent := true, peerInit := true }) ((((run.setFld (LNK_STAT 0) 0 2 2).setFlds (PHY_STAT 0) [(0, 4, phActive), (11, 1, 1)]).setFlds (LNK_SEQ 0) [(0, 10, 5), (16, 10, 9)]).setFlds (LNK_CFG1 0) [(16, 9, 64)]), 0, by decide +kernel⟩
  · exact ⟨modLnk 0 (fun l => { l with initSent := true, peerInit := true }) ((((run.setFld (LNK_STAT 0) 0 2 2).setFlds (PHY_STAT 0) [(0, 4, phActive), (11, 1, 1)]).setFlds (LNK_SEQ 0) [(0, 10, 5), (16, 10, 9)]).setFlds (LNK_CFG1 0) [(16, 9, 64)]), 0, by decide +kernel⟩
  · exact ⟨((modLnk 0 (fun l => { l with initSent := true, peerInit := true }) ((((run.setFld (LNK_STAT 0) 0 2 2).setFlds (PHY_STAT 0) [(0, 4, phActive), (11, 1, 1)]).setFlds (LNK_SEQ 0) [(0, 10, 5), (16, 10, 9)]).setFlds (LNK_CFG1 0) [(16, 9, 64)])).setFld (LNK_STAT 0) 0 2 0).raise (PHY_STAT 0) 11, 0, by decide +kernel⟩
  · exact ⟨modLnk 0 (fun l => { l with flits := 20, badCrc := [1,2,3,4,5,6,7,8] }) (modLnk 0 (fun l => { l with initSent := true, peerInit := true }) ((((run.setFld (LNK_STAT 0) 0 2 2).setFlds (PHY_STAT 0) [(0, 4, phActive), (11, 1, 1)]).setFlds (LNK_SEQ 0) [(0, 10, 5), (16, 10, 9)]).setFlds (LNK_CFG1 0) [(16, 9, 64)])), 0, by decide +kernel⟩

theorem witness_LinkSending :
    (∃ (s : State) (p : Port) (k : Packet) (rest : List Packet), s.lnkState p = lnUp ∧ (s.phyOf p).training = false ∧ (s.phyOf p).elecIdle = false ∧ s.phyState p ≠ phDisabled ∧ (s.lnkOf p).retx = [] ∧ (s.lnkOf p).qRsp = k :: rest ∧ (s.lnkOf p).replay.length < 512 ∧ (s.lnkOf p).maySend (s.poolMin p) true = true ∧ k.vc = true ∧ (s.lnkOf p).peerInit = true ∧ (s.lnkOf p).sinceNull < 1023) ∧
    (∃ (s : State) (p : Port), s.lnkState p = lnUp ∧ (s.phyOf p).training = false ∧ (s.phyOf p).elecIdle = false ∧ s.phyState p ≠ phDisabled ∧ (s.lnkOf p).retx = [] ∧ (s.lnkOf p).qRsp = [] ∧ (s.lnkOf p).qReq = [] ∧ s.txn.msgWait = [] ∧ (s.lnkOf p).naks = []) ∧
    (∃ (s : State) (p : Port), s.lnkState p = lnUp ∧ (s.phyOf p).training = false ∧ (s.phyOf p).elecIdle = false ∧ s.phyState p ≠ phDisabled ∧ 1023 ≤ (s.lnkOf p).sinceNull) ∧
    (∃ (s : State) (p : Port) (e : Sent), s.lnkState p = lnUp ∧ (s.phyOf p).training = false ∧ (s.phyOf p).elecIdle = false ∧ s.phyState p ≠ phDisabled ∧ (s.lnkOf p).retx = [e.seq] ∧ (s.lnkOf p).replay.find? (fun x => x.seq = e.seq) = some e ∧ (s.lnkOf p).sinceNull < 1023) ∧
    (∃ (s : State) (p : Port), s.lnkState p = lnUp ∧ (s.phyOf p).training = false ∧ (s.phyOf p).elecIdle = false ∧ s.phyState p ≠ phDisabled) ∧
    (∃ (s : State) (p : Port), (s.lnkOf p).ackTimer = true) ∧
    (∃ (s : State) (p : Port), (s.lnkOf p).replay ≠ [] ∧ (s.lnkOf p).expiries < 7) ∧
    (∃ (s : State) (p : Port), (s.lnkOf p).replay ≠ [] ∧ (s.lnkOf p).expiries = 7 ∧ s.locked p = true ∧ s.lnkState p ≠ lnDown ∧ s.faultClass (54 + p) ≤ 3) ∧
    (∃ (s : State) (p : Port), s.lnkState p ≠ lnDown ∧ s.locked p = true ∧ (s.lnkOf p).outV false + (s.lnkOf p).outV true ≠ 0 ∧ (s.lnkOf p).alive = true ∧ s.tolerant p = true) ∧
    (∃ (s : State) (p : Port), s.lnkState p ≠ lnDown ∧ s.locked p = true ∧ (s.lnkOf p).outV false + (s.lnkOf p).outV true ≠ 0 ∧ (s.lnkOf p).alive = true ∧ s.tolerant p = false ∧ s.faultClass (54 + p) ≤ 3) ∧
    (∃ (s : State) (p : Port), s.phyState p = phActive ∧ (s.lnkOf p).replay = [] ∧ (s.lnkOf p).held = [] ∧ (s.lnkOf p).ackedTo = seqDist (s.rxExp p) 1 ∧ s.pwr.entry = some (2, .last) ∧ (s.phyOf p).idleMarks = none) ∧
    (∃ (s : State) (p : Port), ((s.lnkOf p).replay ≠ [] ∨ (s.lnkOf p).held ≠ [] ∨ (s.lnkOf p).ackedTo ≠ seqDist (s.rxExp p) 1)) ∧
    (∃ (s : State) (p : Port), s.flag (LNK_STAT p) 4 = true ∧ s.phyState p = phActive ∧ (s.lnkOf p).replay = [] ∧ (s.lnkOf p).held = [] ∧ (s.lnkOf p).ackedTo = seqDist (s.rxExp p) 1 ∧ s.portEnabled p = true ∧ s.pwr.entry ≠ some (2, .last)) ∧
    (∃ (s : State) (t : Requester) (p : Port) (w : Word), s.takes t (LNK_CTRL p) ∧ w.getLsbD 0 = true ∧ w.getLsbD 1 = false) := by
  refine ⟨?_, ?_, ?_, ?_, ?_, ?_, ?_, ?_, ?_, ?_, ?_, ?_, ?_, ?_⟩
  · exact ⟨modLnk 0 (fun l => { l with qRsp := [{ type := 9, vc := true, tenant := 1, payload := [1, 2], tag := some 17, last := true }] }) (modPhy 0 (fun k => { k with elecIdle := false }) (modLnk 0 (fun l => { l with initSent := true, peerInit := true }) ((((run.setFld (LNK_STAT 0) 0 2 2).setFlds (PHY_STAT 0) [(0, 4, phActive), (11, 1, 1)]).setFlds (LNK_SEQ 0) [(0, 10, 5), (16, 10, 9)]).setFlds (LNK_CFG1 0) [(16, 9, 64)]))), 0, { type := 9, vc := true, tenant := 1, payload := [1, 2], tag := some 17, last := true }, [], by decide +kernel⟩
  · exact ⟨modPhy 0 (fun k => { k with elecIdle := false }) (modLnk 0 (fun l => { l with initSent := true, peerInit := true }) ((((run.setFld (LNK_STAT 0) 0 2 2).setFlds (PHY_STAT 0) [(0, 4, phActive), (11, 1, 1)]).setFlds (LNK_SEQ 0) [(0, 10, 5), (16, 10, 9)]).setFlds (LNK_CFG1 0) [(16, 9, 64)])), 0, by decide +kernel⟩
  · exact ⟨modLnk 0 (fun l => { l with sinceNull := 1023, qRsp := [{ type := 9, vc := true, tenant := 1, payload := [1, 2], tag := some 17, last := true }] }) (modPhy 0 (fun k => { k with elecIdle := false }) (modLnk 0 (fun l => { l with initSent := true, peerInit := true }) ((((run.setFld (LNK_STAT 0) 0 2 2).setFlds (PHY_STAT 0) [(0, 4, phActive), (11, 1, 1)]).setFlds (LNK_SEQ 0) [(0, 10, 5), (16, 10, 9)]).setFlds (LNK_CFG1 0) [(16, 9, 64)]))), 0, by decide +kernel⟩
  · exact ⟨modLnk 0 (fun l => { l with retx := [4], replay := [{ seq := 4, pkt := { type := 9, vc := true, tenant := 1, payload := [1, 2], tag := some 17, last := true } }] }) (modPhy 0 (fun k => { k with elecIdle := false }) (modLnk 0 (fun l => { l with initSent := true, peerInit := true }) ((((run.setFld (LNK_STAT 0) 0 2 2).setFlds (PHY_STAT 0) [(0, 4, phActive), (11, 1, 1)]).setFlds (LNK_SEQ 0) [(0, 10, 5), (16, 10, 9)]).setFlds (LNK_CFG1 0) [(16, 9, 64)]))), 0, { seq := 4, pkt := { type := 9, vc := true, tenant := 1, payload := [1, 2], tag := some 17, last := true } }, by decide +kernel⟩
  · exact ⟨modLnk 0 (fun l => { l with naks := [12, 10], ackDue := true, sinceSnap := 255, rcntReq := 77, newReq := 3 }) (modPhy 0 (fun k => { k with elecIdle := false }) (modLnk 0 (fun l => { l with initSent := true, peerInit := true }) ((((run.setFld (LNK_STAT 0) 0 2 2).setFlds (PHY_STAT 0) [(0, 4, phActive), (11, 1, 1)]).setFlds (LNK_SEQ 0) [(0, 10, 5), (16, 10, 9)]).setFlds (LNK_CFG1 0) [(16, 9, 64)]))), 0, by decide +kernel⟩
  · exact ⟨modLnk 0 (fun l => { l with ackTimer := true }) (modLnk 0 (fun l => { l with initSent := true, peerInit := true }) ((((run.setFld (LNK_STAT 0) 0 2 2).setFlds (PHY_STAT 0) [(0, 4, phActive), (11, 1, 1)]).setFlds (LNK_SEQ 0) [(0, 10, 5), (16, 10, 9)]).setFlds (LNK_CFG1 0) [(16, 9, 64)])), 0, by decide +kernel⟩
  · exact ⟨modLnk 0 (fun l => { l with replay := [{ seq := 4, pkt := { type := 9, vc := true, tenant := 1, payload := [1, 2], tag := some 17, last := true } }], expiries := 6 }) (modLnk 0 (fun l => { l with initSent := true, peerInit := true }) ((((run.setFld (LNK_STAT 0) 0 2 2).setFlds (PHY_STAT 0) [(0, 4, phActive), (11, 1, 1)]).setFlds (LNK_SEQ 0) [(0, 10, 5), (16, 10, 9)]).setFlds (LNK_CFG1 0) [(16, 9, 64)])), 0, by decide +kernel⟩
  · exact ⟨modLnk 0 (fun l => { l with replay := [{ seq := 4, pkt := { type := 9, vc := true, tenant := 1, payload := [1, 2], tag := some 17, last := true } }], expiries := 7 }) (modLnk 0 (fun l => { l with initSent := true, peerInit := true }) ((((run.setFld (LNK_STAT 0) 0 2 2).setFlds (PHY_STAT 0) [(0, 4, phActive), (11, 1, 1)]).setFlds (LNK_SEQ 0) [(0, 10, 5), (16, 10, 9)]).setFlds (LNK_CFG1 0) [(16, 9, 64)])), 0, by decide +kernel⟩
  · exact ⟨modLnk 0 (fun l => { l with sentReq := 4, alive := true }) ((modLnk 0 (fun l => { l with initSent := true, peerInit := true }) ((((run.setFld (LNK_STAT 0) 0 2 2).setFlds (PHY_STAT 0) [(0, 4, phActive), (11, 1, 1)]).setFlds (LNK_SEQ 0) [(0, 10, 5), (16, 10, 9)]).setFlds (LNK_CFG1 0) [(16, 9, 64)])).raise (LNK_STAT 0) 3), 0, by decide +kernel⟩
  · exact ⟨modLnk 0 (fun l => { l with sentReq := 4, alive := true }) (modLnk 0 (fun l => { l with initSent := true, peerInit := true }) ((((run.setFld (LNK_STAT 0) 0 2 2).setFlds (PHY_STAT 0) [(0, 4, phActive), (11, 1, 1)]).setFlds (LNK_SEQ 0) [(0, 10, 5), (16, 10, 9)]).setFlds (LNK_CFG1 0) [(16, 9, 64)])), 0, by decide +kernel⟩
  · exact ⟨{ modLnk 0 (fun l => { l with ackedTo := 8 }) (modLnk 0 (fun l => { l with initSent := true, peerInit := true }) ((((run.setFld (LNK_STAT 0) 0 2 2).setFlds (PHY_STAT 0) [(0, 4, phActive), (11, 1, 1)]).setFlds (LNK_SEQ 0) [(0, 10, 5), (16, 10, 9)]).setFlds (LNK_CFG1 0) [(16, 9, 64)])) with pwr := { PwrSt.reset with entry := some (2, .last) } }, 0, by decide +kernel⟩
  · exact ⟨modLnk 0 (fun l => { l with ackedTo := 5 }) (modLnk 0 (fun l => { l with initSent := true, peerInit := true }) ((((run.setFld (LNK_STAT 0) 0 2 2).setFlds (PHY_STAT 0) [(0, 4, phActive), (11, 1, 1)]).setFlds (LNK_SEQ 0) [(0, 10, 5), (16, 10, 9)]).setFlds (LNK_CFG1 0) [(16, 9, 64)])), 0, by decide +kernel⟩
  · exact ⟨modLnk 0 (fun l => { l with ackedTo := 8 }) ((modLnk 0 (fun l => { l with initSent := true, peerInit := true }) ((((run.setFld (LNK_STAT 0) 0 2 2).setFlds (PHY_STAT 0) [(0, 4, phActive), (11, 1, 1)]).setFlds (LNK_SEQ 0) [(0, 10, 5), (16, 10, 9)]).setFlds (LNK_CFG1 0) [(16, 9, 64)])).raise (LNK_STAT 0) 4), 0, by decide +kernel⟩
  · exact ⟨modLnk 0 (fun l => { l with initSent := true, peerInit := true }) ((((run.setFld (LNK_STAT 0) 0 2 2).setFlds (PHY_STAT 0) [(0, 4, phActive), (11, 1, 1)]).setFlds (LNK_SEQ 0) [(0, 10, 5), (16, 10, 9)]).setFlds (LNK_CFG1 0) [(16, 9, 64)]), 0, 0, 1, by unfold State.takes; decide +kernel⟩

theorem witness_ChannelFrames :
    (∃ (s : State) (n : Fin 4), s.chState n ≠ chOff ∧ s.chState n ≠ chStarting ∧ (s.chanOf n).pixFault = false ∧ (s.tts = [] ∨ (∀ k, k < 128 → k ≠ 81 → s.faultClass k ≤ 3))) ∧
    (∃ (s : State) (n : Fin 4), s.chState n = chRun ∧ (s.chanOf n).pixFault = false ∧ (s.tts = [] ∨ (∀ k, k < 128 → k ≠ 81 → s.faultClass k ≤ 3)) ∧ s.flag (CH_STAT n) 8 = true ∧ s.flag FLT_SAFE 0 = false ∧ s.flag FLT_SAFE (4 + n) = false) ∧
    (∃ (s : State) (n : Fin 4), (s.chState n = chRun ∨ s.chState n = chSettle ∨ s.chState n = chBlack) ∧ (s.chanOf n).pixFault = false ∧ (s.tts = [] ∨ (∀ k, k < 128 → k ≠ 81 → s.faultClass k ≤ 3))) ∧
    (∃ (s : State) (n : Fin 4) (r : ChannelRec), s.chanRec n = some r ∧ s.chState n ≠ chOff ∧ s.chState n ≠ chStarting ∧ (s.chanOf n).resync = false ∧ s.mem.fill = [] ∧ s.mem.poison = [] ∧ s.mem.weak = [] ∧ s.faultClass (62 + n) ≤ 3) ∧
    (∃ (s : State) (n : Fin 4) (missing : List Nat) (r : ChannelRec), s.chanRec n = some r ∧ s.chState n = chRun ∧ (s.chanOf n).resync = false ∧ s.mem.fill = [] ∧ s.mem.weak = [] ∧ (∀ k, k < 128 → k ≠ 81 → s.faultClass k ≤ 3) ∧ s.fld (CH_POS n) 0 16 < r.vactive) ∧
    (∃ (s : State) (n : Fin 4), (s.chState n = chOff ∨ s.chState n = chStarting ∨ (s.chanOf n).pixFault = true)) ∧
    (∃ (s : State) (n : Fin 4), (s.chState n = chOff ∨ s.chState n = chStarting ∨ (s.chanOf n).resync = true)) ∧
    (∃ (s : State) (n : Fin 4), s.chState n = chStarting) ∧
    (∃ (s : State) (n : Fin 4), s.chState n ≠ chStarting) := by
  refine ⟨?_, ?_, ?_, ?_, ?_, ?_, ?_, ?_, ?_⟩
  · exact ⟨(setChState 0 chSettle (run)), 0, by decide +kernel⟩
  · exact ⟨(setChState 0 chRun (run.raise (CH_STAT 0) 8)), 0, by decide +kernel⟩
  · exact ⟨modChan 0 (fun c => { c with work := [(0, 1), (4, 0), (8, 0), (12, 0x00040040), (16, 0x100)] }) ((setChState 0 chRun (run))), 0, by decide +kernel⟩
  · exact ⟨(setChState 0 chSettle (run)), 0, chan0, by decide +kernel⟩
  · exact ⟨modChan 0 (fun c => { c with work := [(0, 1), (4, 0), (8, 0), (12, 0x00040040), (16, 0x100)] }) ((setChState 0 chRun (run.setFld (CH_POS 0) 0 16 15))), 0, [], chan0, by decide +kernel⟩
  · exact ⟨run, 0, by decide +kernel⟩
  · exact ⟨(setChState 0 chStarting (run)), 0, by decide +kernel⟩
  · exact ⟨modChan 0 (fun c => { c with work := [(0, 1), (4, 0), (8, 0), (12, 0x00040040), (16, 0x100)] }) ((setChState 0 chStarting ((run.raise FLT_SAFE 4).raise (CH_STAT 0) 8))), 0, by decide +kernel⟩
  · exact ⟨run, 0, by decide +kernel⟩

theorem witness_ChannelCommands :
    (∃ (s : State) (t : Requester) (n : Fin 4) (w : Word), s.takes t (CH_CTRL n) ∧ w.getLsbD 0 = true ∧ rbReject s.bounds (some (whoOf t)) (CH_CTRL n) (s.reg (CH_CTRL n)) w = none ∧ s.chState n = chOff ∧ (s.chanRec n).isSome = true) ∧
    (∃ (s : State) (t : Requester) (n : Fin 4) (w : Word), s.takes t (CH_CTRL n) ∧ w.getLsbD 0 = false ∧ rbReject s.bounds (some (whoOf t)) (CH_CTRL n) (s.reg (CH_CTRL n)) w = none ∧ s.flag (CH_CTRL n) 0 = true ∧ s.ttsWf ∧ s.chState n = chRun) ∧
    (∃ (s : State) (t : Requester) (n : Fin 4) (w : Word), s.takes t (CH_CTRL n) ∧ w.getLsbD 1 = true ∧ w.getLsbD 0 = s.flag (CH_CTRL n) 0 ∧ bits w.toNat 4 2 = s.fld (CH_CTRL n) 4 2 ∧ (s.flag (CH_CTRL n) 0 = true → s.chState n ≠ chOff)) ∧
    (∃ (s : State) (t : Requester) (n : Fin 4) (w : Word), s.takes t (CH_PAL_A n) ∧ rbReject s.bounds (some (whoOf t)) (CH_PAL_A n) (s.reg (CH_PAL_A n)) w = none) := by
  refine ⟨?_, ?_, ?_, ?_⟩
  · exact ⟨(runWith { img with bounds := [{ addr := CH_CTRL 0, lsb := 0, width := 1, writers := 0xFFFF, min := 0, max := 1 }] }), 0, 0, 0x11, by unfold State.takes; decide +kernel⟩
  · exact ⟨(setChState 0 chRun ((runWith { img with bounds := [{ addr := CH_CTRL 0, lsb := 0, width := 1, writers := 0xFFFF, min := 0, max := 1 }] }).raise (CH_CTRL 0) 0)), 0, 0, 0x10, by unfold State.takes; decide +kernel⟩
  · exact ⟨(setChState 0 chRun (run.raise (CH_CTRL 0) 0)), 1, 0, 0x13, by unfold State.takes; decide +kernel⟩
  · exact ⟨(((runWith { img with bounds := [{ addr := CH_PAL_A 1, lsb := 0, width := 10, writers := 0xFFFF, min := 0, max := 1023 }] }).setFlds (CH_PAL_IDX 1) [(0, 10, 1023), (16, 3, 2)]).setReg (CH_PAL_RGB 1) 0x2AAAAAAA), 1, 1, 0x3FF, by unfold State.takes; decide +kernel⟩

theorem witness_OutputTraining :
    (∃ (s : State) (n : Fin 4), s.outMode n = 0) ∧
    (∃ (s : State) (n : Fin 4), s.outMode n = 0) ∧
    (∃ (s : State) (n : Fin 4), s.outMode n = 0 ∧ s.faultClass (66 + n) ≤ 3) ∧
    (∃ (s : State) (n : Fin 4), ∃ c ∈ [Instr.hpdRise n, .hpdIrq n, .hpdLoss n], s.outMode n ≠ 0) ∧
    (∃ (s : State) (n : Fin 4), s.outState n = outRetry ∧ s.flag (OUT_STAT n) 9 = true ∧ (s.outOf n).aux = none ∧ (s.outOf n).fw = none) ∧
    (∃ (s : State) (t : Requester) (n : Fin 4) (w : Word), s.takes t (OUT_CTRL n) ∧ w.getLsbD 0 = true ∧ s.outState n = outVideo ∧ (s.outOf n).aux = none ∧ (s.outOf n).fw = none) ∧
    (∃ (s : State) (n : Fin 4) (k : Nat) (l : Nat), (s.outOf n).step = .crWait k l ∧ (s.outOf n).aux = none) ∧
    (∃ (s : State) (n : Fin 4) (k : Nat), (s.outOf n).step = .eqWait k ∧ (s.outOf n).aux = none) := by
  refine ⟨?_, ?_, ?_, ?_, ?_, ?_, ?_, ?_⟩
  · exact ⟨(setOutState 0 1 (run)), 0, by decide +kernel⟩
  · exact ⟨(setOutState 0 outVideo (run)), 0, by decide +kernel⟩
  · exact ⟨(setOutState 0 outVideo (run.setFlds (OUT_STAT 0) [(8, 2, 3)])), 0, by decide +kernel⟩
  · exact ⟨(runWith { img with channels := [{ chan0 with outMode := 1 }] }), 0, _, .head _, by decide +kernel⟩
  · exact ⟨(setOutState 0 outRetry (run.raise (OUT_STAT 0) 9)), 0, by decide +kernel⟩
  · exact ⟨(setOutState 0 outVideo (run.setFlds (OUT_STAT 0) [(8, 2, 3)])), 0, 0, 1, by unfold State.takes; decide +kernel⟩
  · exact ⟨modOut 0 (fun o => { o with step := .crWait 1 2 }) (run), 0, 1, 2, by decide +kernel⟩
  · exact ⟨modOut 0 (fun o => { o with step := .eqWait 1 }) (run), 0, 1, by decide +kernel⟩

theorem witness_AuxTransactions :
    (∃ (s : State) (n : Fin 4) (op : AuxOp), (s.outOf n).aux = some op ∧ op.waiting = false) ∧
    (∃ (s : State) (n : Fin 4) (op : AuxOp), (s.outOf n).aux = some op ∧ op.waiting = false ∧ op.firmware = true ∧ (s.outOf n).want = [] ∧ (s.outOf n).fw = none) ∧
    (∃ (s : State) (n : Fin 4) (op : AuxOp) (data : List Byte), (s.outOf n).aux = some op ∧ op.waiting = false ∧ op.firmware = true ∧ op.write = false ∧ op.len ≤ 16 ∧ data.length = op.len ∧ (s.outOf n).want = [] ∧ (s.outOf n).fw = none) ∧
    (∃ (s : State) (n : Fin 4) (op : AuxOp) (data : List Byte), (s.outOf n).aux = some op ∧ op.waiting = false ∧ op.firmware = false ∧ (s.outOf n).step = .caps ∧ (s.outOf n).want = [] ∧ (s.outOf n).fw = none ∧ s.capsOk n data = true) ∧
    (∃ (s : State) (n : Fin 4) (op : AuxOp), (s.outOf n).aux = some op ∧ op.waiting = false ∧ op.retries < 2) ∧
    (∃ (s : State) (n : Fin 4) (op : AuxOp), (s.outOf n).aux = some op ∧ op.waiting = false ∧ 2 ≤ op.retries ∧ op.firmware = true ∧ (s.outOf n).want = [] ∧ (s.outOf n).fw = none) ∧
    (∃ (s : State) (n : Fin 4) (op : AuxOp), (s.outOf n).aux = some op ∧ op.waiting = true ∧ op.defers < 7) ∧
    (∃ (s : State) (n : Fin 4) (op : AuxOp), (s.outOf n).aux = some op ∧ op.waiting = true ∧ 7 ≤ op.defers ∧ op.firmware = true ∧ (s.outOf n).want = [] ∧ (s.outOf n).fw = none) ∧
    (∃ (s : State) (t : Requester) (n : Fin 4) (w : Word), s.takes t (OUT_AUX_CMD n) ∧ w.getLsbD 31 = true ∧ s.flag (OUT_AUX_STAT n) 0 = false ∧ s.outMode n = 0 ∧ s.outState n ≠ outIdle ∧ bits w.toNat 20 5 ≠ 0 ∧ (w.getLsbD 28 && auxDenied (bits w.toNat 0 20) (min 16 (bits w.toNat 20 5))) = false ∧ (s.outOf n).aux = none ∧ (s.outOf n).want = [] ∧ (s.outOf n).step = .none) ∧
    (∃ (s : State) (t : Requester) (n : Fin 4) (w : Word), s.takes t (OUT_AUX_CMD n) ∧ w.getLsbD 31 = true ∧ s.flag (OUT_AUX_STAT n) 0 = false ∧ s.outMode n = 0 ∧ s.outState n ≠ outIdle ∧ w.getLsbD 28 = true ∧ bits w.toNat 20 5 ≠ 0 ∧ auxDenied (bits w.toNat 0 20) (min 16 (bits w.toNat 20 5)) = true) ∧
    (∃ (s : State) (n : Fin 4), s.outState n = outVideo ∧ s.flag (OUT_STAT n) 10 = true) ∧
    (∃ (s : State) (n : Fin 4), (s.outState n ≠ outVideo ∨ s.flag (OUT_STAT n) 10 = false)) := by
  refine ⟨?_, ?_, ?_, ?_, ?_, ?_, ?_, ?_, ?_, ?_, ?_, ?_⟩
  · exact ⟨modOut 0 (fun o => { o with aux := some { firmware := true, write := false, addr := 0x100, len := 4, data := [], retries := 0, defers := 0, waiting := false } }) (run), 0, { firmware := true, write := false, addr := 0x100, len := 4, data := [], retries := 0, defers := 0, waiting := false }, by decide +kernel⟩
  · exact ⟨modOut 0 (fun o => { o with aux := some { firmware := true, write := false, addr := 0x100, len := 4, data := [], retries := 0, defers := 0, waiting := false } }) (run), 0, { firmware := true, write := false, addr := 0x100, len := 4, data := [], retries := 0, defers := 0, waiting := false }, by decide +kernel⟩
  · exact ⟨modOut 0 (fun o => { o with aux := some { firmware := true, write := false, addr := 0x100, len := 4, data := [], retries := 0, defers := 0, waiting := false } }) (run), 0, { firmware := true, write := false, addr := 0x100, len := 4, data := [], retries := 0, defers := 0, waiting := false }, [1, 2, 3, 4], by decide +kernel⟩
  · exact ⟨modOut 0 (fun o => { o with aux := some { firmware := false, write := false, addr := 0, len := 16, data := [], retries := 0, defers := 0, waiting := false }, step := .caps }) (run), 0, { firmware := false, write := false, addr := 0, len := 16, data := [], retries := 0, defers := 0, waiting := false }, [0x14, 0x1E, 0xC4] ++ List.replicate 13 0, by decide +kernel⟩
  · exact ⟨modOut 0 (fun o => { o with aux := some { firmware := true, write := false, addr := 0x100, len := 4, data := [], retries := 0, defers := 0, waiting := false } }) (run), 0, { firmware := true, write := false, addr := 0x100, len := 4, data := [], retries := 0, defers := 0, waiting := false }, by decide +kernel⟩
  · exact ⟨modOut 0 (fun o => { o with aux := some { firmware := true, write := false, addr := 0x100, len := 4, data := [], retries := 2, defers := 0, waiting := false } }) (run), 0, { firmware := true, write := false, addr := 0x100, len := 4, data := [], retries := 2, defers := 0, waiting := false }, by decide +kernel⟩
  · exact ⟨modOut 0 (fun o => { o with aux := some { firmware := true, write := false, addr := 0x100, len := 4, data := [], retries := 0, defers := 0, waiting := true } }) (run), 0, { firmware := true, write := false, addr := 0x100, len := 4, data := [], retries := 0, defers := 0, waiting := true }, by decide +kernel⟩
  · exact ⟨modOut 0 (fun o => { o with aux := some { firmware := true, write := false, addr := 0x100, len := 4, data := [], retries := 0, defers := 7, waiting := true } }) (run), 0, { firmware := true, write := false, addr := 0x100, len := 4, data := [], retries := 0, defers := 7, waiting := true }, by decide +kernel⟩
  · exact ⟨(setOutState 0 outVideo (run)), 0, 0, 0x80400200, by unfold State.takes; decide +kernel⟩
  · exact ⟨(setOutState 0 outVideo (run)), 0, 0, 0x90100100, by unfold State.takes; decide +kernel⟩
  · exact ⟨(setOutState 0 outVideo (run.raise (OUT_STAT 0) 10)), 0, by decide +kernel⟩
  · exact ⟨run, 0, by decide +kernel⟩

theorem witness_ProofWindows :
    (∃ (s : State) (j : Fin 64) (r : TelltaleRec) (samples : List Code), s.ttRec j = some r ∧ (s.ttOf j).lWin = true ∧ 2 ≤ s.ttState j ∧ bit r.methods 3 = true ∧ s.methodRuns r 3 = true ∧ (s.ttOf j).lBad = false ∧ s.flag (LED_CUR r.led) 31 = true ∧ (∀ c ∈ samples, c.toNat ≤ s.fld (LED_CUR r.led) 0 10 + s.fld LED_CFG 0 10 ∧ s.fld (LED_CUR r.led) 0 10 ≤ c.toNat + s.fld LED_CFG 0 10)) ∧
    (∃ (s : State) (j : Fin 64) (r : TelltaleRec) (samples : List Code), s.ttRec j = some r ∧ (s.ttOf j).lWin = true ∧ 2 ≤ s.ttState j ∧ bit r.methods 3 = true ∧ s.methodRuns r 3 = true ∧ s.faultClass (if bit r.flags 0 then 70 else 71) ≤ 3 ∧ ((s.ttOf j).lBad = true ∨ ∃ c ∈ samples, s.fld (LED_CUR r.led) 0 10 + s.fld LED_CFG 0 10 < c.toNat ∨ c.toNat + s.fld LED_CFG 0 10 < s.fld (LED_CUR r.led) 0 10)) ∧
    (∃ (s : State) (j : Fin 64) (r : TelltaleRec), s.ttRec j = some r ∧ bit r.flags 0 = true ∧ s.fld TT_DEADLINE 0 16 ≠ 0 ∧ s.ttState j ≠ ttOff ∧ (s.ttOf j).dlDone = false ∧ ¬(2 ≤ s.ttState j ∧ s.elecProven r = true) ∧ s.faultClass 72 ≤ 3) ∧
    (∃ (s : State) (j : Fin 64), (∀ r, s.ttRec j = some r → bit r.flags 0 = false ∨ s.fld TT_DEADLINE 0 16 = 0 ∨ s.ttState j = ttOff ∨ (s.ttOf j).dlDone = true ∨ (2 ≤ s.ttState j ∧ s.elecProven r = true))) ∧
    (∃ (s : State) (n : Fin 32) (r : TelltaleRec), (s.tts.find? fun r => r.led = n.val) = some r ∧ s.flag (LED_CUR n) 31 = true ∧ (s.ttOf r.index).lWin = false) ∧
    (∃ (s : State) (n : Fin 32) (r : TelltaleRec), (s.tts.find? fun r => r.led = n.val) = some r ∧ s.flag (LED_CUR n) 31 = true ∧ (s.ttOf r.index).lWin = true ∧ 2 ≤ s.ttState r.index ∧ r.index < 64 ∧ s.faultClass (if bit r.flags 0 then 70 else 71) ≤ 3) ∧
    (∃ (s : State) (n : Fin 32) (r : TelltaleRec), s.proof.ledRetry.getLsbD n = true ∧ (s.tts.find? fun r => r.led = n.val) = some r ∧ r.index < 64 ∧ 2 ≤ s.ttState r.index ∧ bit r.methods 3 = false ∧ s.fld (LED_CUR n) 0 10 ≠ 0) ∧
    (∃ (s : State) (n : Fin 32), s.proof.ledRetry.getLsbD n = false) ∧
    (∃ (s : State) (n : Fin 4) (r : TelltaleRec) (k : Nat), s.chState n = chRun ∧ (s.chanOf n).pixFault = false ∧ (s.chanOf n).live = true ∧ (∀ k, k < 128 → k ≠ 81 → s.faultClass k ≤ 3) ∧ s.ttsWf ∧ r ∈ s.tts ∧ r.channel = n ∧ 2 ≤ s.ttState r.index ∧ bit r.methods 0 = true ∧ (s.ttOf r.index).eWin = some k ∧ s.fld TT_CFG 0 4 ≠ 0) ∧
    (∃ (s : State) (n : Fin 4) (r : TelltaleRec) (k : Nat), s.chState n = chRun ∧ (s.chanOf n).pixFault = false ∧ (s.chanOf n).live = true ∧ (∀ k, k < 128 → k ≠ 81 → s.faultClass k ≤ 3) ∧ s.ttsWf ∧ r ∈ s.tts ∧ r.channel = n ∧ 2 ≤ s.ttState r.index ∧ bit r.methods 1 = true ∧ (s.ttOf r.index).sWin = some k ∧ s.fld TT_CFG 4 4 ≠ 0 ∧ s.flag (OUT_STAT n) 10 = true) ∧
    (∃ (s : State) (n : Fin 4) (pd : List (List PdRun)) (r : TelltaleRec) (fs : List PdFrame), s.chState n = chRun ∧ (s.chanOf n).pixFault = false ∧ (s.chanOf n).live = true ∧ (∀ k, k < 128 → k ≠ 81 → s.faultClass k ≤ 3) ∧ s.ttsWf ∧ r ∈ s.tts ∧ r.channel = n ∧ 2 ≤ s.ttState r.index ∧ bit r.methods 2 = true ∧ r.pd < 8 ∧ s.fld OPT_CFG 0 4 ≠ 0 ∧ s.pdCount n ≠ 0 ∧ 64 * pdSum (s.pdCount n) (pd.getD r.pd []) % s.pdCount n = 0 ∧ ((s.fld OPT_CFG 4 2 = 0 ∧ (s.ttOf r.index).oWin = some fs ∧ (s.ttOf r.index).oTail = [] ∧ fs.length = 14) ∨ ((s.ttOf r.index).oWin = none ∧ (s.ttOf r.index).oTail = fs ∧ fs.length = 14 + s.fld OPT_CFG 4 2))) ∧
    (∃ (s : State) (n : Fin 4) (pd : List (List PdRun)) (r : TelltaleRec) (fs : List PdFrame), s.chState n = chRun ∧ (s.chanOf n).pixFault = false ∧ (s.chanOf n).live = true ∧ (∀ k, k < 128 → k ≠ 81 → s.faultClass k ≤ 3) ∧ s.ttsWf ∧ r ∈ s.tts ∧ r.channel = n ∧ 2 ≤ s.ttState r.index ∧ bit r.methods 2 = true ∧ s.fld OPT_CFG 0 4 ≠ 0 ∧ s.fld (TT_S r.index) 20 2 = 0 ∧ s.fld TT_VAR (2 * n) 2 = 0 ∧ s.pdCount n ≠ 0 ∧ 64 * pdSum (s.pdCount n) (pd.getD r.pd []) % s.pdCount n = 0 ∧ (s.ttOf r.index).oWin = some fs ∧ (s.ttOf r.index).oTail = [] ∧ fs.length < 14) := by
  refine ⟨?_, ?_, ?_, ?_, ?_, ?_, ?_, ?_, ?_, ?_, ?_, ?_⟩
  · exact ⟨(modTt 3 (fun t => { t with lWin := true }) ((((runWith { img with telltales := [{ index := 3, channel := 0, methods := 8, flags := 1, glyph := 0, variants := 1, pd := 0xFF, x := 0, y := 0, led := 2, ledCurrent := 200, expCrc := [] }] }).setFlds (TT_S 3) [(0, 4, ttProving)]).setFlds (LED_CUR 2) [(0, 10, 200), (31, 1, 1)]).setFld LED_CFG 0 10 10)), 3, { index := 3, channel := 0, methods := 8, flags := 1, glyph := 0, variants := 1, pd := 0xFF, x := 0, y := 0, led := 2, ledCurrent := 200, expCrc := [] }, [190, 210], by decide +kernel⟩
  · exact ⟨(modTt 3 (fun t => { t with lWin := true }) ((((runWith { img with telltales := [{ index := 3, channel := 0, methods := 8, flags := 1, glyph := 0, variants := 1, pd := 0xFF, x := 0, y := 0, led := 2, ledCurrent := 200, expCrc := [] }] }).setFlds (TT_S 3) [(0, 4, ttProving)]).setFlds (LED_CUR 2) [(0, 10, 200), (31, 1, 1)]).setFld LED_CFG 0 10 10)), 3, { index := 3, channel := 0, methods := 8, flags := 1, glyph := 0, variants := 1, pd := 0xFF, x := 0, y := 0, led := 2, ledCurrent := 200, expCrc := [] }, [189], by decide +kernel⟩
  · exact ⟨(modTt 3 (fun t => { t with lWin := true }) ((((runWith { img with telltales := [{ index := 3, channel := 0, methods := 8, flags := 1, glyph := 0, variants := 1, pd := 0xFF, x := 0, y := 0, led := 2, ledCurrent := 200, expCrc := [] }] }).setFlds (TT_S 3) [(0, 4, ttProving)]).setFlds (LED_CUR 2) [(0, 10, 200), (31, 1, 1)]).setFld LED_CFG 0 10 10)).setFld TT_DEADLINE 0 16 5, 3, { index := 3, channel := 0, methods := 8, flags := 1, glyph := 0, variants := 1, pd := 0xFF, x := 0, y := 0, led := 2, ledCurrent := 200, expCrc := [] }, by decide +kernel⟩
  · exact ⟨(modTt 3 (fun t => { t with lWin := true }) ((((runWith { img with telltales := [{ index := 3, channel := 0, methods := 8, flags := 0, glyph := 0, variants := 1, pd := 0xFF, x := 0, y := 0, led := 2, ledCurrent := 200, expCrc := [] }] }).setFlds (TT_S 3) [(0, 4, ttProving)]).setFlds (LED_CUR 2) [(0, 10, 200), (31, 1, 1)]).setFld LED_CFG 0 10 10)), 3, by decide +kernel⟩
  · exact ⟨(((((runWith { img with telltales := [{ index := 3, channel := 0, methods := 8, flags := 1, glyph := 0, variants := 1, pd := 0xFF, x := 0, y := 0, led := 2, ledCurrent := 200, expCrc := [] }] }).setFlds (TT_S 3) [(0, 4, ttProving)]).setFlds (LED_CUR 2) [(0, 10, 200), (31, 1, 1)]).setFld LED_CFG 0 10 10)), 2, { index := 3, channel := 0, methods := 8, flags := 1, glyph := 0, variants := 1, pd := 0xFF, x := 0, y := 0, led := 2, ledCurrent := 200, expCrc := [] }, by decide +kernel⟩
  · exact ⟨(modTt 3 (fun t => { t with lWin := true }) ((((runWith { img with telltales := [{ index := 3, channel := 0, methods := 8, flags := 1, glyph := 0, variants := 1, pd := 0xFF, x := 0, y := 0, led := 2, ledCurrent := 200, expCrc := [] }] }).setFlds (TT_S 3) [(0, 4, ttProving)]).setFlds (LED_CUR 2) [(0, 10, 200), (31, 1, 1)]).setFld LED_CFG 0 10 10)), 2, { index := 3, channel := 0, methods := 8, flags := 1, glyph := 0, variants := 1, pd := 0xFF, x := 0, y := 0, led := 2, ledCurrent := 200, expCrc := [] }, by decide +kernel⟩
  · exact ⟨{ (((((runWith { img with telltales := [{ index := 3, channel := 0, methods := 1, flags := 1, glyph := 0, variants := 1, pd := 0xFF, x := 0, y := 0, led := 2, ledCurrent := 200, expCrc := [] }] }).setFlds (TT_S 3) [(0, 4, ttProving)]).setFlds (LED_CUR 2) [(0, 10, 200), (31, 1, 1)]).setFld LED_CFG 0 10 10)) with proof := { ((((((runWith { img with telltales := [{ index := 3, channel := 0, methods := 1, flags := 1, glyph := 0, variants := 1, pd := 0xFF, x := 0, y := 0, led := 2, ledCurrent := 200, expCrc := [] }] }).setFlds (TT_S 3) [(0, 4, ttProving)]).setFlds (LED_CUR 2) [(0, 10, 200), (31, 1, 1)]).setFld LED_CFG 0 10 10)) : State).proof with ledRetry := 4 } }, 2, { index := 3, channel := 0, methods := 1, flags := 1, glyph := 0, variants := 1, pd := 0xFF, x := 0, y := 0, led := 2, ledCurrent := 200, expCrc := [] }, by decide +kernel⟩
  · exact ⟨run, 2, by decide +kernel⟩
  · exact ⟨(modTt 3 (fun t => { t with eWin := some 1 }) (modChan 0 (fun c => { c with live := true }) (((runWith { img with channels := [chan0, { chan0 with channel := 2 }], telltales := [{ index := 3, channel := 0, methods := 1, flags := 1, glyph := 0, variants := 1, pd := 1, x := 0, y := 0, led := 0xFF, ledCurrent := 200, expCrc := [0] }, { index := 9, channel := 0, methods := 1, flags := 1, glyph := 0, variants := 1, pd := 2, x := 0, y := 0, led := 0xFF, ledCurrent := 200, expCrc := [5] }] }).setFlds (TT_S 3) [(0, 4, ttProving), (8, 8, 0x55)]).setFld (CH_STAT 0) 0 4 chRun))).setFld TT_CFG 0 4 3, 0, { index := 3, channel := 0, methods := 1, flags := 1, glyph := 0, variants := 1, pd := 1, x := 0, y := 0, led := 0xFF, ledCurrent := 200, expCrc := [0] }, 1, by decide +kernel⟩
  · exact ⟨((modTt 3 (fun t => { t with sWin := some 1, sInc := 6 }) (modChan 0 (fun c => { c with live := true, testCrc := [(5, 77)], sinkCrc := none }) (((runWith { img with channels := [chan0, { chan0 with channel := 2 }], telltales := [{ index := 3, channel := 0, methods := 2, flags := 1, glyph := 0, variants := 1, pd := 1, x := 0, y := 0, led := 0xFF, ledCurrent := 200, expCrc := [0] }, { index := 9, channel := 0, methods := 1, flags := 1, glyph := 0, variants := 1, pd := 2, x := 0, y := 0, led := 0xFF, ledCurrent := 200, expCrc := [5] }] }).setFlds (TT_S 3) [(0, 4, ttProving), (8, 8, 0x55)]).setFld (CH_STAT 0) 0 4 chRun))).setFld TT_CFG 4 4 3 |>.raise (OUT_STAT 0) 10), 0, { index := 3, channel := 0, methods := 2, flags := 1, glyph := 0, variants := 1, pd := 1, x := 0, y := 0, led := 0xFF, ledCurrent := 200, expCrc := [0] }, 1, by decide +kernel⟩
  · exact ⟨(((modTt 3 (fun t => { t with oWin := some [{ f := 19200, saturated := false }, { f := 19328, saturated := false }, { f := 19328, saturated := false }, { f := 19328, saturated := false }, { f := 19072, saturated := false }, { f := 19328, saturated := false }, { f := 19072, saturated := false }, { f := 19328, saturated := false }, { f := 19328, saturated := false }, { f := 19072, saturated := false }, { f := 19072, saturated := false }, { f := 19328, saturated := false }, { f := 19072, saturated := false }, { f := 19072, saturated := false }], oInc := 3 }) (modChan 0 (fun c => { c with live := true }) (((runWith { img with channels := [chan0, { chan0 with channel := 2 }], telltales := [{ index := 3, channel := 0, methods := 4, flags := 1, glyph := 0, variants := 1, pd := 1, x := 0, y := 0, led := 0xFF, ledCurrent := 200, expCrc := [0] }, { index := 9, channel := 0, methods := 1, flags := 1, glyph := 0, variants := 1, pd := 2, x := 0, y := 0, led := 0xFF, ledCurrent := 200, expCrc := [5] }] }).setFlds (TT_S 3) [(0, 4, ttProving), (8, 8, 0x55)]).setFld (CH_STAT 0) 0 4 chRun))).setFlds OPT_CFG [(0, 4, 3), (4, 2, 0)]).setFlds (OPT_THR 1) [(0, 16, 100), (16, 16, 50)] |>.setFlds (OPT_AMB 1) [(0, 10, 100), (16, 10, 500)] |>.setFld (OPT_NOISE 1) 0 16 9000), 0, [[], [{ code := 300, rail := false, count := 100000 }]], { index := 3, channel := 0, methods := 4, flags := 1, glyph := 0, variants := 1, pd := 1, x := 0, y := 0, led := 0xFF, ledCurrent := 200, expCrc := [0] }, [{ f := 19200, saturated := false }, { f := 19328, saturated := false }, { f := 19328, saturated := false }, { f := 19328, saturated := false }, { f := 19072, saturated := false }, { f := 19328, saturated := false }, { f := 19072, saturated := false }, { f := 19328, saturated := false }, { f := 19328, saturated := false }, { f := 19072, saturated := false }, { f := 19072, saturated := false }, { f := 19328, saturated := false }, { f := 19072, saturated := false }, { f := 19072, saturated := false }], by decide +kernel⟩
  · exact ⟨((modTt 3 (fun t => { t with oWin := some [{ f := 19200, saturated := false }, { f := 19328, saturated := false }, { f := 19328, saturated := false }, { f := 19328, saturated := false }, { f := 19072, saturated := false }, { f := 19328, saturated := false }, { f := 19072, saturated := false }, { f := 19328, saturated := false }, { f := 19328, saturated := false }, { f := 19072, saturated := false }, { f := 19072, saturated := false }, { f := 19328, saturated := false }, { f := 19072, saturated := false }] }) (modChan 0 (fun c => { c with live := true }) (((runWith { img with channels := [chan0, { chan0 with channel := 2 }], telltales := [{ index := 3, channel := 0, methods := 4, flags := 1, glyph := 0, variants := 1, pd := 1, x := 0, y := 0, led := 0xFF, ledCurrent := 200, expCrc := [0] }, { index := 9, channel := 0, methods := 1, flags := 1, glyph := 0, variants := 1, pd := 2, x := 0, y := 0, led := 0xFF, ledCurrent := 200, expCrc := [5] }] }).setFlds (TT_S 3) [(0, 4, ttProving), (8, 8, 0x55)]).setFld (CH_STAT 0) 0 4 chRun))).setFlds OPT_CFG [(0, 4, 3), (4, 2, 1)]), 0, [[], [{ code := 300, rail := false, count := 100000 }]], { index := 3, channel := 0, methods := 4, flags := 1, glyph := 0, variants := 1, pd := 1, x := 0, y := 0, led := 0xFF, ledCurrent := 200, expCrc := [0] }, [{ f := 19200, saturated := false }, { f := 19328, saturated := false }, { f := 19328, saturated := false }, { f := 19328, saturated := false }, { f := 19072, saturated := false }, { f := 19328, saturated := false }, { f := 19072, saturated := false }, { f := 19328, saturated := false }, { f := 19328, saturated := false }, { f := 19072, saturated := false }, { f := 19072, saturated := false }, { f := 19328, saturated := false }, { f := 19072, saturated := false }], by decide +kernel⟩

theorem witness_RequestsAndPresence :
    (∃ (s : State) (t : Requester) (w : Word), s.takes t TT_T1_ALIVE ∧ w.getLsbD 0 = true ∧ whoOf t = 1 ∧ s.ttsWf ∧ (∀ k, k < 128 → k ≠ 81 → s.faultClass k ≤ 3)) ∧
    (∃ (s : State) (t : Requester) (w : Word), s.takes t TT_T1_ALIVE ∧ (w.getLsbD 0 = false ∨ whoOf t ≠ 1)) ∧
    (∃ (s : State), s.fld TT_T1_TMO 0 16 ≠ 0 ∧ s.proof.t1Alive = true ∧ s.ttsWf ∧ (∀ k, k < 128 → k ≠ 81 → s.faultClass k ≤ 3)) ∧
    (∃ (s : State), (s.fld TT_T1_TMO 0 16 = 0 ∨ s.proof.t1Alive = false)) ∧
    (∃ (s : State) (t : Requester) (k : Fin 4) (r : TelltaleRec) (i : Nat), s.takes t (TT_T1_REQ k) ∧ s.ttsWf ∧ (∀ k, k < 128 → k ≠ 81 → s.faultClass k ≤ 3) ∧ r ∈ s.tts ∧ i < 16 ∧ r.index = 16 * k.val + i ∧ r.channel < 4 ∧ s.ttSrcs r.index = [] ∧ (s.ttOf r.index).bulb = false ∧ s.joined = false ∧ s.t1Live = true ∧ s.ttState r.index = ttOff) ∧
    (∃ (s : State) (n : Option (Fin 4)) (r : TelltaleRec), s.ttsWf ∧ (∀ k, k < 128 → k ≠ 81 → s.faultClass k ≤ 3) ∧ r ∈ s.tts ∧ r.channel = (n.map (·.val)).getD 0xFF ∧ s.ttSrcs r.index = [] ∧ s.t1Reqs r.index = [] ∧ s.ttState r.index ≠ ttOff) ∧
    (∃ (s : State), s.cfg.isSome = true ∧ s.fld TT_CAN_PERIOD 0 16 ≠ 0 ∧ s.proof.holdoff = true) ∧
    (∃ (s : State), s.cfg.isSome = true ∧ s.fld TT_CAN_PERIOD 0 16 ≠ 0 ∧ s.proof.holdoff = false ∧ s.sendsPresence = true) ∧
    (∃ (s : State), s.cfg.isSome = true ∧ s.fld TT_CAN_PERIOD 0 16 ≠ 0 ∧ s.proof.holdoff = false ∧ s.sendsPresence = false) ∧
    (∃ (s : State), s.proof.change = false) ∧
    (∃ (s : State), s.proof.change = true ∧ s.sendsPresence = true) := by
  refine ⟨?_, ?_, ?_, ?_, ?_, ?_, ?_, ?_, ?_, ?_, ?_⟩
  · exact ⟨run, 1, 1, by unfold State.takes; decide +kernel⟩
  · exact ⟨run, 1, 2, by unfold State.takes; decide +kernel⟩
  · exact ⟨{ run.setFld TT_T1_TMO 0 16 5 with proof := { run.proof with t1Alive := true } }, by decide +kernel⟩
  · exact ⟨run.setFld TT_T1_TMO 0 16 0, by decide +kernel⟩
  · exact ⟨{ (((((runWith { img with telltales := [{ index := 3, channel := 0, methods := 8, flags := 1, glyph := 0, variants := 1, pd := 0xFF, x := 0, y := 0, led := 2, ledCurrent := 200, expCrc := [] }] }).setFlds (TT_S 3) [(0, 4, ttOff)]).setFlds (LED_CUR 2) [(0, 10, 200), (31, 1, 1)]).setFld LED_CFG 0 10 10)) with proof := { ((((((runWith { img with telltales := [{ index := 3, channel := 0, methods := 8, flags := 1, glyph := 0, variants := 1, pd := 0xFF, x := 0, y := 0, led := 2, ledCurrent := 200, expCrc := [] }] }).setFlds (TT_S 3) [(0, 4, ttOff)]).setFlds (LED_CUR 2) [(0, 10, 200), (31, 1, 1)]).setFld LED_CFG 0 10 10)) : State).proof with t1Alive := true } }, 1, 0, { index := 3, channel := 0, methods := 8, flags := 1, glyph := 0, variants := 1, pd := 0xFF, x := 0, y := 0, led := 2, ledCurrent := 200, expCrc := [] }, 3, by unfold State.takes; decide +kernel⟩
  · exact ⟨(modTt 3 (fun t => { t with bulb := true }) ((((runWith { img with telltales := [{ index := 3, channel := 0, methods := 8, flags := 1, glyph := 0, variants := 1, pd := 0xFF, x := 0, y := 0, led := 2, ledCurrent := 200, expCrc := [] }] }).setFlds (TT_S 3) [(0, 4, ttProving)]).setFlds (LED_CUR 2) [(0, 10, 200), (31, 1, 1)]).setFld LED_CFG 0 10 10)), some 0, { index := 3, channel := 0, methods := 8, flags := 1, glyph := 0, variants := 1, pd := 0xFF, x := 0, y := 0, led := 2, ledCurrent := 200, expCrc := [] }, by decide +kernel⟩
  · exact ⟨{ run.setFld TT_CAN_PERIOD 0 16 100 with proof := { State.proof (run.setFld TT_CAN_PERIOD 0 16 100) with holdoff := true } }, by decide +kernel⟩
  · exact ⟨{ ((runWith { img with canctls := [{ ctrl := 0, flags := 7, nbrp := 1, ntseg1 := 3, ntseg2 := 2, nsjw := 1, dbrp := 1, dtseg1 := 3, dtseg2 := 2, dsjw := 1, tdco := 0, presenceId := 0x123 }] }).setFlds (CAN_STAT 0) [(0, 2, 1), (3, 1, 1)]).setFld TT_CAN_PERIOD 0 16 100 with proof := { State.proof (((runWith { img with canctls := [{ ctrl := 0, flags := 7, nbrp := 1, ntseg1 := 3, ntseg2 := 2, nsjw := 1, dbrp := 1, dtseg1 := 3, dtseg2 := 2, dsjw := 1, tdco := 0, presenceId := 0x123 }] }).setFlds (CAN_STAT 0) [(0, 2, 1), (3, 1, 1)]).setFld TT_CAN_PERIOD 0 16 100) with change := true } }, by decide +kernel⟩
  · exact ⟨((run.setFlds FLK_STAT [(0, 2, 2), (4, 2, 1), (8, 4, 1)]).setFlds FLK_MEMBERS [(0, 2, 3)]).setFld TT_CAN_PERIOD 0 16 100, by decide +kernel⟩
  · exact ⟨{ run with proof := { State.proof (run) with holdoff := true } }, by decide +kernel⟩
  · exact ⟨{ ((runWith { img with canctls := [{ ctrl := 0, flags := 7, nbrp := 1, ntseg1 := 3, ntseg2 := 2, nsjw := 1, dbrp := 1, dtseg1 := 3, dtseg2 := 2, dsjw := 1, tdco := 0, presenceId := 0x123 }] }).setFlds (CAN_STAT 0) [(0, 2, 1), (3, 1, 1)]) with proof := { State.proof (((runWith { img with canctls := [{ ctrl := 0, flags := 7, nbrp := 1, ntseg1 := 3, ntseg2 := 2, nsjw := 1, dbrp := 1, dtseg1 := 3, dtseg2 := 2, dsjw := 1, tdco := 0, presenceId := 0x123 }] }).setFlds (CAN_STAT 0) [(0, 2, 1), (3, 1, 1)])) with holdoff := true, change := true } }, by decide +kernel⟩

theorem witness_CanReception :
    (∃ (s : State) (c : Fin 2), (s.canOnline c = false ∨ s.canHears c = false)) ∧
    (∃ (s : State) (c : Fin 2) (f : CanFrame), s.canOnline c = true ∧ s.canHears c = true ∧ f.fdf = true ∧ s.canFlag c 0 = false ∧ (s.canOf c).leaving = false) ∧
    (∃ (s : State) (c : Fin 2) (f : CanFrame), s.canOnline c = true ∧ s.canHears c = true ∧ s.ladder ≠ 1 ∧ (f.fdf = false ∨ s.canFlag c 0 = true) ∧ f.remote = true ∧ s.recCount c ≤ 127 ∧ (s.canOf c).leaving = false) ∧
    (∃ (s : State) (c : Fin 2) (f : CanFrame), s.canOnline c = true ∧ s.canHears c = true ∧ s.ladder ≠ 1 ∧ s.ttsWf ∧ (∀ k, k < 128 → k ≠ 81 → s.faultClass k ≤ 3) ∧ (f.fdf = false ∨ s.canFlag c 0 = true) ∧ f.remote = false ∧ s.joined = false ∧ s.cfg.isSome = true ∧ (s.canOf c).leaving = false) ∧
    (∃ (s : State) (c : Fin 2) (f : CanFrame) (r : Fin 256) (e : CanmapRec × Nat) (b : Byte), s.canOnline c = true ∧ s.canHears c = true ∧ s.ladder ≠ 1 ∧ s.ttsWf ∧ (∀ k, k < 128 → k ≠ 81 → s.faultClass k ≤ 3) ∧ (f.fdf = false ∨ s.canFlag c 0 = true) ∧ f.remote = false ∧ s.joined = false ∧ s.cfg.isSome = true ∧ (s.canOf c).leaving = false ∧ (s.canmaps.find? fun e => e.2 = r.val) = some e ∧ tget 0 s.srcs r ≠ 3 ∧ mapMatches e.1 c f = true ∧ f.data[e.1.byte]? = some b) := by
  refine ⟨?_, ?_, ?_, ?_, ?_⟩
  · exact ⟨run, 0, by decide +kernel⟩
  · exact ⟨((runWith { img with canctls := [{ ctrl := 0, flags := 6, nbrp := 1, ntseg1 := 3, ntseg2 := 2, nsjw := 1, dbrp := 1, dtseg1 := 3, dtseg2 := 2, dsjw := 1, tdco := 0, presenceId := 0x123 }] }).setFlds (CAN_STAT 0) [(0, 2, 1), (3, 1, 1)]), 0, { ide := false, id := 0x123, fdf := true, brs := false, esi := false, remote := false, dlc := 1, data := [1] }, by decide +kernel⟩
  · exact ⟨((runWith { img with canctls := [{ ctrl := 0, flags := 7, nbrp := 1, ntseg1 := 3, ntseg2 := 2, nsjw := 1, dbrp := 1, dtseg1 := 3, dtseg2 := 2, dsjw := 1, tdco := 0, presenceId := 0x123 }] }).setFlds (CAN_STAT 0) [(0, 2, 1), (3, 1, 1)]).setFld (CAN_ERRC 0) 16 8 4, 0, { ide := false, id := 0x123, fdf := false, brs := false, esi := false, remote := true, dlc := 1, data := [1] }, by decide +kernel⟩
  · exact ⟨{ ((runWith { img with canctls := [{ ctrl := 0, flags := 7, nbrp := 1, ntseg1 := 3, ntseg2 := 2, nsjw := 1, dbrp := 1, dtseg1 := 3, dtseg2 := 2, dsjw := 1, tdco := 0, presenceId := 0x123 }], canmaps := [{ id := 0x123, ctrl := 0, byte := 0, bit := 0, width := 1, tt := 3, onValue := 1, srcTimeout := 0 }, { id := 0x123, ctrl := 0, byte := 1, bit := 0, width := 1, tt := 3, onValue := 1, srcTimeout := 0 }, { id := 0x124, ctrl := 0, byte := 0, bit := 0, width := 1, tt := 3, onValue := 1, srcTimeout := 0 }] }).setFlds (CAN_STAT 0) [(0, 2, 1), (3, 1, 1)]) with proof := { State.proof (((runWith { img with canctls := [{ ctrl := 0, flags := 7, nbrp := 1, ntseg1 := 3, ntseg2 := 2, nsjw := 1, dbrp := 1, dtseg1 := 3, dtseg2 := 2, dsjw := 1, tdco := 0, presenceId := 0x123 }], canmaps := [{ id := 0x123, ctrl := 0, byte := 0, bit := 0, width := 1, tt := 3, onValue := 1, srcTimeout := 0 }, { id := 0x123, ctrl := 0, byte := 1, bit := 0, width := 1, tt := 3, onValue := 1, srcTimeout := 0 }, { id := 0x124, ctrl := 0, byte := 0, bit := 0, width := 1, tt := 3, onValue := 1, srcTimeout := 0 }] }).setFlds (CAN_STAT 0) [(0, 2, 1), (3, 1, 1)])) with lastCodes := State.shownNow (((runWith { img with canctls := [{ ctrl := 0, flags := 7, nbrp := 1, ntseg1 := 3, ntseg2 := 2, nsjw := 1, dbrp := 1, dtseg1 := 3, dtseg2 := 2, dsjw := 1, tdco := 0, presenceId := 0x123 }], canmaps := [{ id := 0x123, ctrl := 0, byte := 0, bit := 0, width := 1, tt := 3, onValue := 1, srcTimeout := 0 }, { id := 0x123, ctrl := 0, byte := 1, bit := 0, width := 1, tt := 3, onValue := 1, srcTimeout := 0 }, { id := 0x124, ctrl := 0, byte := 0, bit := 0, width := 1, tt := 3, onValue := 1, srcTimeout := 0 }] }).setFlds (CAN_STAT 0) [(0, 2, 1), (3, 1, 1)])) } }, 0, { ide := false, id := 0x123, fdf := false, brs := false, esi := false, remote := false, dlc := 1, data := [1] }, by decide +kernel⟩
  · exact ⟨{ ((runWith { img with canctls := [{ ctrl := 0, flags := 7, nbrp := 1, ntseg1 := 3, ntseg2 := 2, nsjw := 1, dbrp := 1, dtseg1 := 3, dtseg2 := 2, dsjw := 1, tdco := 0, presenceId := 0x123 }], canmaps := [{ id := 0x123, ctrl := 0, byte := 0, bit := 0, width := 1, tt := 3, onValue := 1, srcTimeout := 0 }, { id := 0x123, ctrl := 0, byte := 1, bit := 0, width := 1, tt := 3, onValue := 1, srcTimeout := 0 }, { id := 0x124, ctrl := 0, byte := 0, bit := 0, width := 1, tt := 3, onValue := 1, srcTimeout := 0 }] }).setFlds (CAN_STAT 0) [(0, 2, 1), (3, 1, 1)]) with proof := { State.proof (((runWith { img with canctls := [{ ctrl := 0, flags := 7, nbrp := 1, ntseg1 := 3, ntseg2 := 2, nsjw := 1, dbrp := 1, dtseg1 := 3, dtseg2 := 2, dsjw := 1, tdco := 0, presenceId := 0x123 }], canmaps := [{ id := 0x123, ctrl := 0, byte := 0, bit := 0, width := 1, tt := 3, onValue := 1, srcTimeout := 0 }, { id := 0x123, ctrl := 0, byte := 1, bit := 0, width := 1, tt := 3, onValue := 1, srcTimeout := 0 }, { id := 0x124, ctrl := 0, byte := 0, bit := 0, width := 1, tt := 3, onValue := 1, srcTimeout := 0 }] }).setFlds (CAN_STAT 0) [(0, 2, 1), (3, 1, 1)])) with lastCodes := State.shownNow (((runWith { img with canctls := [{ ctrl := 0, flags := 7, nbrp := 1, ntseg1 := 3, ntseg2 := 2, nsjw := 1, dbrp := 1, dtseg1 := 3, dtseg2 := 2, dsjw := 1, tdco := 0, presenceId := 0x123 }], canmaps := [{ id := 0x123, ctrl := 0, byte := 0, bit := 0, width := 1, tt := 3, onValue := 1, srcTimeout := 0 }, { id := 0x123, ctrl := 0, byte := 1, bit := 0, width := 1, tt := 3, onValue := 1, srcTimeout := 0 }, { id := 0x124, ctrl := 0, byte := 0, bit := 0, width := 1, tt := 3, onValue := 1, srcTimeout := 0 }] }).setFlds (CAN_STAT 0) [(0, 2, 1), (3, 1, 1)])) } }, 0, { ide := false, id := 0x123, fdf := false, brs := false, esi := false, remote := false, dlc := 1, data := [1] }, 0, ({ id := 0x123, ctrl := 0, byte := 0, bit := 0, width := 1, tt := 3, onValue := 1, srcTimeout := 0 }, 0), 1, by decide +kernel⟩

theorem witness_CanTransmission :
    (∃ (s : State) (t : Requester) (c : Fin 2) (n : Fin 64) (w : Word), s.takes t (CAN_MB_CTRL c n) ∧ n ≠ 0 ∧ rbReject s.bounds (some (whoOf t)) (CAN_MB_CTRL c n) (s.reg (CAN_MB_CTRL c n)) w = none ∧ bits w.toNat 0 2 = 2 ∧ w.getLsbD 4 = true ∧ w.getLsbD 5 = false) ∧
    (∃ (s : State) (t : Requester) (c : Fin 2) (n : Fin 64) (w : Word), s.takes t (CAN_MB_CTRL c n) ∧ n ≠ 0 ∧ rbReject s.bounds (some (whoOf t)) (CAN_MB_CTRL c n) (s.reg (CAN_MB_CTRL c n)) w = none ∧ w.getLsbD 4 = false ∧ w.getLsbD 5 = true ∧ s.flag (CAN_MB_CTRL c n) 4 = true ∧ (s.canOf c).onBus ≠ some n.val) ∧
    (∃ (s : State) (t : Requester) (c : Fin 2) (n : Fin 64) (w : Word), ∃ i ∈ [Instr.canTxAbort t c n w false, .canTxAbort t c n w true], s.takes t (CAN_MB_CTRL c n) ∧ n ≠ 0 ∧ rbReject s.bounds (some (whoOf t)) (CAN_MB_CTRL c n) (s.reg (CAN_MB_CTRL c n)) w = none ∧ w.getLsbD 4 = false ∧ w.getLsbD 5 = true ∧ s.flag (CAN_MB_CTRL c n) 4 = true ∧ s.mayBeSent c n = false) ∧
    (∃ (s : State) (t : Requester) (c : Fin 2) (n : Fin 64) (w : Word), s.takes t (CAN_MB_CTRL c n) ∧ n ≠ 0 ∧ rbReject s.bounds (some (whoOf t)) (CAN_MB_CTRL c n) (s.reg (CAN_MB_CTRL c n)) w = none ∧ w.getLsbD 4 = false ∧ w.getLsbD 5 = true ∧ s.flag (CAN_MB_CTRL c n) 4 = true ∧ s.mayBeSent c n = true) ∧
    (∃ (s : State) (t : Requester) (c : Fin 2) (w : Word), ∃ i ∈ [Instr.canTxRequest t c 0 w, .canTxAbort t c 0 w true], s.takes t (CAN_MB_CTRL c 0)) ∧
    (∃ (s : State) (c : Fin 2) (n : Nat), s.canOnline c = true ∧ s.canHears c = true ∧ s.offered c = some n ∧ (s.canOf c).leaving = false) ∧
    (∃ (s : State) (c : Fin 2) (n : Nat), s.canOnline c = true ∧ s.offered c = some n ∧ s.faultClass (74 + c) ≤ 3 ∧ (s.canOf c).leaving = false) ∧
    (∃ (s : State) (c : Fin 2), s.canOnline c = true ∧ (s.canOf c).leaving = false) ∧
    (∃ (s : State) (c : Fin 2), s.canOnline c = true ∧ (s.canOf c).leaving = true) ∧
    (∃ (s : State) (c : Fin 2), s.canState c = canBusOff ∧ s.canHears c = true) ∧
    (∃ (s : State) (c : Fin 2), (s.canState c ≠ canBusOff ∨ s.canHears c = false)) ∧
    (∃ (s : State) (c : Fin 2), s.canState c ≠ canOff ∧ (s.canOf c).suspended = false ∧ s.canHears c = true) ∧
    (∃ (s : State) (c : Fin 2), ∃ i ∈ [Instr.canSync c, .canTxDone c 0 0, .busOffRecovery c], s.canHears c = false) ∧
    (∃ (s : State) (r : Fin 256) (e : CanmapRec × Nat), (s.canmaps.find? fun e => e.2 = r.val) = some e ∧ e.1.ctrl < 2 ∧ tget 0 s.srcs r ≠ 3 ∧ s.ttsWf ∧ (∀ k, k < 128 → k ≠ 81 → s.faultClass k ≤ 3)) := by
  refine ⟨?_, ?_, ?_, ?_, ?_, ?_, ?_, ?_, ?_, ?_, ?_, ?_, ?_, ?_⟩
  · exact ⟨(((runWith { img with bounds := [{ addr := CAN_MB_CTRL 0 9, lsb := 0, width := 2, writers := 0xFFFF, min := 0, max := 3 }], canctls := [{ ctrl := 0, flags := 7, nbrp := 1, ntseg1 := 3, ntseg2 := 2, nsjw := 1, dbrp := 1, dtseg1 := 3, dtseg2 := 2, dsjw := 1, tdco := 0, presenceId := 0x123 }] }).setFlds (CAN_STAT 0) [(0, 2, 1), (3, 1, 1)])).setReg (CAN_MB 0 9 0) 0x123, 0, 0, 9, 0x12, by unfold State.takes; decide +kernel⟩
  · exact ⟨(((runWith { img with canctls := [{ ctrl := 0, flags := 7, nbrp := 1, ntseg1 := 3, ntseg2 := 2, nsjw := 1, dbrp := 1, dtseg1 := 3, dtseg2 := 2, dsjw := 1, tdco := 0, presenceId := 0x123 }] }).setFlds (CAN_STAT 0) [(0, 2, 1), (3, 1, 1)]).setFld (CAN_MB_CTRL 0 9) 0 2 2).raise (CAN_MB_CTRL 0 9) 4, 0, 0, 9, 0x22, by unfold State.takes; decide +kernel⟩
  · exact ⟨(((((runWith { img with canctls := [{ ctrl := 0, flags := 7, nbrp := 1, ntseg1 := 3, ntseg2 := 2, nsjw := 1, dbrp := 1, dtseg1 := 3, dtseg2 := 2, dsjw := 1, tdco := 0, presenceId := 0x123 }] }).setFlds (CAN_STAT 0) [(0, 2, 1), (3, 1, 1)]).setFld (CAN_MB_CTRL 0 9) 0 2 2).raise (CAN_MB_CTRL 0 9) 4) : State).lower (CAN_STAT 0) 3, 0, 0, 9, 0x22, _, .head _, by unfold State.takes; decide +kernel⟩
  · exact ⟨(((runWith { img with canctls := [{ ctrl := 0, flags := 7, nbrp := 1, ntseg1 := 3, ntseg2 := 2, nsjw := 1, dbrp := 1, dtseg1 := 3, dtseg2 := 2, dsjw := 1, tdco := 0, presenceId := 0x123 }] }).setFlds (CAN_STAT 0) [(0, 2, 1), (3, 1, 1)]).setFld (CAN_MB_CTRL 0 9) 0 2 2).raise (CAN_MB_CTRL 0 9) 4, 0, 0, 9, 0x22, by unfold State.takes; decide +kernel⟩
  · exact ⟨((runWith { img with canctls := [{ ctrl := 0, flags := 7, nbrp := 1, ntseg1 := 3, ntseg2 := 2, nsjw := 1, dbrp := 1, dtseg1 := 3, dtseg2 := 2, dsjw := 1, tdco := 0, presenceId := 0x123 }] }).setFlds (CAN_STAT 0) [(0, 2, 1), (3, 1, 1)]), 0, 0, 0x12, _, .head _, by unfold State.takes; decide +kernel⟩
  · exact ⟨((((runWith { img with canctls := [{ ctrl := 0, flags := 7, nbrp := 1, ntseg1 := 3, ntseg2 := 2, nsjw := 1, dbrp := 1, dtseg1 := 3, dtseg2 := 2, dsjw := 1, tdco := 0, presenceId := 0x123 }] }).setFlds (CAN_STAT 0) [(0, 2, 1), (3, 1, 1)]).setFld (CAN_MB_CTRL 0 9) 0 2 2).raise (CAN_MB_CTRL 0 9) 4).setReg (CAN_MB 0 9 0) 0x123, 0, 9, by decide +kernel⟩
  · exact ⟨(((((runWith { img with canctls := [{ ctrl := 0, flags := 7, nbrp := 1, ntseg1 := 3, ntseg2 := 2, nsjw := 1, dbrp := 1, dtseg1 := 3, dtseg2 := 2, dsjw := 1, tdco := 0, presenceId := 0x123 }] }).setFlds (CAN_STAT 0) [(0, 2, 1), (3, 1, 1)]).setFld (CAN_MB_CTRL 0 9) 0 2 2).raise (CAN_MB_CTRL 0 9) 4).setReg (CAN_MB 0 9 0) 0x123).setFld (CAN_ERRC 0) 0 9 250, 0, 9, by decide +kernel⟩
  · exact ⟨((runWith { img with canctls := [{ ctrl := 0, flags := 7, nbrp := 1, ntseg1 := 3, ntseg2 := 2, nsjw := 1, dbrp := 1, dtseg1 := 3, dtseg2 := 2, dsjw := 1, tdco := 0, presenceId := 0x123 }] }).setFlds (CAN_STAT 0) [(0, 2, 1), (3, 1, 1)]), 0, by decide +kernel⟩
  · exact ⟨modCan 0 (fun k => { k with leaving := true }) ((((runWith { img with canctls := [{ ctrl := 0, flags := 7, nbrp := 1, ntseg1 := 3, ntseg2 := 2, nsjw := 1, dbrp := 1, dtseg1 := 3, dtseg2 := 2, dsjw := 1, tdco := 0, presenceId := 0x123 }] }).setFlds (CAN_STAT 0) [(0, 2, 1), (3, 1, 1)]).setFld (CAN_MB_CTRL 0 9) 0 2 2).raise (CAN_MB_CTRL 0 9) 4), 0, by decide +kernel⟩
  · exact ⟨(((runWith { img with canctls := [{ ctrl := 0, flags := 7, nbrp := 1, ntseg1 := 3, ntseg2 := 2, nsjw := 1, dbrp := 1, dtseg1 := 3, dtseg2 := 2, dsjw := 1, tdco := 0, presenceId := 0x123 }] }).setFlds (CAN_STAT 0) [(0, 2, 1), (3, 1, 1)]).setFld (CAN_STAT 0) 0 2 3).setFld (CAN_ERRC 0) 0 9 260, 0, by decide +kernel⟩
  · exact ⟨((runWith { img with canctls := [{ ctrl := 0, flags := 7, nbrp := 1, ntseg1 := 3, ntseg2 := 2, nsjw := 1, dbrp := 1, dtseg1 := 3, dtseg2 := 2, dsjw := 1, tdco := 0, presenceId := 0x123 }] }).setFlds (CAN_STAT 0) [(0, 2, 1), (3, 1, 1)]), 0, by decide +kernel⟩
  · exact ⟨((runWith { img with canctls := [{ ctrl := 0, flags := 7, nbrp := 1, ntseg1 := 3, ntseg2 := 2, nsjw := 1, dbrp := 1, dtseg1 := 3, dtseg2 := 2, dsjw := 1, tdco := 0, presenceId := 0x123 }] }).setFlds (CAN_STAT 0) [(0, 2, 1), (3, 1, 1)]), 0, by decide +kernel⟩
  · exact ⟨{ ((runWith { img with canctls := [{ ctrl := 0, flags := 7, nbrp := 1, ntseg1 := 3, ntseg2 := 2, nsjw := 1, dbrp := 1, dtseg1 := 3, dtseg2 := 2, dsjw := 1, tdco := 0, presenceId := 0x123 }] }).setFlds (CAN_STAT 0) [(0, 2, 1), (3, 1, 1)]) with ctl := { run.ctl with banks := 2 } }, 0, _, .head _, by decide +kernel⟩
  · exact ⟨((runWith { img with canctls := [{ ctrl := 0, flags := 7, nbrp := 1, ntseg1 := 3, ntseg2 := 2, nsjw := 1, dbrp := 1, dtseg1 := 3, dtseg2 := 2, dsjw := 1, tdco := 0, presenceId := 0x123 }], canmaps := [{ id := 0x123, ctrl := 0, byte := 0, bit := 0, width := 1, tt := 3, onValue := 1, srcTimeout := 0 }, { id := 0x123, ctrl := 0, byte := 1, bit := 0, width := 1, tt := 3, onValue := 1, srcTimeout := 0 }, { id := 0x124, ctrl := 0, byte := 0, bit := 0, width := 1, tt := 3, onValue := 1, srcTimeout := 0 }] }).setFlds (CAN_STAT 0) [(0, 2, 1), (3, 1, 1)]), 1, ({ id := 0x123, ctrl := 0, byte := 1, bit := 0, width := 1, tt := 3, onValue := 1, srcTimeout := 0 }, 1), by decide +kernel⟩

theorem witness_FlockJoining :
    (∃ (s : State) (p : Fin 2) (b : List Byte), ∃ e ∈ [(1, Instr.flkHello p b), (2, Instr.flkState p b none), (3, .flkTt p b), (4, .flkTime p b), (5, .flkRoleReq p b), (6, .flkRoleAck p b)], (s.lnkState (2 + p) ≠ lnUp ∨ msgField b 0 1 ≠ e.1)) ∧
    (∃ (s : State) (p : Fin 2) (b : List Byte), ∃ e ∈ [(1, Instr.flkHello p b), (2, Instr.flkState p b none), (3, .flkTt p b), (4, .flkTime p b), (5, .flkRoleReq p b), (6, .flkRoleAck p b)], s.lnkState (2 + p) = lnUp ∧ msgField b 0 1 = e.1 ∧ (s.fkState = fkOff ∨ msgFits b = false ∨ (e.1 ≠ 1 ∧ msgField b 2 1 ≠ s.fld FLK_STAT 8 4) ∨ msgDevid b = s.otp.force.devid ∨ s.flkNewer (msgDevid b) (msgField b 4 4) = false) ∧ s.headedFor = 0) ∧
    (∃ (s : State) (p : Fin 2) (b : List Byte), ∃ e ∈ [(1, Instr.flkHello p b), (2, Instr.flkState p b none), (3, .flkTt p b), (4, .flkTime p b), (5, .flkRoleReq p b), (6, .flkRoleAck p b)], s.lnkState (2 + p) = lnUp ∧ msgField b 0 1 = e.1 ∧ s.ladder = 1 ∧ s.pwr.entry = none ∧ s.pwr.exiting = none ∧ s.ctl.phase = .run ∧ s.pwr.upAtEntry.getLsbD (2 + p) = true ∧ s.faultClass 78 ≤ 3) ∧
    (∃ (s : State) (p : Fin 2) (b : List Byte), s.hears p b ∧ msgField b 0 1 = 1 ∧ s.helloCause b ≠ 0 ∧ s.fkState = fkSeeking ∧ s.faultClass 78 ≤ 3) ∧
    (∃ (s : State) (p : Fin 2) (b : List Byte), s.hears p b ∧ msgField b 0 1 = 1 ∧ s.helloCause b = 0 ∧ (s.fkState = fkSeeking ∨ s.fkState = fkSplit) ∧ s.fld FLK_MEMBERS 0 4 = 0 ∧ s.rank < 4 ∧ msgField b 0x38 1 < 4 ∧ s.staysAwake ∧ s.ttsWf ∧ (∀ k, k < 128 → k ≠ 81 → s.faultClass k ≤ 3)) ∧
    (∃ (s : State) (r : Fin 4), s.peers.contains r.val = false) ∧
    (∃ (s : State) (r : Fin 4), s.peers = [r.val] ∧ s.flk.disagree = [] ∧ s.staysAwake ∧ s.ttsWf ∧ (∀ k, k < 128 → k ≠ 81 → s.faultClass k ≤ 3)) ∧
    (∃ (s : State) (r : Fin 4), s.peers.contains r.val = true ∧ s.peers ≠ [r.val] ∧ s.rank < 4 ∧ s.staysAwake ∧ s.ttsWf ∧ (∀ k, k < 128 → k ≠ 81 → s.faultClass k ≤ 3)) := by
  refine ⟨?_, ?_, ?_, ?_, ?_, ?_, ?_, ?_⟩
  · exact ⟨(runWith { img with flock := some { members := 2, ports := 3, maxRev := 1, flockId := 0x77 } }), 1, leBytes 1 1 ++ leBytes 1 0 ++ leBytes 1 1 ++ leBytes 1 1 ++ leBytes 4 4 ++ leBytes 8 9 ++ leBytes 8 119 ++ List.replicate 32 7 ++ leBytes 1 1 ++ leBytes 1 2 ++ leBytes 2 1 ++ leBytes 4 0 ++ leBytes 1 0 ++ leBytes 1 3 ++ [0, 0], _, .head _, by decide +kernel⟩
  · exact ⟨(((((runWith { img with flock := some { members := 2, ports := 3, maxRev := 1, flockId := 0x77 } })).setFld (LNK_STAT 2) 0 2 2).setFld (LNK_STAT 3) 0 2 2).setFlds FLK_STAT [(0, 2, 1)]), 0, leBytes 1 1 ++ leBytes 1 0 ++ leBytes 1 1 ++ leBytes 1 1 ++ leBytes 4 4 ++ leBytes 8 5 ++ leBytes 8 119 ++ List.replicate 32 7 ++ leBytes 1 1 ++ leBytes 1 2 ++ leBytes 2 1 ++ leBytes 4 0 ++ leBytes 1 0 ++ leBytes 1 3 ++ [0, 0], _, .head _, by decide +kernel⟩
  · exact ⟨{ (((((runWith { img with flock := some { members := 2, ports := 3, maxRev := 1, flockId := 0x77 } })).setFld (LNK_STAT 2) 0 2 2).setFld (LNK_STAT 3) 0 2 2).setFlds FLK_STAT [(0, 2, 1)]).setFld PWR_STAT 0 3 1 with pwr := { PwrSt.reset with upAtEntry := 15 } }, 1, leBytes 1 1 ++ leBytes 1 0 ++ leBytes 1 1 ++ leBytes 1 1 ++ leBytes 4 4 ++ leBytes 8 9 ++ leBytes 8 119 ++ List.replicate 32 8 ++ leBytes 1 1 ++ leBytes 1 2 ++ leBytes 2 1 ++ leBytes 4 0 ++ leBytes 1 0 ++ leBytes 1 3 ++ [0, 0], _, .head _, by decide +kernel⟩
  · exact ⟨(((((runWith { img with flock := some { members := 2, ports := 3, maxRev := 1, flockId := 0x77 } })).setFld (LNK_STAT 2) 0 2 2).setFld (LNK_STAT 3) 0 2 2).setFlds FLK_STAT [(0, 2, 1)]), 0, leBytes 1 1 ++ leBytes 1 0 ++ leBytes 1 1 ++ leBytes 1 1 ++ leBytes 4 4 ++ leBytes 8 9 ++ leBytes 8 119 ++ List.replicate 32 8 ++ leBytes 1 1 ++ leBytes 1 2 ++ leBytes 2 1 ++ leBytes 4 0 ++ leBytes 1 0 ++ leBytes 1 3 ++ [0, 0], by unfold State.hears; decide +kernel⟩
  · exact ⟨(((((runWith { img with flock := some { members := 2, ports := 3, maxRev := 1, flockId := 0x77 } })).setFld (LNK_STAT 2) 0 2 2).setFld (LNK_STAT 3) 0 2 2).setFlds FLK_STAT [(0, 2, 1)]), 0, leBytes 1 1 ++ leBytes 1 0 ++ leBytes 1 1 ++ leBytes 1 1 ++ leBytes 4 4 ++ leBytes 8 9 ++ leBytes 8 119 ++ List.replicate 32 7 ++ leBytes 1 1 ++ leBytes 1 2 ++ leBytes 2 1 ++ leBytes 4 0 ++ leBytes 1 0 ++ leBytes 1 3 ++ [0, 0], by unfold State.hears State.staysAwake State.awake; decide +kernel⟩
  · exact ⟨(((((runWith { img with flock := some { members := 2, ports := 3, maxRev := 1, flockId := 0x77 } })).setFld (LNK_STAT 2) 0 2 2).setFld (LNK_STAT 3) 0 2 2).setFlds FLK_STAT [(0, 2, 1)]), 1, by decide +kernel⟩
  · exact ⟨{ (((((runWith { img with flock := some { members := 2, ports := 3, maxRev := 1, flockId := 0x77 } })).setFld (LNK_STAT 2) 0 2 2).setFld (LNK_STAT 3) 0 2 2).setFlds FLK_STAT [(0, 2, 2), (8, 4, 1), (4, 2, 0), (2, 1, 1)]).setFlds FLK_MEMBERS [(0, 2, 3)] with flk := { FlkSt.reset with members := [(1, { Member.reset with devid := 9 })] } }, 1, by unfold State.staysAwake State.awake; decide +kernel⟩
  · exact ⟨{ (((((runWith { img with telltales := [{ index := 3, channel := 0, methods := 8, flags := 3, glyph := 0, variants := 1, pd := 0xFF, x := 0, y := 0, led := 2, ledCurrent := 200, expCrc := [] }, { index := 9, channel := 0xFF, methods := 9, flags := 0, glyph := 0, variants := 1, pd := 0xFF, x := 0, y := 0, led := 5, ledCurrent := 200, expCrc := [] }], flock := some { members := 4, ports := 3, maxRev := 1, flockId := 0x77 } })).setFld (LNK_STAT 2) 0 2 2).setFld (LNK_STAT 3) 0 2 2).setFlds FLK_STAT [(0, 2, 2), (8, 4, 1), (4, 2, 0), (2, 1, 1)]).setFlds FLK_MEMBERS [(0, 3, 7)] with flk := { FlkSt.reset with members := [(1, { Member.reset with devid := 9 }), (2, { Member.reset with devid := 12 })] } }, 1, by unfold State.staysAwake State.awake; decide +kernel⟩

theorem witness_FlockReports :
    (∃ (s : State) (p : Fin 2) (b : List Byte) (r : Nat), s.hears p b ∧ msgField b 0 1 = 2 ∧ s.msgMember b = some r ∧ s.staysAwake ∧ s.ttsWf ∧ (∀ k, k < 128 → k ≠ 81 → s.faultClass k ≤ 3)) ∧
    (∃ (s : State) (p : Fin 2) (b : List Byte) (r : Nat), s.hears p b ∧ msgField b 0 1 = 3 ∧ s.msgMember b = some r ∧ s.headedFor = 0 ∧ s.ttsWf ∧ (∀ k, k < 128 → k ≠ 81 → s.faultClass k ≤ 3)) ∧
    (∃ (s : State) (p : Fin 2) (b : List Byte) (r : Nat), s.hears p b ∧ msgField b 0 1 = 4 ∧ s.msgMember b = some r ∧ s.flag RTC_STAT 7 = false ∧ s.rtc.pendTime = none ∧ s.headedFor = 0) ∧
    (∃ (s : State) (p : Fin 2) (b : List Byte) (r : Nat), s.hears p b ∧ msgField b 0 1 = 4 ∧ s.msgMember b = some r ∧ s.flag RTC_STAT 7 = true ∧ s.headedFor = 0) ∧
    (∃ (s : State), (s.fkState = fkSeeking ∨ s.fkState = fkSplit)) ∧
    (∃ (s : State), s.fkState ≠ fkSeeking ∧ s.fkState ≠ fkSplit) ∧
    (∃ (s : State), s.joined = true) ∧
    (∃ (s : State), s.joined = false) ∧
    (∃ (s : State), s.joined = true ∧ s.flag FLK_STAT 14 = false ∧ s.fld FLK_STAT 12 2 = s.rank) ∧
    (∃ (s : State), (s.joined = false ∨ s.flag FLK_STAT 14 = true ∨ s.fld FLK_STAT 12 2 ≠ s.rank)) := by
  refine ⟨?_, ?_, ?_, ?_, ?_, ?_, ?_, ?_, ?_, ?_⟩
  · exact ⟨{ (((((runWith { img with flock := some { members := 2, ports := 3, maxRev := 1, flockId := 0x77 } })).setFld (LNK_STAT 2) 0 2 2).setFld (LNK_STAT 3) 0 2 2).setFlds FLK_STAT [(0, 2, 2), (8, 4, 1), (4, 2, 0), (2, 1, 1)]).setFlds FLK_MEMBERS [(0, 2, 3)] with flk := { FlkSt.reset with members := [(1, { Member.reset with devid := 9 })] } }, 0, leBytes 1 2 ++ leBytes 1 0 ++ leBytes 1 1 ++ leBytes 1 1 ++ leBytes 4 4 ++ leBytes 8 9 ++ [0, 2, 1, 3] ++ leBytes 4 77 ++ List.replicate 16 0x55, 1, by unfold State.hears State.staysAwake State.awake; decide +kernel⟩
  · exact ⟨{ (((((runWith { img with flock := some { members := 2, ports := 3, maxRev := 1, flockId := 0x77 } })).setFld (LNK_STAT 2) 0 2 2).setFld (LNK_STAT 3) 0 2 2).setFlds FLK_STAT [(0, 2, 2), (8, 4, 1), (4, 2, 0), (2, 1, 1)]).setFlds FLK_MEMBERS [(0, 2, 3)] with flk := { FlkSt.reset with members := [(1, { Member.reset with devid := 9 })] } }, 0, leBytes 1 3 ++ leBytes 1 0 ++ leBytes 1 1 ++ leBytes 1 1 ++ leBytes 4 4 ++ leBytes 8 9 ++ List.replicate 16 0x55 ++ [1, 2, 0, 0] ++ leBytes 2 4 ++ [2, 0] ++ leBytes 2 5 ++ [1, 0], 1, by unfold State.hears; decide +kernel⟩
  · exact ⟨{ (((((runWith { img with flock := some { members := 2, ports := 3, maxRev := 1, flockId := 0x77 } })).setFld (LNK_STAT 2) 0 2 2).setFld (LNK_STAT 3) 0 2 2).setFlds FLK_STAT [(0, 2, 2), (8, 4, 1), (4, 2, 0), (2, 1, 1)]).setFlds FLK_MEMBERS [(0, 2, 3)] with flk := { FlkSt.reset with members := [(1, { Member.reset with devid := 9 })] } }, 0, leBytes 1 4 ++ leBytes 1 0 ++ leBytes 1 1 ++ leBytes 1 1 ++ leBytes 4 4 ++ leBytes 8 9 ++ leBytes 4 0 ++ leBytes 2 0 ++ [0, 0], 1, by unfold State.hears; decide +kernel⟩
  · exact ⟨{ ({ (((((runWith { img with flock := some { members := 2, ports := 3, maxRev := 1, flockId := 0x77 } })).setFld (LNK_STAT 2) 0 2 2).setFld (LNK_STAT 3) 0 2 2).setFlds FLK_STAT [(0, 2, 2), (8, 4, 1), (4, 2, 0), (2, 1, 1)]).setFlds FLK_MEMBERS [(0, 2, 3)] with flk := { FlkSt.reset with members := [(1, { Member.reset with devid := 9 })] } } : State).raise RTC_STAT 7 with rtc := { RtcSt.reset with pendTime := none } }, 0, leBytes 1 4 ++ leBytes 1 0 ++ leBytes 1 1 ++ leBytes 1 1 ++ leBytes 4 4 ++ leBytes 8 9 ++ leBytes 4 100 ++ leBytes 2 100 ++ [0, 0], 1, by unfold State.hears; decide +kernel⟩
  · exact ⟨(((((runWith { img with flock := some { members := 2, ports := 3, maxRev := 1, flockId := 0x77 } })).setFld (LNK_STAT 2) 0 2 2).setFld (LNK_STAT 3) 0 2 2).setFlds FLK_STAT [(0, 2, 1)]), by decide +kernel⟩
  · exact ⟨{ (((((runWith { img with flock := some { members := 2, ports := 3, maxRev := 1, flockId := 0x77 } })).setFld (LNK_STAT 2) 0 2 2).setFld (LNK_STAT 3) 0 2 2).setFlds FLK_STAT [(0, 2, 2), (8, 4, 1), (4, 2, 0), (2, 1, 1)]).setFlds FLK_MEMBERS [(0, 2, 3)] with flk := { FlkSt.reset with members := [(1, { Member.reset with devid := 9 })] } }, by decide +kernel⟩
  · exact ⟨{ (((((runWith { img with flock := some { members := 2, ports := 3, maxRev := 1, flockId := 0x77 } })).setFld (LNK_STAT 2) 0 2 2).setFld (LNK_STAT 3) 0 2 2).setFlds FLK_STAT [(0, 2, 2), (8, 4, 1), (4, 2, 0), (2, 1, 1)]).setFlds FLK_MEMBERS [(0, 2, 3)] with flk := { FlkSt.reset with members := [(1, { Member.reset with devid := 9 })] } }, by decide +kernel⟩
  · exact ⟨(((((runWith { img with flock := some { members := 2, ports := 3, maxRev := 1, flockId := 0x77 } })).setFld (LNK_STAT 2) 0 2 2).setFld (LNK_STAT 3) 0 2 2).setFlds FLK_STAT [(0, 2, 1)]), by decide +kernel⟩
  · exact ⟨{ (((((runWith { img with flock := some { members := 2, ports := 3, maxRev := 1, flockId := 0x77 } })).setFld (LNK_STAT 2) 0 2 2).setFld (LNK_STAT 3) 0 2 2).setFlds FLK_STAT [(0, 2, 2), (8, 4, 1), (4, 2, 0), (2, 1, 1)]).setFlds FLK_MEMBERS [(0, 2, 3)] with flk := { FlkSt.reset with members := [(1, { Member.reset with devid := 9 })] } }, by decide +kernel⟩
  · exact ⟨{ (((((runWith { img with flock := some { members := 2, ports := 3, maxRev := 1, flockId := 0x77 } })).setFld (LNK_STAT 2) 0 2 2).setFld (LNK_STAT 3) 0 2 2).setFlds FLK_STAT [(0, 2, 2), (8, 4, 1), (12, 2, 1)]).setFlds FLK_MEMBERS [(0, 2, 3)] with flk := { FlkSt.reset with members := [(1, { Member.reset with devid := 9 })] } }, by decide +kernel⟩

theorem witness_RoleSwap :
    (∃ (s : State) (t : Requester) (w : Word), s.takes t FLK_CTRL ∧ w.getLsbD 0 = true ∧ s.flag FLK_STAT 24 = false ∧ s.joined = true ∧ s.peers.contains (bits w.toNat 8 2) = true ∧ (s.leads = true ∨ bits w.toNat 8 2 = s.fld FLK_STAT 4 2)) ∧
    (∃ (s : State) (t : Requester) (w : Word), s.takes t FLK_CTRL ∧ w.getLsbD 0 = true ∧ s.flag FLK_STAT 24 = false ∧ (s.joined = false ∨ s.peers.contains (bits w.toNat 8 2) = false ∨ (s.leads = false ∧ bits w.toNat 8 2 ≠ s.fld FLK_STAT 4 2))) ∧
    (∃ (s : State) (t : Requester) (w : Word), s.takes t FLK_CTRL ∧ w.getLsbD 0 = true ∧ s.flag FLK_STAT 24 = true) ∧
    (∃ (s : State), s.flag FLK_STAT 24 = true) ∧
    (∃ (s : State), s.flag FLK_STAT 24 = false) ∧
    (∃ (s : State) (p : Fin 2) (b : List Byte) (r : Nat), s.hears p b ∧ msgField b 0 1 = 5 ∧ s.msgMember b = some r ∧ msgField b 0x10 8 = s.otp.force.devid ∧ s.flk.pending ≠ some (msgDevid b) ∧ ((s.leads = false ∧ s.flag FLK_CFG 16 = true) ∨ s.flk.pending.isSome = true)) ∧
    (∃ (s : State) (p : Fin 2) (b : List Byte) (r : Nat), s.hears p b ∧ msgField b 0 1 = 5 ∧ s.msgMember b = some r ∧ msgField b 0x10 8 = s.otp.force.devid ∧ s.flk.pending = none ∧ s.leads = true ∧ s.staysAwake ∧ s.ttsWf ∧ (∀ k, k < 128 → k ≠ 81 → s.faultClass k ≤ 3)) ∧
    (∃ (s : State) (p : Fin 2) (b : List Byte) (r : Nat), s.hears p b ∧ msgField b 0 1 = 5 ∧ s.msgMember b = some r ∧ msgField b 0x10 8 = s.otp.force.devid ∧ s.flk.pending = some (msgDevid b) ∧ s.staysAwake ∧ s.ttsWf ∧ (∀ k, k < 128 → k ≠ 81 → s.faultClass k ≤ 3) ∧ s.rank < 4) ∧
    (∃ (s : State) (p : Fin 2) (b : List Byte) (r : Nat), s.hears p b ∧ msgField b 0 1 = 6 ∧ s.msgMember b = some r ∧ msgField b 0x10 8 = s.otp.force.devid ∧ s.flk.pending = some (msgDevid b) ∧ msgField b 0x18 1 = 1 ∧ msgField b 0x19 1 = s.rank ∧ s.rank < 4 ∧ s.staysAwake ∧ s.ttsWf ∧ (∀ k, k < 128 → k ≠ 81 → s.faultClass k ≤ 3)) ∧
    (∃ (s : State) (p : Fin 2) (b : List Byte) (r : Nat), s.hears p b ∧ msgField b 0 1 = 6 ∧ s.msgMember b = some r ∧ msgField b 0x10 8 = s.otp.force.devid ∧ s.flk.pending = some (msgDevid b) ∧ (msgField b 0x18 1 = 3 ∨ msgField b 0x18 1 = 4)) ∧
    (∃ (s : State) (p : Fin 2) (b : List Byte) (r : Nat), s.hears p b ∧ msgField b 0 1 = 6 ∧ s.msgMember b = some r ∧ msgField b 0x10 8 = s.otp.force.devid ∧ s.flk.pending ≠ some (msgDevid b)) ∧
    (∃ (s : State) (p : Fin 2) (b : List Byte) (r : Nat), s.hears p b ∧ msgField b 0 1 = 5 ∧ s.msgMember b = some r ∧ msgField b 0x10 8 = s.otp.force.devid ∧ s.flk.pending = none ∧ s.leads = false ∧ s.flag FLK_CFG 16 = false ∧ s.rank < 4 ∧ s.staysAwake ∧ s.ttsWf ∧ (∀ k, k < 128 → k ≠ 81 → s.faultClass k ≤ 3)) ∧
    (∃ (s : State) (p : Fin 2) (b : List Byte) (r : Nat), s.hears p b ∧ msgField b 0 1 = 5 ∧ s.msgMember b = some r ∧ msgField b 0x10 8 ≠ s.otp.force.devid) ∧
    (∃ (s : State) (p : Fin 2) (b : List Byte) (r : Nat), s.hears p b ∧ msgField b 0 1 = 6 ∧ s.msgMember b = some r ∧ msgField b 0x10 8 ≠ s.otp.force.devid ∧ (msgField b 0x18 1 = 1 ∨ msgField b 0x18 1 = 2) ∧ (msgField b 0x19 1 = s.rank ∨ s.peers.contains (msgField b 0x19 1) = true) ∧ s.rank < 4 ∧ s.staysAwake ∧ s.ttsWf ∧ (∀ k, k < 128 → k ≠ 81 → s.faultClass k ≤ 3)) ∧
    (∃ (s : State) (p : Fin 2) (b : List Byte) (r : Nat), s.hears p b ∧ msgField b 0 1 = 6 ∧ s.msgMember b = some r ∧ msgField b 0x10 8 ≠ s.otp.force.devid ∧ msgField b 0x18 1 ≠ 1 ∧ msgField b 0x18 1 ≠ 2) := by
  refine ⟨?_, ?_, ?_, ?_, ?_, ?_, ?_, ?_, ?_, ?_, ?_, ?_, ?_, ?_, ?_⟩
  · exact ⟨{ (((((runWith { img with flock := some { members := 2, ports := 3, maxRev := 1, flockId := 0x77 } })).setFld (LNK_STAT 2) 0 2 2).setFld (LNK_STAT 3) 0 2 2).setFlds FLK_STAT [(0, 2, 2), (8, 4, 1), (4, 2, 0), (2, 1, 1)]).setFlds FLK_MEMBERS [(0, 2, 3)] with flk := { FlkSt.reset with members := [(1, { Member.reset with devid := 9 })] } }, 0, 0x101, by unfold State.takes; decide +kernel⟩
  · exact ⟨{ (((((runWith { img with flock := some { members := 2, ports := 3, maxRev := 1, flockId := 0x77 } })).setFld (LNK_STAT 2) 0 2 2).setFld (LNK_STAT 3) 0 2 2).setFlds FLK_STAT [(0, 2, 2), (8, 4, 1), (4, 2, 0), (2, 1, 1)]).setFlds FLK_MEMBERS [(0, 2, 3)] with flk := { FlkSt.reset with members := [(1, { Member.reset with devid := 9 })] } }, 0, 1, by unfold State.takes; decide +kernel⟩
  · exact ⟨{ (((((runWith { img with flock := some { members := 2, ports := 3, maxRev := 1, flockId := 0x77 } })).setFld (LNK_STAT 2) 0 2 2).setFld (LNK_STAT 3) 0 2 2).setFlds FLK_STAT [(0, 2, 2), (8, 4, 1), (24, 1, 1)]).setFlds FLK_MEMBERS [(0, 2, 3)] with flk := { FlkSt.reset with members := [(1, { Member.reset with devid := 9 })], pending := some 9 } }, 0, 0x101, by unfold State.takes; decide +kernel⟩
  · exact ⟨{ (((((runWith { img with flock := some { members := 2, ports := 3, maxRev := 1, flockId := 0x77 } })).setFld (LNK_STAT 2) 0 2 2).setFld (LNK_STAT 3) 0 2 2).setFlds FLK_STAT [(0, 2, 2), (8, 4, 1), (24, 1, 1)]).setFlds FLK_MEMBERS [(0, 2, 3)] with flk := { FlkSt.reset with members := [(1, { Member.reset with devid := 9 })], pending := some 9 } }, by decide +kernel⟩
  · exact ⟨{ (((((runWith { img with flock := some { members := 2, ports := 3, maxRev := 1, flockId := 0x77 } })).setFld (LNK_STAT 2) 0 2 2).setFld (LNK_STAT 3) 0 2 2).setFlds FLK_STAT [(0, 2, 2), (8, 4, 1), (4, 2, 0), (2, 1, 1)]).setFlds FLK_MEMBERS [(0, 2, 3)] with flk := { FlkSt.reset with members := [(1, { Member.reset with devid := 9 })] } }, by decide +kernel⟩
  · exact ⟨{ ({ (((((runWith { img with flock := some { members := 2, ports := 3, maxRev := 1, flockId := 0x77 } })).setFld (LNK_STAT 2) 0 2 2).setFld (LNK_STAT 3) 0 2 2).setFlds FLK_STAT [(0, 2, 2), (8, 4, 1), (4, 2, 1), (2, 1, 0)]).setFlds FLK_MEMBERS [(0, 2, 3)] with flk := { FlkSt.reset with members := [(1, { Member.reset with devid := 9 })] } } : State).raise FLK_CFG 16 with lastStatus := 0 }, 0, leBytes 1 5 ++ leBytes 1 0 ++ leBytes 1 1 ++ leBytes 1 1 ++ leBytes 4 4 ++ leBytes 8 9 ++ leBytes 8 5, 1, by unfold State.hears; decide +kernel⟩
  · exact ⟨{ (((((runWith { img with flock := some { members := 2, ports := 3, maxRev := 1, flockId := 0x77 } })).setFld (LNK_STAT 2) 0 2 2).setFld (LNK_STAT 3) 0 2 2).setFlds FLK_STAT [(0, 2, 2), (8, 4, 1), (4, 2, 0), (2, 1, 1)]).setFlds FLK_MEMBERS [(0, 2, 3)] with flk := { FlkSt.reset with members := [(1, { Member.reset with devid := 9 })] } }, 0, leBytes 1 5 ++ leBytes 1 0 ++ leBytes 1 1 ++ leBytes 1 1 ++ leBytes 4 4 ++ leBytes 8 9 ++ leBytes 8 5, 1, by unfold State.hears State.staysAwake State.awake; decide +kernel⟩
  · exact ⟨{ (((((runWith { img with flock := some { members := 2, ports := 3, maxRev := 1, flockId := 0x77 } })).setFld (LNK_STAT 2) 0 2 2).setFld (LNK_STAT 3) 0 2 2).setFlds FLK_STAT [(0, 2, 2), (8, 4, 1), (24, 1, 1)]).setFlds FLK_MEMBERS [(0, 2, 3)] with flk := { FlkSt.reset with members := [(1, { Member.reset with devid := 9 })], pending := some 9 } }, 0, leBytes 1 5 ++ leBytes 1 0 ++ leBytes 1 1 ++ leBytes 1 1 ++ leBytes 4 4 ++ leBytes 8 9 ++ leBytes 8 5, 1, by unfold State.hears State.staysAwake State.awake; decide +kernel⟩
  · exact ⟨{ (((((runWith { img with flock := some { members := 2, ports := 3, maxRev := 1, flockId := 0x77 } })).setFld (LNK_STAT 2) 0 2 2).setFld (LNK_STAT 3) 0 2 2).setFlds FLK_STAT [(0, 2, 2), (8, 4, 1), (4, 2, 1), (2, 1, 0), (24, 1, 1)]).setFlds FLK_MEMBERS [(0, 2, 3)] with flk := { FlkSt.reset with members := [(1, { Member.reset with devid := 9 })], pending := some 9 } }, 0, leBytes 1 6 ++ leBytes 1 0 ++ leBytes 1 1 ++ leBytes 1 1 ++ leBytes 4 4 ++ leBytes 8 9 ++ leBytes 8 5 ++ [1, 0, 0, 0], 1, by unfold State.hears State.staysAwake State.awake; decide +kernel⟩
  · exact ⟨{ (((((runWith { img with flock := some { members := 2, ports := 3, maxRev := 1, flockId := 0x77 } })).setFld (LNK_STAT 2) 0 2 2).setFld (LNK_STAT 3) 0 2 2).setFlds FLK_STAT [(0, 2, 2), (8, 4, 1), (4, 2, 1), (2, 1, 0), (24, 1, 1)]).setFlds FLK_MEMBERS [(0, 2, 3)] with flk := { FlkSt.reset with members := [(1, { Member.reset with devid := 9 })], pending := some 9 } }, 0, leBytes 1 6 ++ leBytes 1 0 ++ leBytes 1 1 ++ leBytes 1 1 ++ leBytes 4 4 ++ leBytes 8 9 ++ leBytes 8 5 ++ [3, 1, 0, 0], 1, by unfold State.hears; decide +kernel⟩
  · exact ⟨{ (((((runWith { img with flock := some { members := 2, ports := 3, maxRev := 1, flockId := 0x77 } })).setFld (LNK_STAT 2) 0 2 2).setFld (LNK_STAT 3) 0 2 2).setFlds FLK_STAT [(0, 2, 2), (8, 4, 1), (4, 2, 0), (2, 1, 1)]).setFlds FLK_MEMBERS [(0, 2, 3)] with flk := { FlkSt.reset with members := [(1, { Member.reset with devid := 9 })] } }, 0, leBytes 1 6 ++ leBytes 1 0 ++ leBytes 1 1 ++ leBytes 1 1 ++ leBytes 4 4 ++ leBytes 8 9 ++ leBytes 8 5 ++ [1, 0, 0, 0], 1, by unfold State.hears; decide +kernel⟩
  · exact ⟨{ (((((runWith { img with telltales := [{ index := 3, channel := 0, methods := 8, flags := 3, glyph := 0, variants := 1, pd := 0xFF, x := 0, y := 0, led := 2, ledCurrent := 200, expCrc := [] }, { index := 9, channel := 0xFF, methods := 9, flags := 0, glyph := 0, variants := 1, pd := 0xFF, x := 0, y := 0, led := 5, ledCurrent := 200, expCrc := [] }], flock := some { members := 4, ports := 3, maxRev := 1, flockId := 0x77 } })).setFld (LNK_STAT 2) 0 2 2).setFld (LNK_STAT 3) 0 2 2).setFlds FLK_STAT [(0, 2, 2), (8, 4, 1), (4, 2, 1), (2, 1, 0)]).setFlds FLK_MEMBERS [(0, 3, 7)] with flk := { FlkSt.reset with members := [(1, { Member.reset with devid := 9 }), (2, { Member.reset with devid := 12 })] } }, 0, leBytes 1 5 ++ leBytes 1 0 ++ leBytes 1 1 ++ leBytes 1 1 ++ leBytes 4 4 ++ leBytes 8 9 ++ leBytes 8 5, 1, by unfold State.hears State.staysAwake State.awake; decide +kernel⟩
  · exact ⟨{ (((((runWith { img with flock := some { members := 4, ports := 3, maxRev := 1, flockId := 0x77 } })).setFld (LNK_STAT 2) 0 2 2).setFld (LNK_STAT 3) 0 2 2).setFlds FLK_STAT [(0, 2, 2), (8, 4, 1), (4, 2, 0), (2, 1, 1)]).setFlds FLK_MEMBERS [(0, 3, 7)] with flk := { FlkSt.reset with members := [(1, { Member.reset with devid := 9 }), (2, { Member.reset with devid := 12 })] } }, 0, leBytes 1 5 ++ leBytes 1 0 ++ leBytes 1 1 ++ leBytes 1 1 ++ leBytes 4 4 ++ leBytes 8 9 ++ leBytes 8 12, 1, by unfold State.hears; decide +kernel⟩
  · exact ⟨{ (((((runWith { img with telltales := [{ index := 3, channel := 0, methods := 8, flags := 3, glyph := 0, variants := 1, pd := 0xFF, x := 0, y := 0, led := 2, ledCurrent := 200, expCrc := [] }, { index := 9, channel := 0xFF, methods := 9, flags := 0, glyph := 0, variants := 1, pd := 0xFF, x := 0, y := 0, led := 5, ledCurrent := 200, expCrc := [] }], flock := some { members := 4, ports := 3, maxRev := 1, flockId := 0x77 } })).setFld (LNK_STAT 2) 0 2 2).setFld (LNK_STAT 3) 0 2 2).setFlds FLK_STAT [(0, 2, 2), (8, 4, 1), (4, 2, 2), (2, 1, 0)]).setFlds FLK_MEMBERS [(0, 3, 7)] with flk := { FlkSt.reset with members := [(1, { Member.reset with devid := 9 }), (2, { Member.reset with devid := 12 })] } }, 0, leBytes 1 6 ++ leBytes 1 0 ++ leBytes 1 1 ++ leBytes 1 1 ++ leBytes 4 4 ++ leBytes 8 9 ++ leBytes 8 12 ++ [1, 0, 0, 0], 1, by unfold State.hears State.staysAwake State.awake; decide +kernel⟩
  · exact ⟨{ (((((runWith { img with flock := some { members := 4, ports := 3, maxRev := 1, flockId := 0x77 } })).setFld (LNK_STAT 2) 0 2 2).setFld (LNK_STAT 3) 0 2 2).setFlds FLK_STAT [(0, 2, 2), (8, 4, 1), (4, 2, 1), (2, 1, 0)]).setFlds FLK_MEMBERS [(0, 3, 7)] with flk := { FlkSt.reset with members := [(1, { Member.reset with devid := 9 }), (2, { Member.reset with devid := 12 })] } }, 0, leBytes 1 6 ++ leBytes 1 0 ++ leBytes 1 1 ++ leBytes 1 1 ++ leBytes 4 4 ++ leBytes 8 9 ++ leBytes 8 12 ++ [0, 2, 0, 0], 1, by unfold State.hears; decide +kernel⟩

theorem witness_IdleTick :
    (∃ (s : State), s.pending = [] ∧ (s.rtc.stopped = true ∨ s.rtc.por = true)) ∧
    (∃ (s : State), s.pending = [] ∧ s.rtc.stopped = false ∧ s.rtc.por = false ∧ s.rtc.winDue = false ∧ s.rtc.pendTime = none ∧ s.rtc.pendShift = none ∧ s.pwr.lateWake = none ∧ s.seq.adopt = none) ∧
    (∃ (s : State) (k : Nat) (sec : Nat) (sub : Nat), s.pending = [] ∧ s.rtc.stopped = false ∧ s.rtc.por = false ∧ s.rtc.winDue = false ∧ s.rtc.pendTime = some (k, sec, sub) ∧ k + 2 ≤ s.rtc.raw + 1 ∧ s.pwr.lateWake = none ∧ s.seq.adopt = none) := by
  refine ⟨?_, ?_, ?_⟩
  · exact ⟨{ run with rtc := { RtcSt.reset with stopped := true } }, by decide +kernel⟩
  · exact ⟨{ run with rtc := { RtcSt.reset with winDue := false } }, by decide +kernel⟩
  · exact ⟨{ run with rtc := { RtcSt.reset with winDue := false, raw := 9, pendTime := some (8, 100, 5) } }, 8, 100, 5, by decide +kernel⟩

theorem witness_EveryStepKeepsForm :
    (∃ (s : State), s.regsWf ∧ s.memWf ∧ s.nvWf) ∧
    (∃ (s : State), s.railsWf ∧ s.ttsWf) ∧
    (∃ (s : State) (p : HostPort) (q : ReqPacket), ∃ c ∈ [(tyRd, Instr.readRequest p q), (tyWr, .writeRequest p q), (tyAt, .atomicRequest p q)], s.memWf ∧ s.nvWf ∧ s.accepts p c.1 q ∧ spaceOf (reqOf q.payload).addr ((reqOf q.payload).bytes c.1) = .memory) := by
  refine ⟨?_, ?_, ?_⟩
  · exact ⟨run, by unfold State.memWf State.nvWf State.regsWf; decide +kernel⟩
  · exact ⟨run, by decide +kernel⟩
  · exact ⟨((((((run.setFld (LNK_STAT 0) 0 2 2).setFlds (PHY_STAT 0) [(0, 4, phActive), (11, 1, 1)]).setFlds (TEN_TAG 1) [(0, 9, 16), (16, 10, 16)])).setFlds (TEN_TAG 0) [(0, 9, 0), (16, 10, 16)]).setFlds (TEN_CFG 0) [(0, 2, 3), (16, 11, 16)]).setFlds (TEN_CFG 1) [(0, 2, 3), (16, 11, 16)], 0, ({ vc := false, tenant := 1, payload := leBytes 4 4090 ++ leBytes 2 17 ++ leBytes 2 6 } : ReqPacket), _, .head _, by unfold State.accepts State.judges State.memWf State.nvWf; decide +kernel⟩

theorem witness_ResetControlRights :
    (∃ (s : State) (t : Requester) (d : ResetDomain) (w : Word) (same : Word), ∃ c ∈ [Instr.warm t, .domainReset t d, .registerWrite t (BitVec.ofNat 32 SYS_RST_CTRL) w same], s.holdsFor t = false ∧ s.servesFor t = true ∧ whoOf t ≠ 0) := by
  · exact ⟨run, 1, .adc, 0x10, 0, _, .head _, by decide +kernel⟩

theorem witness_SequencerRights :
    (∃ (s : State) (t : Requester) (w : Word) (same : Word), ∃ c ∈ [Instr.seqUp t w, .seqDown t w, .registerWrite t (BitVec.ofNat 32 SEQ_CTRL) w same], s.holdsFor t = false ∧ s.servesFor t = true ∧ (1 < whoOf t ∨ (s.tenantRec (whoOf t)).any (fun r => bit r.regWr (blockOf SEQ_CTRL)) = false)) ∧
    (∃ (s : State) (t : Requester), s.holdsFor t = false ∧ s.servesFor t = true ∧ t ≠ 16 ∧ whoOf t ≤ 1 ∧ (s.tenantRec (whoOf t)).any (fun r => bit r.regWr (blockOf SEQ_CTRL)) = true) := by
  refine ⟨?_, ?_⟩
  · exact ⟨run, 2, 1, 0, _, .head _, by decide +kernel⟩
  · exact ⟨run, 1, by decide +kernel⟩

theorem witness_FaultBlockRights :
    (∃ (s : State) (t : Requester) (a : Word), s.holdsFor t = false ∧ s.servesFor t = true ∧ blockOf a.toNat = blockOf FLT_COUNT ∧ regMapped a.toNat = true ∧ a.toNat % 4 = 0 ∧ (1 < whoOf t ∨ (s.tenantRec (whoOf t)).any (fun r => bit r.regWr (blockOf FLT_COUNT)) = false ∨ (a.toNat = FLT_WDG_KICK ∧ whoOf t ≠ 1))) ∧
    (∃ (s : State) (t : Requester) (w : Word), ∃ c ∈ [Instr.safeRelease t w, .faultQuery t w], s.holdsFor t = false ∧ s.servesFor t = true ∧ (1 < whoOf t ∨ (s.tenantRec (whoOf t)).any (fun r => bit r.regWr (blockOf FLT_COUNT)) = false)) ∧
    (∃ (s : State) (t : Requester), s.holdsFor t = false ∧ s.servesFor t = true ∧ (whoOf t ≠ 1 ∨ (s.tenantRec (whoOf t)).any (fun r => bit r.regWr (blockOf FLT_COUNT)) = false)) ∧
    (∃ (s : State) (t : Requester) (a : Nat), s.holdsFor t = false ∧ s.servesFor t = true ∧ t ≠ 16 ∧ whoOf t ≤ 1 ∧ blockOf a = blockOf FLT_COUNT ∧ (a = FLT_WDG_KICK → whoOf t = 1) ∧ (s.tenantRec (whoOf t)).any (fun r => bit r.regWr (blockOf FLT_COUNT)) = true) := by
  refine ⟨?_, ?_, ?_, ?_⟩
  · exact ⟨run, 2, BitVec.ofNat 32 FLT_COUNT, by decide +kernel⟩
  · exact ⟨run, 2, 1, _, .head _, by decide +kernel⟩
  · exact ⟨run, 0, by decide +kernel⟩
  · exact ⟨run, 1, FLT_WDG_KICK, by decide +kernel⟩

theorem witness_CommandsRefused :
    (∃ (s : State) (t : Requester) (w : Word) (p : Fin 4) (x : Fin 16) (ch : Fin 32) (c : Fin 2) (n : Fin 64) (k : Fin 8) (ok : Bool) (b : Bool) (d : ResetDomain) (vhold : Code) (ms : Nat), ∃ e ∈ [(STR_BQ_ADDR, Instr.boundQuery t false w), (STR_BQ_BIT, .boundQuery t true w), (SYS_RST_CTRL, .warm t), (SYS_RST_CTRL, .domainReset t d), (OTP_PROG_CTRL, .otpProgram t w ok), (UPD_CTRL, .updOpen t w), (UPD_CTRL, .updVerify t w), (UPD_CTRL, .updActivate t w), (UPD_CTRL, .updConfirm t w), (UPD_CTRL, .updRollback t w), (MEM_ECC_CTRL, .eccCountClear t w), (MEM_STALE k, .staleFlagClear t false k w), (MEM_LOST k, .staleFlagClear t true k w), (STO_CTRL, .manualStore t vhold), (PWR_REQ, .vote t w vhold b), (SEQ_CTRL, .seqUp t w), (SEQ_CTRL, .seqDown t w), (ADC_CH_CFG ch, .adcChannelConfig t ch w), (PHY_CTRL p, .retrain t p w), (PHY_CLR p, .phyCounterClear t p w), (LNK_CTRL p, .scheduleRetrain t p w), (LNK_CTRL p, .linkCounterClear t p w), (INT_CTL x, .eoi t x w), (INT_ROUTE p, .intRoute t p w), (INT_EN x, .intEnable t x w), (TXN_CLR, .txnCounterClear t w), (CH_CTRL p, .channelActivate t p w), (CH_CTRL p, .channelDeactivate t p w), (CH_CTRL p, .commit t p w), (CH_PAL_A p, .paletteEntryWrite t p w), (CH_CLR p, .channelCounterClear t p w), (OUT_CTRL p, .outputRetrain t p w), (OUT_AUX_CMD p, .auxCommand t p w), (OUT_CLR p, .outputCounterClear t p w), (TT_T1_ALIVE, .t1AliveKick t w), (TT_T1_REQ p, .t1Request t p w), (CAN_MB_CTRL c n, .canTxRequest t c n w), (CAN_MB_CTRL c n, .canTxAbort t c n w b), (CAN_CTRL c, .canCounterClear t c w), (FLK_CTRL, .swap t w), (FLT_SAFE_CTRL, .safeRelease t w), (FLT_WDG_KICK, .watchdogKick t w ms), (FLT_QSRC, .faultQuery t w), (ARB_CLR, .arbCounterClear t w)], s.holdsFor t = false ∧ s.servesFor t = true ∧ ((t = 16 ∧ s.sbpWrites = false) ∨ s.mayWrite (whoOf t) e.1 = false)) ∧
    (∃ (s : State) (t : Requester) (w : Word) (b : Bool), ∃ e ∈ [(PWR_SBP_WAKE, Instr.sbpWake t w), (LOG_RD_CTRL, .logReadout t w), (RTC_SWFIRST_SUB, .swfirstClear t w), (RTC_SET_HI, .timeWrite t w), (RTC_SHIFT, .shift t w b), (EVT_STAT, .ovfClear t w), (EVT_RD_CTRL, .eventReadout t w), (RTC_CD_LOAD, .countdownLoad t w)], s.holdsFor t = false ∧ s.servesFor t = true ∧ t ≠ 16 ∧ s.mayWrite (whoOf t) e.1 = false) ∧
    (∃ (s : State) (t : Requester) (a : Word), s.holdsFor t = false ∧ s.servesFor t = true ∧ regMapped a.toNat = true ∧ a.toNat % 4 = 0 ∧ ((t = 16 ∧ s.sbpWrites = false) ∨ s.mayWrite (whoOf t) a.toNat = false)) := by
  refine ⟨?_, ?_, ?_⟩
  · exact ⟨run, 2, 1, 0, 3, 4, 1, 5, 0, true, false, .adc, 5, 3, _, .head _, by decide +kernel⟩
  · exact ⟨run, 2, 1, true, _, .head _, by decide +kernel⟩
  · exact ⟨run, 2, BitVec.ofNat 32 SYS_RST_CTRL, by decide +kernel⟩

theorem witness_NoTarget :
    (∃ (s : State) (t : Requester) (a : Word), s.servesFor t = true ∧ ((0x04000000 ≤ a.toNat ∧ a.toNat < 0x40000000) ∨ (0x4C000000 ≤ a.toNat ∧ a.toNat < 0x80000000) ∨ (0x80800000 ≤ a.toNat ∧ a.toNat < 0x90000000) ∨ 0x91000000 ≤ a.toNat)) ∧
    (∃ (s : State) (t : Requester) (a : Word), s.servesFor t = true ∧ ((0x04000000 ≤ a.toNat ∧ a.toNat < 0x40000000) ∨ (0x4C000000 ≤ a.toNat ∧ a.toNat < 0x80000000) ∨ (0x80800000 ≤ a.toNat ∧ a.toNat < 0x90000000) ∨ 0x91000000 ≤ a.toNat)) ∧
    (∃ (s : State) (t : Requester) (a : Word), s.servesFor t = true ∧ ((0x04000000 ≤ a.toNat ∧ a.toNat < 0x40000000) ∨ (0x4C000000 ≤ a.toNat ∧ a.toNat < 0x80000000) ∨ (0x80800000 ≤ a.toNat ∧ a.toNat < 0x90000000) ∨ 0x91000000 ≤ a.toNat)) ∧
    (∃ (s : State) (t : Requester) (a : Word), s.servesFor t = true ∧ ((0x04000000 ≤ a.toNat ∧ a.toNat < 0x40000000) ∨ (0x4C000000 ≤ a.toNat ∧ a.toNat < 0x80000000) ∨ (0x80800000 ≤ a.toNat ∧ a.toNat < 0x90000000) ∨ 0x91000000 ≤ a.toNat)) ∧
    (∃ (s : State) (t : Requester) (a : Word), s.servesFor t = true ∧ ((0x04000000 ≤ a.toNat ∧ a.toNat < 0x40000000) ∨ (0x4C000000 ≤ a.toNat ∧ a.toNat < 0x80000000) ∨ (0x80800000 ≤ a.toNat ∧ a.toNat < 0x90000000) ∨ 0x91000000 ≤ a.toNat)) ∧
    (∃ (s : State) (t : Requester) (a : Word), s.servesFor t = true ∧ ((0x04000000 ≤ a.toNat ∧ a.toNat < 0x40000000) ∨ (0x4C000000 ≤ a.toNat ∧ a.toNat < 0x80000000) ∨ (0x80800000 ≤ a.toNat ∧ a.toNat < 0x90000000) ∨ 0x91000000 ≤ a.toNat)) ∧
    (∃ (s : State) (t : Requester) (a : Word), s.servesFor t = true ∧ ((0x04000000 ≤ a.toNat ∧ a.toNat < 0x40000000) ∨ (0x4C000000 ≤ a.toNat ∧ a.toNat < 0x80000000) ∨ (0x80800000 ≤ a.toNat ∧ a.toNat < 0x90000000) ∨ 0x91000000 ≤ a.toNat)) ∧
    (∃ (s : State) (t : Requester) (a : Word), s.servesFor t = true ∧ ((0x04000000 ≤ a.toNat ∧ a.toNat < 0x40000000) ∨ (0x4C000000 ≤ a.toNat ∧ a.toNat < 0x80000000) ∨ (0x80800000 ≤ a.toNat ∧ a.toNat < 0x90000000) ∨ 0x91000000 ≤ a.toNat)) ∧
    (∃ (s : State) (p : HostPort) (q : ReqPacket), ∃ c ∈ [(tyRd, Instr.readRequest p q), (tyWr, .writeRequest p q), (tyAt, .atomicRequest p q)], s.judges p c.1 q ∧ s.lnkState p = lnUp ∧ s.declared q.tenant.val = true ∧ s.tagInRange q.tenant.val (reqOf q.payload).tag = true ∧ tfind s.txn.tags (reqOf q.payload).tag = none ∧ s.portAllowed p q.tenant.val = true ∧ formatOk c.1 q.payload = true ∧ 0 < (reqOf q.payload).bytes c.1 ∧ ((0x04000000 ≤ (reqOf q.payload).addr ∧ (reqOf q.payload).addr < 0x40000000) ∨ (0x4C000000 ≤ (reqOf q.payload).addr ∧ (reqOf q.payload).addr < 0x80000000) ∨ (0x80800000 ≤ (reqOf q.payload).addr ∧ (reqOf q.payload).addr < 0x90000000) ∨ 0x91000000 ≤ (reqOf q.payload).addr)) ∧
    (∃ (s : State) (p : HostPort) (q : ReqPacket), ∃ c ∈ [(tyRd, Instr.readRequest p q), (tyWr, .writeRequest p q), (tyAt, .atomicRequest p q)], s.judges p c.1 q ∧ s.lnkState p = lnUp ∧ s.declared q.tenant.val = true ∧ s.tagInRange q.tenant.val (reqOf q.payload).tag = true ∧ tfind s.txn.tags (reqOf q.payload).tag = none ∧ s.portAllowed p q.tenant.val = true ∧ formatOk c.1 q.payload = true ∧ 0 < (reqOf q.payload).bytes c.1 ∧ ((0x04000000 ≤ (reqOf q.payload).addr ∧ (reqOf q.payload).addr < 0x40000000) ∨ (0x4C000000 ≤ (reqOf q.payload).addr ∧ (reqOf q.payload).addr < 0x80000000) ∨ (0x80800000 ≤ (reqOf q.payload).addr ∧ (reqOf q.payload).addr < 0x90000000) ∨ 0x91000000 ≤ (reqOf q.payload).addr)) ∧
    (∃ (s : State) (p : HostPort) (q : ReqPacket), ∃ c ∈ [(tyRd, Instr.readRequest p q), (tyWr, .writeRequest p q), (tyAt, .atomicRequest p q)], s.judges p c.1 q ∧ s.lnkState p = lnUp ∧ s.declared q.tenant.val = true ∧ s.tagInRange q.tenant.val (reqOf q.payload).tag = true ∧ tfind s.txn.tags (reqOf q.payload).tag = none ∧ s.portAllowed p q.tenant.val = true ∧ formatOk c.1 q.payload = true ∧ 0 < (reqOf q.payload).bytes c.1 ∧ ((0x04000000 ≤ (reqOf q.payload).addr ∧ (reqOf q.payload).addr < 0x40000000) ∨ (0x4C000000 ≤ (reqOf q.payload).addr ∧ (reqOf q.payload).addr < 0x80000000) ∨ (0x80800000 ≤ (reqOf q.payload).addr ∧ (reqOf q.payload).addr < 0x90000000) ∨ 0x91000000 ≤ (reqOf q.payload).addr)) ∧
    (∃ (s : State) (p : HostPort) (q : ReqPacket), ∃ c ∈ [(tyRd, Instr.readRequest p q), (tyWr, .writeRequest p q), (tyAt, .atomicRequest p q)], s.judges p c.1 q ∧ s.lnkState p = lnUp ∧ s.declared q.tenant.val = true ∧ s.tagInRange q.tenant.val (reqOf q.payload).tag = true ∧ tfind s.txn.tags (reqOf q.payload).tag = none ∧ s.portAllowed p q.tenant.val = true ∧ formatOk c.1 q.payload = true ∧ 0 < (reqOf q.payload).bytes c.1 ∧ ((0x04000000 ≤ (reqOf q.payload).addr ∧ (reqOf q.payload).addr < 0x40000000) ∨ (0x4C000000 ≤ (reqOf q.payload).addr ∧ (reqOf q.payload).addr < 0x80000000) ∨ (0x80800000 ≤ (reqOf q.payload).addr ∧ (reqOf q.payload).addr < 0x90000000) ∨ 0x91000000 ≤ (reqOf q.payload).addr)) ∧
    (∃ (s : State) (p : HostPort) (q : ReqPacket), ∃ c ∈ [(tyRd, Instr.readRequest p q), (tyWr, .writeRequest p q), (tyAt, .atomicRequest p q)], s.judges p c.1 q ∧ s.lnkState p = lnUp ∧ s.declared q.tenant.val = true ∧ s.tagInRange q.tenant.val (reqOf q.payload).tag = true ∧ tfind s.txn.tags (reqOf q.payload).tag = none ∧ s.portAllowed p q.tenant.val = true ∧ formatOk c.1 q.payload = true ∧ 0 < (reqOf q.payload).bytes c.1 ∧ ((0x04000000 ≤ (reqOf q.payload).addr ∧ (reqOf q.payload).addr < 0x40000000) ∨ (0x4C000000 ≤ (reqOf q.payload).addr ∧ (reqOf q.payload).addr < 0x80000000) ∨ (0x80800000 ≤ (reqOf q.payload).addr ∧ (reqOf q.payload).addr < 0x90000000) ∨ 0x91000000 ≤ (reqOf q.payload).addr)) ∧
    (∃ (s : State) (p : HostPort) (q : ReqPacket), ∃ c ∈ [(tyRd, Instr.readRequest p q), (tyWr, .writeRequest p q), (tyAt, .atomicRequest p q)], s.judges p c.1 q ∧ s.lnkState p = lnUp ∧ s.declared q.tenant.val = true ∧ s.tagInRange q.tenant.val (reqOf q.payload).tag = true ∧ tfind s.txn.tags (reqOf q.payload).tag = none ∧ s.portAllowed p q.tenant.val = true ∧ formatOk c.1 q.payload = true ∧ 0 < (reqOf q.payload).bytes c.1 ∧ ((0x04000000 ≤ (reqOf q.payload).addr ∧ (reqOf q.payload).addr < 0x40000000) ∨ (0x4C000000 ≤ (reqOf q.payload).addr ∧ (reqOf q.payload).addr < 0x80000000) ∨ (0x80800000 ≤ (reqOf q.payload).addr ∧ (reqOf q.payload).addr < 0x90000000) ∨ 0x91000000 ≤ (reqOf q.payload).addr)) ∧
    (∃ (s : State) (p : HostPort) (q : ReqPacket), ∃ c ∈ [(tyRd, Instr.readRequest p q), (tyWr, .writeRequest p q), (tyAt, .atomicRequest p q)], s.judges p c.1 q ∧ s.lnkState p = lnUp ∧ s.declared q.tenant.val = true ∧ s.tagInRange q.tenant.val (reqOf q.payload).tag = true ∧ tfind s.txn.tags (reqOf q.payload).tag = none ∧ s.portAllowed p q.tenant.val = true ∧ formatOk c.1 q.payload = true ∧ 0 < (reqOf q.payload).bytes c.1 ∧ ((0x04000000 ≤ (reqOf q.payload).addr ∧ (reqOf q.payload).addr < 0x40000000) ∨ (0x4C000000 ≤ (reqOf q.payload).addr ∧ (reqOf q.payload).addr < 0x80000000) ∨ (0x80800000 ≤ (reqOf q.payload).addr ∧ (reqOf q.payload).addr < 0x90000000) ∨ 0x91000000 ≤ (reqOf q.payload).addr)) ∧
    (∃ (s : State) (p : HostPort) (q : ReqPacket), ∃ c ∈ [(tyRd, Instr.readRequest p q), (tyWr, .writeRequest p q), (tyAt, .atomicRequest p q)], s.judges p c.1 q ∧ s.lnkState p = lnUp ∧ s.declared q.tenant.val = true ∧ s.tagInRange q.tenant.val (reqOf q.payload).tag = true ∧ tfind s.txn.tags (reqOf q.payload).tag = none ∧ s.portAllowed p q.tenant.val = true ∧ formatOk c.1 q.payload = true ∧ 0 < (reqOf q.payload).bytes c.1 ∧ ((0x04000000 ≤ (reqOf q.payload).addr ∧ (reqOf q.payload).addr < 0x40000000) ∨ (0x4C000000 ≤ (reqOf q.payload).addr ∧ (reqOf q.payload).addr < 0x80000000) ∨ (0x80800000 ≤ (reqOf q.payload).addr ∧ (reqOf q.payload).addr < 0x90000000) ∨ 0x91000000 ≤ (reqOf q.payload).addr)) := by
  refine ⟨?_, ?_, ?_, ?_, ?_, ?_, ?_, ?_, ?_, ?_, ?_, ?_, ?_, ?_, ?_, ?_⟩
  · exact ⟨run, 0, 0x04000000, by decide +kernel⟩
  · exact ⟨run, 1, 0x3FFFFFFF, by decide +kernel⟩
  · exact ⟨run, 0, 0x4C000000, by decide +kernel⟩
  · exact ⟨run, 16, 0x7FFFFFFF, by decide +kernel⟩
  · exact ⟨run, 2, 0x80800000, by decide +kernel⟩
  · exact ⟨run, 0, 0x8FFFFFFF, by decide +kernel⟩
  · exact ⟨run, 1, 0x91000000, by decide +kernel⟩
  · exact ⟨run, 16, 0xFFFFFFFF, by decide +kernel⟩
  · exact ⟨((((((run.setFld (LNK_STAT 0) 0 2 2).setFlds (PHY_STAT 0) [(0, 4, phActive), (11, 1, 1)]).setFlds (TEN_TAG 1) [(0, 9, 16), (16, 10, 16)])).setFlds (TEN_TAG 0) [(0, 9, 0), (16, 10, 16)]).setFlds (TEN_CFG 0) [(0, 2, 3), (16, 11, 16)]).setFlds (TEN_CFG 1) [(0, 2, 3), (16, 11, 16)], 0, ({ vc := false, tenant := 1, payload := leBytes 4 0x04000000 ++ leBytes 2 17 ++ leBytes 1 0 ++ leBytes 1 8 ++ leBytes 8 7 ++ leBytes 8 0 } : ReqPacket), _, .tail _ (.tail _ (.head _)), by unfold State.judges; decide +kernel⟩
  · exact ⟨((((((run.setFld (LNK_STAT 0) 0 2 2).setFlds (PHY_STAT 0) [(0, 4, phActive), (11, 1, 1)]).setFlds (TEN_TAG 1) [(0, 9, 16), (16, 10, 16)])).setFlds (TEN_TAG 0) [(0, 9, 0), (16, 10, 16)]).setFlds (TEN_CFG 0) [(0, 2, 3), (16, 11, 16)]).setFlds (TEN_CFG 1) [(0, 2, 3), (16, 11, 16)], 0, ({ vc := false, tenant := 1, payload := leBytes 4 0x4C000000 ++ leBytes 2 17 ++ leBytes 1 0 ++ leBytes 1 8 ++ leBytes 8 7 ++ leBytes 8 0 } : ReqPacket), _, .tail _ (.tail _ (.head _)), by unfold State.judges; decide +kernel⟩
  · exact ⟨((((((run.setFld (LNK_STAT 0) 0 2 2).setFlds (PHY_STAT 0) [(0, 4, phActive), (11, 1, 1)]).setFlds (TEN_TAG 1) [(0, 9, 16), (16, 10, 16)])).setFlds (TEN_TAG 0) [(0, 9, 0), (16, 10, 16)]).setFlds (TEN_CFG 0) [(0, 2, 3), (16, 11, 16)]).setFlds (TEN_CFG 1) [(0, 2, 3), (16, 11, 16)], 0, ({ vc := false, tenant := 1, payload := leBytes 4 0x80800000 ++ leBytes 2 17 ++ leBytes 1 0 ++ leBytes 1 8 ++ leBytes 8 7 ++ leBytes 8 0 } : ReqPacket), _, .tail _ (.tail _ (.head _)), by unfold State.judges; decide +kernel⟩
  · exact ⟨((((((run.setFld (LNK_STAT 0) 0 2 2).setFlds (PHY_STAT 0) [(0, 4, phActive), (11, 1, 1)]).setFlds (TEN_TAG 1) [(0, 9, 16), (16, 10, 16)])).setFlds (TEN_TAG 0) [(0, 9, 0), (16, 10, 16)]).setFlds (TEN_CFG 0) [(0, 2, 3), (16, 11, 16)]).setFlds (TEN_CFG 1) [(0, 2, 3), (16, 11, 16)], 0, ({ vc := false, tenant := 1, payload := leBytes 4 0x91000000 ++ leBytes 2 17 ++ leBytes 1 0 ++ leBytes 1 8 ++ leBytes 8 7 ++ leBytes 8 0 } : ReqPacket), _, .tail _ (.tail _ (.head _)), by unfold State.judges; decide +kernel⟩
  · exact ⟨((((((run.setFld (LNK_STAT 0) 0 2 2).setFlds (PHY_STAT 0) [(0, 4, phActive), (11, 1, 1)]).setFlds (TEN_TAG 1) [(0, 9, 16), (16, 10, 16)])).setFlds (TEN_TAG 0) [(0, 9, 0), (16, 10, 16)]).setFlds (TEN_CFG 0) [(0, 2, 3), (16, 11, 16)]).setFlds (TEN_CFG 1) [(0, 2, 3), (16, 11, 16)], 0, ({ vc := false, tenant := 1, payload := leBytes 4 0x3FFFFFF8 ++ leBytes 2 17 ++ leBytes 2 8 } : ReqPacket), _, .head _, by unfold State.judges; decide +kernel⟩
  · exact ⟨((((((run.setFld (LNK_STAT 0) 0 2 2).setFlds (PHY_STAT 0) [(0, 4, phActive), (11, 1, 1)]).setFlds (TEN_TAG 1) [(0, 9, 16), (16, 10, 16)])).setFlds (TEN_TAG 0) [(0, 9, 0), (16, 10, 16)]).setFlds (TEN_CFG 0) [(0, 2, 3), (16, 11, 16)]).setFlds (TEN_CFG 1) [(0, 2, 3), (16, 11, 16)], 0, ({ vc := false, tenant := 1, payload := leBytes 4 0x7FFFFFF8 ++ leBytes 2 17 ++ leBytes 2 8 ++ List.replicate 8 9 } : ReqPacket), _, .tail _ (.head _), by unfold State.judges; decide +kernel⟩
  · exact ⟨((((((run.setFld (LNK_STAT 0) 0 2 2).setFlds (PHY_STAT 0) [(0, 4, phActive), (11, 1, 1)]).setFlds (TEN_TAG 1) [(0, 9, 16), (16, 10, 16)])).setFlds (TEN_TAG 0) [(0, 9, 0), (16, 10, 16)]).setFlds (TEN_CFG 0) [(0, 2, 3), (16, 11, 16)]).setFlds (TEN_CFG 1) [(0, 2, 3), (16, 11, 16)], 0, ({ vc := false, tenant := 1, payload := leBytes 4 0x8FFFFFF8 ++ leBytes 2 17 ++ leBytes 2 8 ++ List.replicate 8 9 } : ReqPacket), _, .tail _ (.head _), by unfold State.judges; decide +kernel⟩
  · exact ⟨((((((run.setFld (LNK_STAT 0) 0 2 2).setFlds (PHY_STAT 0) [(0, 4, phActive), (11, 1, 1)]).setFlds (TEN_TAG 1) [(0, 9, 16), (16, 10, 16)])).setFlds (TEN_TAG 0) [(0, 9, 0), (16, 10, 16)]).setFlds (TEN_CFG 0) [(0, 2, 3), (16, 11, 16)]).setFlds (TEN_CFG 1) [(0, 2, 3), (16, 11, 16)], 0, ({ vc := false, tenant := 1, payload := leBytes 4 0xFFFFFFF8 ++ leBytes 2 17 ++ leBytes 2 8 ++ List.replicate 8 9 } : ReqPacket), _, .tail _ (.head _), by unfold State.judges; decide +kernel⟩

theorem witness_InterruptSources :
    (∃ (s : State), s.signals = true) := by
  · exact ⟨((run.setReg FLT_ISTAT 1).setReg FLT_IEN 1).setReg (INT_EN 0) 0x20000000, by decide +kernel⟩

theorem witness_CanErrorsRecorded :
    (∃ (s : State) (c : Fin 2), s.canOnline c = true) ∧
    (∃ (s : State) (c : Fin 2), s.canOnline c = true ∧ (s.offered c).isSome = true ∧ s.faultClass (74 + c) ≤ 3) ∧
    (∃ (s : State) (c : Fin 2) (f : CanFrame), s.canOnline c = true ∧ s.canHears c = true ∧ f.fdf = true ∧ s.canFlag c 0 = false) := by
  refine ⟨?_, ?_, ?_⟩
  · exact ⟨((runWith { img with canctls := [{ ctrl := 0, flags := 7, nbrp := 1, ntseg1 := 3, ntseg2 := 2, nsjw := 1, dbrp := 1, dtseg1 := 3, dtseg2 := 2, dsjw := 1, tdco := 0, presenceId := 0x123 }] }).setFlds (CAN_STAT 0) [(0, 2, 1), (3, 1, 1)]), 0, by decide +kernel⟩
  · exact ⟨((((runWith { img with canctls := [{ ctrl := 0, flags := 7, nbrp := 1, ntseg1 := 3, ntseg2 := 2, nsjw := 1, dbrp := 1, dtseg1 := 3, dtseg2 := 2, dsjw := 1, tdco := 0, presenceId := 0x123 }] }).setFlds (CAN_STAT 0) [(0, 2, 1), (3, 1, 1)]).setFld (CAN_MB_CTRL 0 9) 0 2 2).raise (CAN_MB_CTRL 0 9) 4).setReg (CAN_MB 0 9 0) 0x123, 0, by decide +kernel⟩
  · exact ⟨((runWith { img with canctls := [{ ctrl := 0, flags := 6, nbrp := 1, ntseg1 := 3, ntseg2 := 2, nsjw := 1, dbrp := 1, dtseg1 := 3, dtseg2 := 2, dsjw := 1, tdco := 0, presenceId := 0x123 }] }).setFlds (CAN_STAT 0) [(0, 2, 1), (3, 1, 1)]), 0, { ide := false, id := 0x123, fdf := true, brs := false, esi := false, remote := false, dlc := 1, data := [1] }, by decide +kernel⟩

theorem witness_RoleRequestTimeout :
    (∃ (s : State), s.flag FLK_STAT 24 = true) ∧
    (∃ (s : State) (p : Fin 2) (b : List Byte) (r : Nat), s.hears p b ∧ msgField b 0 1 = 6 ∧ s.msgMember b = some r ∧ msgField b 0x10 8 = s.otp.force.devid ∧ s.flk.pending = none) := by
  refine ⟨?_, ?_⟩
  · exact ⟨{ (((((runWith { img with flock := some { members := 2, ports := 3, maxRev := 1, flockId := 0x77 } })).setFld (LNK_STAT 2) 0 2 2).setFld (LNK_STAT 3) 0 2 2).setFlds FLK_STAT [(0, 2, 2), (8, 4, 1), (24, 1, 1)]).setFlds FLK_MEMBERS [(0, 2, 3)] with flk := { FlkSt.reset with members := [(1, { Member.reset with devid := 9 })], pending := some 9 } }, by decide +kernel⟩
  · exact ⟨{ (((((runWith { img with flock := some { members := 2, ports := 3, maxRev := 1, flockId := 0x77 } })).setFld (LNK_STAT 2) 0 2 2).setFld (LNK_STAT 3) 0 2 2).setFlds FLK_STAT [(0, 2, 2), (8, 4, 1), (4, 2, 0), (2, 1, 1)]).setFlds FLK_MEMBERS [(0, 2, 3)] with flk := { FlkSt.reset with members := [(1, { Member.reset with devid := 9 })] } }, 0, leBytes 1 6 ++ leBytes 1 0 ++ leBytes 1 1 ++ leBytes 1 1 ++ leBytes 4 4 ++ leBytes 8 9 ++ leBytes 8 5 ++ [1, 0, 0, 0], 1, by unfold State.hears; decide +kernel⟩


end Sys2Proof.Tests
end

section
/-! SUPPORT. Writes that their requester has no right to make, and who may write SYS_RST_CTRL (01, R14). -/

namespace Sys2Proof.Laws

open Sys2Proof Sys2Proof.Machine

/-! ### An access refused (R105) -/

/-- An access that the block serves but may not carry out is refused with STATUS PERMISSION. -/
theorem regCmd_refused {s : State} {t : Requester} {a : Nat} (hh : s.holdsFor t = false) (hs : s.servesFor t = true)
    (hn : ¬ s.takes t a) (w : Word) (op : Nat → Word → State → State) :
    regCmd t a w op s = { s with lastStatus := stPermission } := by
  rcases regCmd_cases t a w op s with ⟨h, -⟩ | ⟨-, -, -, e⟩ | ⟨-, h, -⟩ | ⟨h, -⟩
  · simp [hh] at h
  · exact e
  · simp [hs] at h
  · exact absurd h hn

/-- A requester that may not write a register does not have its write carried out. -/
theorem not_takes_of_not_mayWrite {s : State} {t : Requester} {a : Nat} (h : s.mayWrite (whoOf t) a = false) :
    ¬ s.takes t a := by
  rintro ⟨-, -, -, hw⟩
  simp [h] at hw

/-- A write to an aligned register of Table 23-1 is an access to that register (R2, R103). -/
theorem regWriteAt_eq_regCmd {addr : Word} (hm : regMapped addr.toNat = true) (ha : addr.toNat % 4 = 0) (t : Requester)
    (w : Word) (op : Word → Word) (s : State) :
    regWriteAt t addr w op s =
      regCmd t addr.toNat w (fun who w s => writeReg (ctxOfReq t) addr.toNat who (op w) s) s := by
  simp [regWriteAt, hm, ha]

theorem onlyRegs_withStatus (s : State) (c : BitVec 4) : s.onlyRegs { s with lastStatus := c } :=
  ⟨_, _, _, _, _, _, rfl⟩

theorem sameRegs_withStatus (s : State) (c : BitVec 4) (l : List Nat) : s.sameRegs { s with lastStatus := c } l :=
  fun _ _ => rfl

/-- A command that is an access refused completes with STATUS PERMISSION and changes nothing. -/
theorem yields_refused {c : Instr} {s : State} {t : Requester} {a : Nat} {w : Word} {op : Nat → Word → State → State}
    (he : exec c s = finish (regCmd t a w op s)) (hh : s.holdsFor t = false) (hs : s.servesFor t = true)
    (hn : ¬ s.takes t a) :
    Yields c s fun u => u.lastStatus = stPermission ∧ s.sameRegs u [] ∧ s.onlyRegs u := by
  rw [regCmd_refused hh hs hn] at he
  exact yields_of_finish he ⟨settle_lastStatus _, sameRegs_settle (sameRegs_withStatus s stPermission []),
    onlyRegs_settle (onlyRegs_withStatus s stPermission)⟩

/-- As `yields_refused`, for a write of an aligned register by its address. -/
theorem registerWrite_refused {s : State} {t : Requester} {addr : Word} (hm : regMapped addr.toNat = true)
    (ha : addr.toNat % 4 = 0) (hh : s.holdsFor t = false) (hs : s.servesFor t = true) (hn : ¬ s.takes t addr.toNat)
    (w same : Word) :
    Yields (.registerWrite t addr w same) s fun u => u.lastStatus = stPermission ∧ s.sameRegs u [] ∧ s.onlyRegs u :=
  yields_refused (congrArg finish (regWriteAt_eq_regCmd hm ha t w (besideSet addr.toNat same) s)) hh hs hn

/-! ### SYS_RST_CTRL (R14) -/

/-- Whatever REG_WR grants, a tenant other than T0 may not write SYS_RST_CTRL. -/
theorem mayWrite_rstCtrl_eq_false (s : State) {k : Nat} (hk : k ≠ 0) : s.mayWrite k SYS_RST_CTRL = false := by
  have hb : blockOf SYS_RST_CTRL = 0 := by decide
  simp [State.mayWrite, hb, hk]

/-- Settles O53: all three commands are accesses to SYS_RST_CTRL, which no tenant but T0 may write. -/
theorem resetControlRights : Obligations.ResetControlRights := by
  unfold Obligations.ResetControlRights
  intro s t d w same hh hs ht c hc
  have hn : ¬ s.takes t SYS_RST_CTRL := not_takes_of_not_mayWrite (mayWrite_rstCtrl_eq_false s ht)
  simp only [List.mem_cons, List.not_mem_nil, or_false] at hc
  obtain rfl | rfl | rfl := hc
  · exact yields_refused (op := wrRstCtrl) rfl hh hs hn
  · exact yields_refused (op := wrRstCtrl) rfl hh hs hn
  · exact registerWrite_refused (addr := BitVec.ofNat 32 SYS_RST_CTRL) (by decide) (by decide) hh hs hn w same

end Sys2Proof.Laws
end

section
/-! SUPPORT. An access to no target whose completion waits behind one that is still owed (R103, R331). -/

namespace Sys2Proof.Laws

open Sys2Proof Sys2Proof.Machine

/-! ### A port that owes a completion (R331) -/

/-- A request of T0 on port ILV0 for 8 bytes at `addr` under `tag`. -/
def readPacket (addr tag : Nat) : ReqPacket :=
  { vc := false, tenant := 0, payload := leBytes 4 addr ++ leBytes 2 tag ++ leBytes 2 8 }

/-- A read of the NV window that was held (R122) before its port left UP. -/
def owedRead : Delivered := { port := 0, type := tyRd, req := readPacket 0x40000000 1, again := true, gone := false }

/-- The device unconfigured and in P0 Run, T0 with the tags, ports and quota of R329; port ILV0 is UP again, and `owedRead`
still waits. -/
def owingState : State :=
  ({ State.reset with
    ctl := { Ctl.reset with phase := .run, porHigh := true, railsOk := true }
    txn := { TxnSt.reset with tags := [(1, (0, 0))] }
    sto := { StoSt.reset with heldReads := [owedRead] } } : State).setFlds (TEN_TAG 0) [(0, 9, 0), (16, 10, 512)]
    |>.setFlds (TEN_CFG 0) [(0, 2, 3), (16, 11, 896)]
    |>.setFld (LNK_STAT 0) 0 2 lnUp

/-- The read at 0x04000000, where Table 6-1 maps nothing, is refused with DECODE and its completion queued behind the one
that `owedRead` is owed: among the late ones, not among those ready to be sent. -/
theorem owingState_readUnmapped : ∃ u, exec (.readRequest 0 (readPacket 0x04000000 2)) owingState = .next u ∧
    (u.lnkOf 0).qLate = [cplPacket 0 2 stDecode false] ∧ (u.lnkOf 0).qRsp = [] :=
  ⟨_, rfl, by decide +kernel, by decide +kernel⟩

/-- Refutes O57: its clause on requests has no premise that the port owes no completion from before its link left UP. Where
it does, R331 puts every later completion behind that one, so the CPL with DECODE is not yet among those to be sent. -/
theorem not_noTarget : ¬ Obligations.NoTarget := by
  unfold Obligations.NoTarget
  rintro ⟨-, hreq⟩
  have hjudges : owingState.judges 0 tyRd (readPacket 0x04000000 2) := by unfold State.judges; decide +kernel
  obtain ⟨u, hu, hq, -⟩ := hreq owingState 0 (readPacket 0x04000000 2) (tyRd, _) (.head _) hjudges (by decide +kernel)
    (by decide +kernel) (by decide +kernel) (by decide +kernel) (by decide +kernel) (by decide +kernel) (by decide +kernel)
    (by decide +kernel)
  obtain ⟨v, hv, -, hempty⟩ := owingState_readUnmapped
  obtain rfl : u = v := by simpa using hu.symm.trans hv
  simp [hempty] at hq

end Sys2Proof.Laws
end

section
/-! SUPPORT. Who may write SEQ_CTRL (10, R203). -/

namespace Sys2Proof.Laws

open Sys2Proof Sys2Proof.Machine

/-- SEQ_CTRL may be written by T0 and T1 alone, each only where REG_WR grants it block SEQ; no rule that names another
register touches it. -/
theorem mayWrite_seqCtrl_iff (s : State) (k : Nat) :
    s.mayWrite k SEQ_CTRL = true ↔
      (s.tenantRec k).any (fun r => bit r.regWr (blockOf SEQ_CTRL)) = true ∧ k ≤ 1 := by
  have hseq : blockOf SEQ_CTRL ≠ 114 ∧ ¬ blockOf SEQ_CTRL ≤ 3 := by decide
  have hsto : SEQ_CTRL ≠ STO_CTRL := by decide
  have hkick : SEQ_CTRL ≠ FLT_WDG_KICK := by decide
  have ht1 : ¬ (TT_T1_REQ 0 ≤ SEQ_CTRL ∧ SEQ_CTRL < TT_T1_REQ 4) := by decide
  have hpwr : SEQ_CTRL ≠ PWR_REQ := by decide
  simp only [State.mayWrite, hseq, hsto, hkick, ht1, hpwr, or_true, if_true, if_false, Bool.and_true, Bool.and_eq_true,
    decide_eq_true_eq]

/-- A requester with the rights of another tenant, or of one that REG_WR does not grant block SEQ, does not have its write
of SEQ_CTRL carried out. -/
theorem not_takes_seqCtrl {s : State} {t : Requester}
    (h : 1 < whoOf t ∨ (s.tenantRec (whoOf t)).any (fun r => bit r.regWr (blockOf SEQ_CTRL)) = false) :
    ¬ s.takes t SEQ_CTRL := by
  rintro ⟨-, -, -, hw⟩
  obtain ⟨hgranted, hle⟩ := (mayWrite_seqCtrl_iff s (whoOf t)).mp hw
  rcases h with hlt | hno
  · omega
  · simp [hgranted] at hno

/-- Settles O54: all three commands are accesses to SEQ_CTRL, which `mayWrite_seqCtrl_iff` gives to T0 and T1 under their
grants and to no one else. -/
theorem sequencerRights : Obligations.SequencerRights := by
  unfold Obligations.SequencerRights
  constructor
  · intro s t w same hh hs hr c hc
    have hn : ¬ s.takes t SEQ_CTRL := not_takes_seqCtrl hr
    simp only [List.mem_cons, List.not_mem_nil, or_false] at hc
    obtain rfl | rfl | rfl := hc
    · exact yields_refused (op := wrSeqCtrl) rfl hh hs hn
    · exact yields_refused (op := wrSeqCtrl) rfl hh hs hn
    · exact registerWrite_refused (addr := BitVec.ofNat 32 SEQ_CTRL) (by decide) (by decide) hh hs hn w same
  · intro s t hh hs hport hle hgranted
    exact ⟨hh, hs, fun h => absurd h hport, (mayWrite_seqCtrl_iff s (whoOf t)).mpr ⟨hgranted, hle⟩⟩

end Sys2Proof.Laws
end

section
/-! SUPPORT. What INT_PEND and INT_PIN_STAT show of the sources and the summaries (15, R325, R327). -/

namespace Sys2Proof.Laws

open Sys2Proof Sys2Proof.Machine

/-! ### Bits of a number put together from positions -/

theorem bit_eq_testBit (v i : Nat) : bit v i = v.testBit i := by
  simp [bit, Nat.testBit_eq_decide_div_mod_eq]

theorem eraseDups_of_nodup {l : List Nat} (h : l.Nodup) : l.eraseDups = l := by
  induction l with
  | nil => rfl
  | cons a l ih =>
    obtain ⟨ha, hl⟩ := List.nodup_cons.mp h
    have hkept : (l.filter fun b => !b == a) = l :=
      List.filter_eq_self.mpr fun b hb => by simpa using ne_of_mem_of_not_mem hb ha
    rw [List.eraseDups_cons, hkept, ih hl]

theorem ofPositions_eq_sum {l : List Nat} (h : l.Nodup) : ofPositions l = (l.map fun i => 2 ^ i).sum := by
  rw [ofPositions, eraseDups_of_nodup h, List.sum_eq_foldl, List.foldl_map]

theorem testBit_ofPositions {l : List Nat} (h : l.SortedLT) (i : Nat) : (ofPositions l).testBit i = decide (i ∈ l) := by
  rw [Bool.eq_iff_iff, decide_eq_true_iff, ← Nat.mem_bitIndices, ofPositions_eq_sum h.pairwise.nodup,
    Nat.bitIndices_sum_map_two_pow h]

theorem testBit_ofPositions_filter (n : Nat) (f : Nat → Bool) (i : Nat) :
    (ofPositions ((List.range n).filter f)).testBit i = (decide (i < n) && f i) := by
  have hsorted : ((List.range n).filter f).SortedLT := (List.pairwise_lt_range.filter f).sortedLT
  rw [testBit_ofPositions hsorted, Bool.eq_iff_iff]
  simp

/-- Two numbers have a bit in common when their conjunction is not 0. -/
theorem and_ne_zero_iff_testBit (a b : Nat) : a &&& b ≠ 0 ↔ ∃ i, a.testBit i = true ∧ b.testBit i = true := by
  constructor
  · intro h
    obtain ⟨i, hi⟩ := Nat.exists_testBit_of_ne_zero h
    exact ⟨i, by simpa using hi⟩
  · rintro ⟨i, ha, hb⟩ h
    simpa [ha, hb] using congrArg (·.testBit i) h

/-! ### The INT registers as a requester reads them (R325, R327) -/

/-- No register of the INT block has an SC bit. -/
theorem acting_intBlock (s : State) {a : Nat} (hb : blockOf a = 114) : s.acting a = 0 := by
  have hne : ∀ r, blockOf r ≠ 114 → a ≠ r := fun r hr h => hr (h ▸ hb)
  simp (disch := decide) [State.acting, hb, hne]

theorem view_intBlock (s : State) (k : Nat) {a : Nat} (hb : blockOf a = 114) :
    s.view k a = (s.viewTxn a).getD (s.reg a).toNat := by
  simp [State.view, hb, acting_intBlock s hb]

theorem viewTxn_intPend (s : State) (t : Fin 16) : s.viewTxn (INT_PEND t) = some (s.intPend t) := by
  fin_cases t <;> rfl

theorem view_intPend (s : State) (k : Nat) (t : Fin 16) : s.view k (INT_PEND t) = s.intPend t := by
  have hb : blockOf (INT_PEND t) = 114 := by revert t; decide
  rw [view_intBlock s k hb, viewTxn_intPend, Option.getD_some]

theorem view_intPinStat (s : State) (k : Nat) : s.view k INT_PIN_STAT = s.intPins := by
  have hb : blockOf INT_PIN_STAT = 114 := by decide
  rw [view_intBlock s k hb]
  rfl

/-! ### Sources and summaries (R324, R325) -/

theorem testBit_intPend (s : State) (t n : Nat) : (s.intPend t).testBit n = (decide (n < 32) && s.sourceFor t n) :=
  testBit_ofPositions_filter 32 (s.sourceFor t) n

/-- Bit `n` of INT_PENDt, but for the source 0 of Table 15-4: source `n` is active and routed to tenant `t`. -/
theorem bit_view_intPend (s : State) (k : Nat) (t : Fin 16) {n : Nat} (h0 : n ≠ 0) (hn : n < 32) :
    bit (s.view k (INT_PEND t)) n = (decide (s.fld (INT_ROUTE (n / 8)) (4 * (n % 8)) 4 = t) && s.source n) := by
  rw [view_intPend, bit_eq_testBit, testBit_intPend, State.sourceFor, if_neg h0, decide_eq_true hn, Bool.true_and,
    Bool.and_comm]
  rfl

/-- Sources 17 to 20: the summary of a channel and its output (R346, R377). -/
theorem source_channel (s : State) (n : Fin 4) :
    s.source (17 + n) = (s.irq (CH_ISTAT n) (CH_IEN n) || s.irq (OUT_ISTAT n) (OUT_IEN n)) := by
  fin_cases n <;> rfl

/-- Source 23: the summary of the LED sinks (R393). -/
theorem source_led (s : State) :
    s.source 23 = (s.flag LED_IEN 0 && s.reg LED_OPEN != 0 || s.flag LED_IEN 1 && s.reg LED_SHORT != 0) := by
  simp [State.source, bne, beq_eq_decide]

theorem summary_eq_true_iff (s : State) (t : Nat) :
    s.summary t = true ↔ ∃ n < 32, s.sourceFor t n = true ∧ (s.reg (INT_EN t)).toNat.testBit n = true := by
  simp only [State.summary, bitsSet, List.any_eq_true, List.mem_filter, List.mem_range, bit_eq_testBit]
  exact exists_congr fun n => by tauto

/-- The summary of a tenant is 1 while INT_PENDt AND INT_ENt is not 0. -/
theorem summary_eq (s : State) (t : Nat) : s.summary t = decide (s.intPend t &&& (s.reg (INT_EN t)).toNat ≠ 0) := by
  rw [Bool.eq_iff_iff, decide_eq_true_iff, summary_eq_true_iff, and_ne_zero_iff_testBit]
  exact exists_congr fun n => by simp [testBit_intPend, and_assoc]

/-- INTn_N is low while the summary of a tenant on that pin is 1 (R327), as long as the core has power (R239). -/
theorem testBit_intPins {s : State} (hs : s.signals = true) (n : Fin 4) :
    s.intPins.testBit n = true ↔
      ∃ t, t < 16 ∧ s.summary t = true ∧ ∃ r, s.tenantRec t = some r ∧ r.intPin = n := by
  have hpowered : (!s.signals) = false := by simp [hs]
  rw [State.intPins, hpowered, if_neg Bool.false_ne_true, testBit_ofPositions_filter]
  simp [Option.any_eq_true]

/-- Settles O58: a read of INT_PENDt shows `intPend`, whose bits are the routed sources; the summaries and the pins are
computed from the same sources. -/
theorem interruptSources : Obligations.InterruptSources := by
  unfold Obligations.InterruptSources
  refine ⟨?channels, ?blocks, ?leds, ?summaries, ?pins⟩
  case channels =>
    intro s k t n
    rw [bit_view_intPend s k t (by omega) (by omega), source_channel]
    rfl
  case blocks =>
    intro s k t e he
    obtain ⟨h0, h32⟩ : e.1 ≠ 0 ∧ e.1 < 32 := by revert e; decide
    have hsource : s.source e.1 = s.irq e.2.1 e.2.2 := by
      simp only [List.mem_cons, List.not_mem_nil, or_false] at he
      rcases he with rfl | rfl | rfl | rfl | rfl | rfl | rfl | rfl | rfl <;> rfl
    rw [bit_view_intPend s k t h0 h32, hsource]
    rfl
  case leds =>
    intro s k t
    rw [bit_view_intPend s k t (by decide) (by decide), source_led]
  case summaries =>
    intro s k t
    rw [view_intPend, summary_eq]
  case pins =>
    intro s k n hs
    rw [view_intPinStat, bit_eq_testBit, testBit_intPins hs]

end Sys2Proof.Laws
end

section
/-! SUPPORT. An error on a CAN bus: its kind in CANx_LEC and its count in CANx_ECNT.ERRORS (19, R418). -/

namespace Sys2Proof.Laws

open Sys2Proof Sys2Proof.Machine

/-! ### What leaves the record of an error alone -/

/-- From `s` to `t` what controller `c` has recorded of its errors has not changed, nor has the image in force. -/
def ErrorRecordKept (c : Nat) (s t : State) : Prop :=
  t.reg (CAN_LEC c) = s.reg (CAN_LEC c) ∧ t.fld (CAN_ECNT c) 0 16 = s.fld (CAN_ECNT c) 0 16 ∧ t.conf = s.conf

/-- Register `a` is neither CANx_LEC nor CANx_ECNT of controller `c`. -/
def OffErrorRecord (c a : Nat) : Prop := CAN_LEC c ≠ a ∧ CAN_ECNT c ≠ a

theorem offErrorRecord_stat (c : Nat) : OffErrorRecord c (CAN_STAT c) := by
  unfold OffErrorRecord CAN_LEC CAN_ECNT CAN_STAT; omega

theorem offErrorRecord_istat (c : Nat) : OffErrorRecord c (CAN_ISTAT c) := by
  unfold OffErrorRecord CAN_LEC CAN_ECNT CAN_ISTAT; omega

theorem offErrorRecord_errc (c : Nat) : OffErrorRecord c (CAN_ERRC c) := by
  unfold OffErrorRecord CAN_LEC CAN_ECNT CAN_ERRC; omega

theorem offErrorRecord_tdc (c : Nat) : OffErrorRecord c (CAN_TDC c) := by
  unfold OffErrorRecord CAN_LEC CAN_ECNT CAN_TDC; omega

/-- The buffers' control registers lie above CANx_ECNT, whatever the buffer's number. -/
theorem offErrorRecord_mbCtrl (c n : Nat) : OffErrorRecord c (CAN_MB_CTRL c n) := by
  unfold OffErrorRecord CAN_LEC CAN_ECNT CAN_MB_CTRL; omega

section
variable {c : Nat} {s t : State}

theorem errorRecordKept_refl (c : Nat) (s : State) : ErrorRecordKept c s s := ⟨rfl, rfl, rfl⟩

theorem errorRecordKept_setReg (h : ErrorRecordKept c s t) {a : Nat} (ha : OffErrorRecord c a) (v : Word) :
    ErrorRecordKept c s (t.setReg a v) := by
  obtain ⟨hlec, hcnt, hconf⟩ := h
  exact ⟨(reg_setReg_ne t v ha.1).trans hlec, (fld_setReg_ne t v 0 16 ha.2).trans hcnt, hconf⟩

theorem errorRecordKept_setFld (h : ErrorRecordKept c s t) {a : Nat} (ha : OffErrorRecord c a) (l w x : Nat) :
    ErrorRecordKept c s (t.setFld a l w x) := errorRecordKept_setReg h ha _

theorem errorRecordKept_raise (h : ErrorRecordKept c s t) {a : Nat} (ha : OffErrorRecord c a) (i : Nat) :
    ErrorRecordKept c s (t.raise a i) := errorRecordKept_setReg h ha _

theorem errorRecordKept_lower (h : ErrorRecordKept c s t) {a : Nat} (ha : OffErrorRecord c a) (i : Nat) :
    ErrorRecordKept c s (t.lower a i) := errorRecordKept_setReg h ha _

/-- The count of bus-off entries is the other half of CANx_ECNT. -/
theorem errorRecordKept_bumpBusOff (h : ErrorRecordKept c s t) (n : Nat) :
    ErrorRecordKept c s (t.bump (CAN_ECNT c) 16 16 n) := by
  obtain ⟨hlec, hcnt, hconf⟩ := h
  have hne : CAN_LEC c ≠ CAN_ECNT c := by unfold CAN_LEC CAN_ECNT; omega
  exact ⟨(reg_setFld_ne t _ _ _ hne).trans hlec,
    (fld_setFld_disjoint t _ (.inl (by decide)) (by decide)).trans hcnt, hconf⟩

theorem errorRecordKept_modCan (h : ErrorRecordKept c s t) (f : CanSt → CanSt) : ErrorRecordKept c s (modCan c f t) := h

theorem errorRecordKept_canRestate (h : ErrorRecordKept c s t) : ErrorRecordKept c s (canRestate c t) := by
  unfold canRestate
  extract_lets st new
  have hnew := errorRecordKept_raise (errorRecordKept_setFld h (offErrorRecord_stat c) 0 2 new) (offErrorRecord_istat c) 2
  split_ifs
  · exact h
  · exact errorRecordKept_bumpBusOff (errorRecordKept_raise hnew (offErrorRecord_istat c) 3) 1
  · exact hnew

theorem errorRecordKept_canLeft (h : ErrorRecordKept c s t) : ErrorRecordKept c s (canLeft c t) := by
  refine errorRecordKept_modCan (errorRecordKept_lower ?_ (offErrorRecord_stat c) 3) _
  refine foldl_keeps (P := ErrorRecordKept c s) (fun u n hu => ?_) _ h
  have hended := errorRecordKept_lower (errorRecordKept_lower hu (offErrorRecord_mbCtrl c n) 4) (offErrorRecord_mbCtrl c n) 5
  dsimp only
  split_ifs
  · exact hended
  · exact errorRecordKept_raise hended (offErrorRecord_mbCtrl c n) 11
  · exact hu

theorem errorRecordKept_frameOver (h : ErrorRecordKept c s t) : ErrorRecordKept c s (frameOver c t) := by
  unfold frameOver
  split_ifs
  · exact errorRecordKept_canLeft h
  · exact h

theorem errorRecordKept_noteDelay (h : ErrorRecordKept c s t) (n d : Nat) : ErrorRecordKept c s (noteDelay c n d t) := by
  have hdelay := errorRecordKept_setFld h (offErrorRecord_tdc c) 0 7 (min d 127)
  unfold noteDelay
  dsimp only
  split_ifs
  · exact errorRecordKept_raise hdelay (offErrorRecord_tdc c) 7
  · exact hdelay
  · exact h

theorem errorRecordKept_attemptEnd (h : ErrorRecordKept c s t) (n : Nat) : ErrorRecordKept c s (attemptEnd c n t) :=
  errorRecordKept_modCan (errorRecordKept_lower h (offErrorRecord_mbCtrl c n) 5) _

/-- The image in force alone decides the class of a fault source (R467). -/
theorem faultClass_congr (h : t.conf = s.conf) (n : Nat) : t.faultClass n = s.faultClass n := by
  unfold State.faultClass State.faultRec
  rw [h]

theorem faultClass_of_errorRecordKept (h : ErrorRecordKept c s t) (n : Nat) : t.faultClass n = s.faultClass n := by
  obtain ⟨-, -, hconf⟩ := h
  exact faultClass_congr hconf n

end

/-- Sources 74 and 75 of Table 22-3: entry of a controller into bus-off. -/
theorem faultSource_busOff (c : Fin 2) : (faultSource (74 + c)).isSome = true := by revert c; decide

theorem errorRecord_notMem_faultRegs (c : Fin 2) : CAN_LEC c ∉ faultRegs ∧ CAN_ECNT c ∉ faultRegs := by revert c; decide

/-- A report of entry into bus-off below class 4 leaves the CAN registers alone. -/
theorem errorRecordKept_report {c : Fin 2} {s t : State} (h : ErrorRecordKept c s t) (hclass : s.faultClass (74 + c) ≤ 3) :
    ErrorRecordKept c s (report (74 + c) t) := by
  rw [← faultClass_of_errorRecordKept h] at hclass
  obtain ⟨hlec, hcnt, hconf⟩ := h
  obtain ⟨hlecOff, hcntOff⟩ := errorRecord_notMem_faultRegs c
  obtain ⟨hregs, r, f, l, x, k, e⟩ := reportFrame_report (by omega) (faultSource_busOff c) hclass
  refine ⟨(hregs _ hlecOff).trans hlec, ?_, ?_⟩
  · rw [← hcnt, State.fld, State.fld, hregs _ hcntOff]
  · rw [← hconf, e]; rfl

/-! ### The record of an error (R418) -/

/-- From `s` to `t` controller `c` has recorded error `e` in CANx_LEC and counted it in CANx_ECNT.ERRORS. -/
def ErrorRecorded (c : Nat) (e : CanError) (s t : State) : Prop :=
  t.fld (CAN_LEC c) 0 3 = lecCode e ∧ t.fld (CAN_ECNT c) 0 16 = min (s.fld (CAN_ECNT c) 0 16 + 1) 0xFFFF

theorem lecCode_lt (e : CanError) : lecCode e < 2 ^ 3 := by cases e <;> decide

theorem errorRecorded_canError (c : Nat) (e : CanError) (s : State) : ErrorRecorded c e s (canError c e s) := by
  have hne : CAN_LEC c ≠ CAN_ECNT c := by unfold CAN_LEC CAN_ECNT; omega
  constructor
  · calc (canError c e s).fld (CAN_LEC c) 0 3
      _ = (s.setFld (CAN_LEC c) 0 3 (lecCode e)).fld (CAN_LEC c) 0 3 := fld_setFld_ne _ _ _ _ _ _ hne
      _ = lecCode e % 2 ^ 3 := fld_setFld_same s _ (by decide)
      _ = lecCode e := Nat.mod_eq_of_lt (lecCode_lt e)
  · have hcnt : (s.setFld (CAN_LEC c) 0 3 (lecCode e)).fld (CAN_ECNT c) 0 16 = s.fld (CAN_ECNT c) 0 16 :=
      fld_setFld_ne _ _ _ _ _ _ hne.symm
    rw [canError, State.bump, fld_setFld_same _ _ (by decide), hcnt, satAdd]
    omega

/-- What keeps the record, before the error and after it, does not change what the error records. -/
theorem errorRecorded_between {c : Nat} {e : CanError} {s t u : State} (hbefore : ErrorRecordKept c s t)
    (hafter : ErrorRecordKept c (canError c e t) u) : ErrorRecorded c e s u := by
  obtain ⟨-, hcnt, -⟩ := hbefore
  obtain ⟨hlec', hcnt', -⟩ := hafter
  obtain ⟨hkind, hcount⟩ := errorRecorded_canError c e t
  exact ⟨by rw [← hkind, State.fld, State.fld, hlec'], by rw [hcnt', hcount, hcnt]⟩

theorem faultClass_canError (c : Nat) (e : CanError) (s : State) (n : Nat) :
    (canError c e s).faultClass n = s.faultClass n := faultClass_congr rfl n

/-- A command that ends in a state with the error recorded completes with it recorded. -/
theorem yields_errorRecorded {i : Instr} {c : Nat} {e : CanError} {s t : State} (hexec : exec i s = finish t)
    (h : ErrorRecorded c e s t) : Yields i s (ErrorRecorded c e s) := by
  refine yields_of_finish hexec ?_
  rwa [ErrorRecorded, settle_fld, settle_fld]

/-! ### Errors while receiving -/

theorem reportMany_nil (s : State) : reportMany [] s = s := by
  have hnone : (((List.range 128).filter fun n => (faultSource n).isSome).flatMap fun n => [].filter (· = n)) = [] := by
    simp
  rw [reportMany, hnone]

/-- The end of a frame in which a receiver has found an error. -/
theorem errorRecorded_rxError (c : Nat) (e : CanError) (heavy : Bool) (s : State) :
    ErrorRecorded c e s (frameOver c (rxError c e heavy s)) :=
  errorRecorded_between (errorRecordKept_refl c s) (errorRecordKept_frameOver (errorRecordKept_canRestate
    (errorRecordKept_setFld (errorRecordKept_refl c _) (offErrorRecord_errc c) _ _ _)))

theorem exec_canRxError {s : State} {c : Fin 2} (honline : s.canOnline c = true) (e : CanError) (heavy : Bool) :
    exec (.canRxError c e heavy) s = finish (frameOver c (rxError c e heavy s)) :=
  congrArg finish (if_pos honline)

/-- An FD frame at a controller with FD disabled is an error of format (R403). -/
theorem exec_canFrameReceived_fdDisabled {s : State} {c : Fin 2} {f : CanFrame} (honline : s.canOnline c = true)
    (hhears : s.canHears c = true) (hfdf : f.fdf = true) (hfd : s.canFlag c 0 = false) (time : Word) :
    exec (.canFrameReceived c f time [] none) s = finish (frameOver c (rxError c .form false s)) := by
  have hack : s.acknowledges c f = false := by simp [State.acknowledges, hfdf, hfd]
  show execCanFrameReceived c f time [] none s = _
  simp [execCanFrameReceived, honline, hhears, hack, Rep.run, reportMany_nil]

/-! ### Errors while sending -/

/-- The attempt of buffer `b` fails: its delay is noted, and a buffer that ABORT met on the bus is not offered again. -/
def attemptFailed (c b : Nat) (delay : Option Nat) (s : State) : State :=
  let s := match delay with
    | some d => noteDelay c b d s
    | none => s
  attemptEnd c b (if (s.canOf c).onBus = some b then (s.lower (CAN_MB_CTRL c b) 4).raise (CAN_MB_CTRL c b) 11 else s)

/-- What follows on the record of an error while sending: `n` ACK errors in a row, and TEC unless `keep` holds. -/
def txErrorEffect (c : Fin 2) (n : Nat) (keep : Bool) (s : State) : State :=
  let s := modCan c (fun k => { k with ackErrors := n }) s
  let s := if keep then s else s.setFld (CAN_ERRC c) 0 9 (min 511 (s.tec c + 8))
  let s := if 16 ≤ n ∧ !s.flag (CAN_STAT c) 2 then (s.raise (CAN_STAT c) 2).raise (CAN_ISTAT c) 4 else s
  let s := canRestate c s
  frameOver c (if s.canState c = canBusOff then report (74 + c.val) s else s)

theorem exec_canTxError {s : State} {c : Fin 2} {b : Nat} (honline : s.canOnline c = true) (hb : s.offered c = some b)
    (e : CanError) (delay : Option Nat) :
    ∃ n keep, exec (.canTxError c e delay) s =
      finish (txErrorEffect c n keep (canError c e (attemptFailed c b delay s))) := by
  refine ⟨if e = .ack then (s.canOf c).ackErrors + 1 else 0, e = .ack && s.canState c = canPassive, ?_⟩
  show execCanTxError c e delay s = _
  rw [execCanTxError, if_pos honline, hb]
  rfl

theorem errorRecordKept_attemptFailed (c b : Nat) (delay : Option Nat) (s : State) :
    ErrorRecordKept c s (attemptFailed c b delay s) := by
  have hended : ∀ t, ErrorRecordKept c s t → ErrorRecordKept c s (attemptEnd c b
      (if (t.canOf c).onBus = some b then (t.lower (CAN_MB_CTRL c b) 4).raise (CAN_MB_CTRL c b) 11 else t)) := by
    intro t ht
    refine errorRecordKept_attemptEnd ?_ b
    split_ifs
    · exact errorRecordKept_raise (errorRecordKept_lower ht (offErrorRecord_mbCtrl c b) 4) (offErrorRecord_mbCtrl c b) 11
    · exact ht
  cases delay with
  | none => exact hended s (errorRecordKept_refl c s)
  | some d => exact hended _ (errorRecordKept_noteDelay (errorRecordKept_refl c s) b d)

theorem errorRecordKept_txErrorEffect {c : Fin 2} {s : State} (hclass : s.faultClass (74 + c) ≤ 3) (n : Nat) (keep : Bool) :
    ErrorRecordKept c s (txErrorEffect c n keep s) := by
  unfold txErrorEffect
  extract_lets counted teced alone restated
  have hcounted : ErrorRecordKept c s counted := errorRecordKept_modCan (errorRecordKept_refl c s) _
  have hteced : ErrorRecordKept c s teced := by
    unfold teced
    split_ifs
    · exact hcounted
    · exact errorRecordKept_setFld hcounted (offErrorRecord_errc c) _ _ _
  have halone : ErrorRecordKept c s alone := by
    unfold alone
    split_ifs
    · exact errorRecordKept_raise (errorRecordKept_raise hteced (offErrorRecord_stat c) 2) (offErrorRecord_istat c) 4
    · exact hteced
  have hrestated : ErrorRecordKept c s restated := errorRecordKept_canRestate halone
  refine errorRecordKept_frameOver ?_
  split_ifs
  · exact errorRecordKept_report hrestated hclass
  · exact hrestated

/-- Settles O59: in each of the three commands the error is recorded once, and what comes before it and after it keeps the
record. -/
theorem canErrorsRecorded : Obligations.CanErrorsRecorded := by
  unfold Obligations.CanErrorsRecorded
  refine ⟨?receiving, ?sending, ?fdFrame⟩
  case receiving =>
    intro s c e heavy honline
    exact yields_errorRecorded (exec_canRxError honline e heavy) (errorRecorded_rxError c e heavy s)
  case sending =>
    intro s c e delay honline hoffered hclass
    obtain ⟨b, hb⟩ := Option.isSome_iff_exists.mp hoffered
    obtain ⟨n, keep, hexec⟩ := exec_canTxError honline hb e delay
    have hbefore := errorRecordKept_attemptFailed c b delay s
    have hclass' : (canError c e (attemptFailed c b delay s)).faultClass (74 + c) ≤ 3 := by
      rwa [faultClass_canError, faultClass_of_errorRecordKept hbefore]
    exact yields_errorRecorded hexec (errorRecorded_between hbefore (errorRecordKept_txErrorEffect hclass' n keep))
  case fdFrame =>
    intro s c f time honline hhears hfdf hfd
    exact yields_errorRecorded (exec_canFrameReceived_fdDisabled honline hhears hfdf hfd time)
      (errorRecorded_rxError c .form false s)

end Sys2Proof.Laws
end

section
/-! SUPPORT. A ROLE_ACK that comes after the TIMEOUT of its request (21, R454), at a device that rests in P1 (09, R182). -/

namespace Sys2Proof.Laws

open Sys2Proof Sys2Proof.Machine

/-! ### A flock that rests in P1 -/

/-- A structure image that declares a flock of two members on both Fyrd ports and nothing else. -/
def flockImage : Image :=
  { version := 1, len := 4096, glyphHash := [], digest := [], tenants := [], regions := [], channels := [], telltales := [],
    rails := [], canctls := [], canmaps := [], ladder := none,
    flock := some { members := 2, ports := 3, maxRev := 1, flockId := 0x77 }, links := [], trims := [], bounds := [],
    faults := [], palettes := [] }

/-- The device of DEVID 5 and rank 0 leads a JOINED flock with the member of DEVID 9 and rank 1. Both Fyrd links were UP
when the device went from P0 to P1, and are UP still. Its request for a swap has ended with RESULT 6 TIMEOUT. -/
def restingState : State :=
  ({ State.reset with
    ctl := { Ctl.reset with phase := .run, porHigh := true, railsOk := true }
    cfg := some flockImage
    otp := { OtpSt.reset with force := { OtpForce.reset with life := 1, devid := 5, rank := 0 } }
    pwr := { PwrSt.reset with upAtEntry := 0b1100 }
    flk := { FlkSt.reset with members := [(1, { Member.reset with devid := 9 })] } } : State).setFld PWR_STAT 0 3 1
    |>.setFld (LNK_STAT 2) 0 2 lnUp
    |>.setFld (LNK_STAT 3) 0 2 lnUp
    |>.setFlds FLK_STAT [(0, 2, fkJoined), (2, 1, 1), (4, 2, 0), (8, 4, 1), (20, 4, 6)]
    |>.setFld FLK_MEMBERS 0 4 0b0011

/-- ROLE_ACK of member 1 to DEVID 5 (Table 21-3): DONE, the leader is rank 1. -/
def lateRoleAck : List Byte :=
  leBytes 1 6 ++ leBytes 1 0 ++ leBytes 1 1 ++ leBytes 1 1 ++ leBytes 4 4 ++ leBytes 8 9 ++ leBytes 8 5 ++ [1, 1, 0, 0]

theorem restingState_hears_lateRoleAck : restingState.hears 0 lateRoleAck := by unfold State.hears; decide +kernel

/-- The late ROLE_ACK is activity of FRD0, a wake source in P1 (Table 9-2): it starts the exit, and PWR_WAKE_SRC takes the
source (R182). -/
theorem restingState_lateRoleAck_wakes : ∃ u, exec (.flkRoleAck 0 lateRoleAck) restingState = .next u ∧
    u.pwr.exiting = some 1 ∧ u.fld PWR_WAKE_SRC 0 4 = 10 :=
  ⟨_, rfl, by decide +kernel, by decide +kernel⟩

/-- Refutes O60: its clause on the later ROLE_ACK lets no register but FLK_CNT change, and has no premise that the device is
in P0. In P1 a ROLE_ACK wakes the device by its arrival, whatever becomes of its content, and that changes PWR_WAKE_SRC. -/
theorem not_roleRequestTimeout : ¬ Obligations.RoleRequestTimeout := by
  unfold Obligations.RoleRequestTimeout
  rintro ⟨-, hlate⟩
  obtain ⟨u, hu, hregs, -⟩ := hlate restingState 0 lateRoleAck 1 restingState_hears_lateRoleAck (by decide +kernel)
    (by decide +kernel) (by decide +kernel) rfl
  obtain ⟨v, hv, -, hwake⟩ := restingState_lateRoleAck_wakes
  obtain rfl : u = v := by simpa using hu.symm.trans hv
  have hkept : u.fld PWR_WAKE_SRC 0 4 = restingState.fld PWR_WAKE_SRC 0 4 := by
    rw [State.fld, State.fld, hregs PWR_WAKE_SRC (by decide)]
  have hbefore : restingState.fld PWR_WAKE_SRC 0 4 = 0 := by decide +kernel
  omega

end Sys2Proof.Laws
end

section
/-! SUPPORT. Who may write the FLT block (22, R471). -/

namespace Sys2Proof.Laws

open Sys2Proof Sys2Proof.Machine

/-- The registers of the FLT block may be written by T0 and T1 alone, each only where REG_WR grants it the block, and
FLT_WDG_KICK by T1 alone; the rules that name a register of another block do not touch them. -/
theorem mayWrite_fltBlock_iff (s : State) (k : Nat) {a : Nat} (ha : blockOf a = blockOf FLT_COUNT) :
    s.mayWrite k a = true ↔
      (s.tenantRec k).any (fun r => bit r.regWr (blockOf FLT_COUNT)) = true ∧ k ≤ 1 ∧ (a = FLT_WDG_KICK → k = 1) := by
  have hblk : blockOf FLT_COUNT = 113 := by decide
  rw [hblk] at ha ⊢
  have hsto : a ≠ STO_CTRL := ne_of_apply_ne blockOf (by rw [ha]; decide)
  have hpwr : a ≠ PWR_REQ := ne_of_apply_ne blockOf (by rw [ha]; decide)
  have ht1 : ¬ (TT_T1_REQ 0 ≤ a ∧ a < TT_T1_REQ 4) := by
    unfold blockOf at ha
    unfold TT_T1_REQ
    omega
  simp [State.mayWrite, ha, hsto, hpwr, ht1, imp_iff_not_or, and_assoc]

/-- A requester with the rights of a tenant other than T0 and T1, of one that REG_WR does not grant the block, or for
FLT_WDG_KICK of one other than T1, does not have its write of an FLT register carried out. -/
theorem not_takes_fltBlock {s : State} {t : Requester} {a : Nat} (ha : blockOf a = blockOf FLT_COUNT)
    (h : 1 < whoOf t ∨ (s.tenantRec (whoOf t)).any (fun r => bit r.regWr (blockOf FLT_COUNT)) = false ∨
      (a = FLT_WDG_KICK ∧ whoOf t ≠ 1)) :
    ¬ s.takes t a := by
  rintro ⟨-, -, -, hw⟩
  obtain ⟨hgranted, hle, hkick⟩ := (mayWrite_fltBlock_iff s (whoOf t) ha).mp hw
  rcases h with hlt | hno | ⟨he, hne⟩
  · omega
  · simp [hgranted] at hno
  · exact hne (hkick he)

/-- Settles O55: every command named is an access to a register of the FLT block, and `mayWrite_fltBlock_iff` says who may
write it. -/
theorem faultBlockRights : Obligations.FaultBlockRights := by
  unfold Obligations.FaultBlockRights
  refine ⟨?_, ?_, ?_, ?_⟩
  · intro s t a w same hh hs hblk hm halign hr
    exact registerWrite_refused hm halign hh hs (not_takes_fltBlock hblk hr) w same
  · intro s t w hh hs hr c hc
    have hn {a : Nat} (ha : blockOf a = blockOf FLT_COUNT) : ¬ s.takes t a :=
      not_takes_fltBlock ha (hr.imp_right .inl)
    simp only [List.mem_cons, List.not_mem_nil, or_false] at hc
    obtain rfl | rfl := hc
    · exact yields_refused (a := FLT_SAFE_CTRL) (op := wrSafeCtrl) rfl hh hs (hn (by decide))
    · exact yields_refused (a := FLT_QSRC) (op := wrQsrc) rfl hh hs (hn (by decide))
  · intro s t w ms hh hs hr
    have hn : ¬ s.takes t FLT_WDG_KICK :=
      not_takes_fltBlock (by decide) (.inr (hr.symm.imp_right fun hne => ⟨rfl, hne⟩))
    exact yields_refused (op := wrWdgKick ms) rfl hh hs hn
  · intro s t a hh hs hport hle hblk hkick hgranted
    exact ⟨hh, hs, fun h => absurd h hport, (mayWrite_fltBlock_iff s (whoOf t) hblk).mpr ⟨hgranted, hle, hkick⟩⟩

end Sys2Proof.Laws
end
